-- ==== Sys2Proof/Word.lean ====
section
/-! DEFINITION. The words of the BC-416's serial links, the unit numbers, and the fixed tables that hold one
element for each unit. Quantities (volumes, hours, clocks, counts) are plain numbers: the book says all quantities are
integers (00_scope.md, Units and number conventions). -/

namespace Sys2Proof

/-- One byte of a link (section 11.1). -/
abbrev Byte := BitVec 8

/-- A 16-bit word of a link: a tag (section 11.3), a CRC (section 11.1), a fluid set or a notice mask (section 11.2). -/
abbrev Half := BitVec 16

/-- Link n of the book (1 to 3) is index n - 1. -/
abbrev Link := Fin 3

/-- Island number, 0 to 3. -/
abbrev IslandNo := Fin 4

/-- Hose number, 0 to 15. -/
abbrev HoseNo := Fin 16

/-- Tank number, 0 to 9. -/
abbrev TankNo := Fin 10

/-- Fluid code, 0 to 15. -/
abbrev FluidNo := Fin 16

/-- A table with one element for each unit. -/
abbrev Table (α : Type) (n : Nat) := Vector α n

/-- The table with the element at `i` replaced by `x`. -/
def Table.put {α : Type} {n : Nat} (v : Table α n) (i : Fin n) (x : α) : Table α n :=
  v.set i x

/-- The table with the element at `i` changed by `f`. -/
def Table.modify {α : Type} {n : Nat} (v : Table α n) (i : Fin n) (f : α → α) : Table α n :=
  Table.put v i (f (v.get i))

end Sys2Proof
end

