-- ==== Sys2Proof/Config.lean ====
section
/-! DEFINITION. The figures the book fixes for this part: table sizes, widths, limits of fields, codes of the part.
The book leaves no result of a command open, so there is no free value here (NOTES.md, Assumptions, says where the
model takes a choice as an operand of a command instead). -/

namespace Sys2Proof.Config

/-- Journal places (R135). -/
def journalPlaces : Nat := 64
/-- Account places (R111). -/
def accountPlaces : Nat := 512
/-- Requests held by a port's queue (R175). -/
def queueDepth : Nat := 4
/-- Replies made at arrival that may wait to be sent (R175). -/
def arrivalReplies : Nat := 4
/-- Entries listed by one SHUTDOWN_READ of ALL (R168). -/
def entriesPerRead : Nat := 12
/-- Largest 32-bit unsigned figure: clocks, sequence numbers, reserved, unassigned-draw total (R1, R85, R135). -/
def max32 : Nat := 4294967295
/-- Largest 64-bit figure: fuel carry and lifetime totals (R112), gross accumulator (R59). -/
def max64 : Nat := 18446744073709551615
/-- Largest 72-bit figure: net accumulator (R59). -/
def max72 : Nat := 4722366482869645213695
/-- Book limits (R94). -/
def bookMin : Int := -2147483648
def bookMax : Int := 2147483647
/-- Largest hour reading (R112). -/
def maxHours : Nat := 9999999
/-- Largest volume of a configured field, preset or docket (R4, R55, R85, R103). -/
def maxVolume : Nat := 2000000000
/-- Temperatures accepted, in tenths of a degree (R61). -/
def tempMin : Int := -500
def tempMax : Int := 800
/-- The standard temperature of 15.0 degrees (R62, R66). -/
def tempStandard : Int := 150
/-- The correction factor at the standard temperature (R66). -/
def unitFactor : Int := 10000000
/-- Saturation of the frame error count and of warning counts (R174, R162). -/
def max16 : Nat := 65535
/-- Saturation of one-byte counts: stray, fault, repeat and notice counts (R52, R97, R150, R180). -/
def max8 : Nat := 255
/-- Frame timer, in tenths of a second (R173). -/
def frameTime : Nat := 10
/-- Rate window, in tenths of a second (R35). -/
def rateWindow : Nat := 10
/-- The free unreserved count at which JOURNAL_LOW is raised, when it is reached from above (R143). -/
def journalLowMark : Nat := 8
/-- Consecutive gauge faults that report GAUGE_FAULT (R97). -/
def gaugeFaultLimit : Nat := 3
/-- Settings image format version accepted (R188). -/
def imageVersion : Nat := 2
/-- IDENTIFY's codes (R186). -/
def vendorCode : Nat := 0x4447
def partCode : Nat := 0x0416
def revision : Nat := 1
/-- Start byte of a frame (section 11.1). -/
def startByte : Byte := 0xA5
/-- Lengths of a frame body (section 11.1). -/
def bodyMin : Nat := 3
def bodyMax : Nat := 250

end Sys2Proof.Config
end

