-- ==== Sys2Proof/Syntax.lean ====
section
/-! DEFINITION. The commands of the BC-416: one constructor of `Instr` for each row of the opcode table (the part's steps:
requests taken from a link, events of a link, of the field inputs, of the timers and of the supply), with the
enumerations of Table 11-4 and the fields that requests carry. -/

namespace Sys2Proof

/-! ## Enumerations of Table 11-4, each in the order of its codes -/

/-- Link roles (R178). -/
inductive Role where
  | office | workshop | lanes | view
  deriving DecidableEq, Repr

/-- Step kinds (R2). -/
inductive StepKind where
  | preset | openFill | recover | presetRecover
  deriving DecidableEq, Repr

/-- Step states (R2). -/
inductive StepState where
  | pending | waitingCouple | runningFast | runningSlow | settling | suspended | ended | notRun
  deriving DecidableEq, Repr

/-- Step end statuses (R50); `notRun` is the status with which a journal step record shows a NOT_RUN step (R137). -/
inductive StepEnd where
  | complete | full | stopped | uncoupled | stalled | notCoupled | noStock | noRoom | tankUnavailable | shutdown
  | driveAway | cancelled | reset | notRun
  deriving DecidableEq, Repr

/-- Which bound fixed a step's target (R31, R33). -/
inductive LimitedBy where
  | unbounded | hoseLimit | machineCapacity | stock | room
  deriving DecidableEq, Repr

/-- Order states (R1). -/
inductive OrderState where
  | active | holdPending | held | ending
  deriving DecidableEq, Repr

/-- Hold reasons (R1). -/
inductive HoldReason where
  | gap | request | power
  deriving DecidableEq, Repr

/-- Suspension reasons (R2). -/
inductive SuspendReason where
  | power | presence
  deriving DecidableEq, Repr

/-- Order end statuses (R24). -/
inductive OrderEnd where
  | complete | completeWithErrors | stopped | cancelled | shutdown | driveAway | abandoned | reset
  deriving DecidableEq, Repr

/-- The eleven causes, in the order of the table of R149. -/
inductive Cause where
  | bayStop | storeLost | sumpHigh | driveAway | overfill | leak | gaugeFault | hoseBreak | strayFlow | runOn | linkTrip
  deriving DecidableEq, Repr

/-- The thirteen notice kinds (section 9.5, Table 11-4). -/
inductive NoticeKind where
  | orderEnded | stepEnded | orderHeld | trip | warning | journalWaiting | journalLow | accountReview | highUse | tankLow
  | receiptVariance | saveEnded | restart
  deriving DecidableEq, Repr

/-- Journal record kinds (R136). -/
inductive RecordKind where
  | service | receipt | stockAdjust
  deriving DecidableEq, Repr

/-- Receipt statuses (R138). -/
inductive ReceiptStatus where
  | closed | cancelled
  deriving DecidableEq, Repr

/-- Reasons of a STOCK_SET (R106). -/
inductive StockReason where
  | dip | calibration | transfer | other
  deriving DecidableEq, Repr

/-- Tank roles (R85). -/
inductive TankRole where
  | supply | waste
  deriving DecidableEq, Repr

/-- Tank states (R85). -/
inductive TankState where
  | inService | receiving | outOfService
  deriving DecidableEq, Repr

/-- Fluid kinds (R86). -/
inductive FluidKind where
  | fuel | engineOil | hydraulic | transmission | coolant | usedOil | other
  deriving DecidableEq, Repr

/-- Actions of a cause (R149). -/
inductive CauseAction where
  | trip | warn | off
  deriving DecidableEq, Repr

/-- Account classes (R112). -/
inductive AccountClass where
  | haul | loader | dozer | support | light
  deriving DecidableEq, Repr

/-- States of an account (R112). FREE is a place that holds no account. -/
inductive AccountState where
  | active | review | blocked
  deriving DecidableEq, Repr

/-- Selections of ACCOUNT_NEXT (R133). -/
inductive AccountSelection where
  | all | review | highUse | blocked
  deriving DecidableEq, Repr

/-- Presence states (R74). -/
inductive Presence where
  | absent | arriving | present | leaving
  deriving DecidableEq, Repr

/-- Valve stages (R29). -/
inductive ValveStage where
  | closed | low | full
  deriving DecidableEq, Repr

/-- Origins of a temperature in force (R56). -/
inductive TempSource where
  | standard | gauge | probe | probeHeld
  deriving DecidableEq, Repr

/-- Leak-watch states (R99). -/
inductive LeakState where
  | busy | waiting | quiet
  deriving DecidableEq, Repr

/-- Supply states (R194). -/
inductive SupplyState where
  | normal | hold
  deriving DecidableEq, Repr

/-- Outcomes of a settings save (R192). -/
inductive SaveOutcome where
  | ok | failed
  deriving DecidableEq, Repr

/-- The supervisor's retention report (R193). -/
inductive Retention where
  | kept | lost
  deriving DecidableEq, Repr

/-- Reasons carried by RESTART (R198). -/
inductive RestartReason where
  | powerOnKept | powerOnLost | externalReset
  deriving DecidableEq, Repr

/-- Results of a trip request (R163). -/
inductive TripResult where
  | new | again
  deriving DecidableEq, Repr

/-- The 31 scope objects (R153). -/
inductive Scope where
  | bay | island (i : IslandNo) | tank (t : TankNo) | hose (h : HoseNo)
  deriving DecidableEq, Repr

/-- Origins of a shutdown entry (R153, Table 11-4). -/
inductive Origin where
  | field | startUp | link (l : Link) | presenceMonitor | orderUnit | stockUnit | hoseChannel
  deriving DecidableEq, Repr

/-- The request kinds of Table 11-1. -/
inductive Kind where
  | orderAdmit | orderHold | orderContinue | orderCancel | stepStop
  | orderRead | islandRead | tankRead | hoseRead | shutdownRead | warnRead | journalRead | journalStatus | accountRead
  | accountNext | clockRead | supplyRead | identify
  | hoseSet | islandSet | tankSet | fluidSet | strapLoad | causeSet | accountLimitsSet | linkSet | clockSet | settingsSave
  | receiptOpen | receiptClose | receiptCancel | stockSet
  | accountCreate | accountEdit | accountBlock | accountUnblock | accountDelete | hoursConfirm | hoursRebase | lubeSet
  | journalRelease | shutdownClear
  | tripBay | tripIsland | tripTank | tripHose
  | noticeFetch | noticeMaskSet | linkStatus | linkReset
  deriving DecidableEq, Repr

/-- The outcome codes of Table 11-2. -/
inductive Code where
  | ok | busy | unknownKind | badLength | outOfRange | notPermitted | state | inUse | supplyHold
  | islandDisabled | notPresent | islandBusy | shut | noAccount | accountBlocked | accountInUse | hourBehind | badStep
  | fluidNotPermitted | journalFull
  | noOrder | notHeld
  | badTable | gaugeFault
  | tableFull | duplicate
  | empty | seqMismatch | notFound
  | notLatched | conditionPresent
  deriving DecidableEq, Repr

/-! ## The fields that requests carry

A field is as it was sent: its owner tests its range (R203). Flags are bytes, because the owner refuses a flag byte
other than 0 and 1 (section 11.2). An optional field that was sent absent is `none`. -/

/-- Why a body does not decode (R202, R203). -/
inductive DecodeRefusal where
  | badLength | outOfRange
  deriving DecidableEq, Repr

/-- A request's body as the decoder leaves it: its fields, or the reason why it does not decode (R202, R203). -/
inductive Sent (α : Type) where
  | fields (a : α)
  | undecodable (r : DecodeRefusal)
  deriving DecidableEq, Repr

/-- One step of an ORDER_ADMIT body (section 11.4). An unknown step kind code is `none` (R203). Preset 0 is absent. -/
structure AdmitStep where
  kind : Option StepKind
  hose : Nat
  flags : Byte
  preset : Nat
  deriving DecidableEq, Repr

/-- The fields of ORDER_ADMIT (section 11.4). -/
structure AdmitFields where
  island : Nat
  machine : Nat
  hour : Option Nat
  steps : List AdmitStep
  deriving DecidableEq, Repr

/-- STEP_STOP: an island and a step index, 1 to 8 (R14). -/
structure StopFields where
  island : Nat
  index : Nat
  deriving DecidableEq, Repr

/-- SHUTDOWN_READ's selector (R168). -/
inductive ShutdownSelect where
  | all (start : Scope)
  | one (o : Scope)
  deriving DecidableEq, Repr

/-- JOURNAL_READ's selector (R144). -/
inductive JournalSelect where
  | oldest
  | byNumber (n : Nat)
  deriving DecidableEq, Repr

/-- ACCOUNT_NEXT (R133). -/
structure NextFields where
  above : Nat
  selection : AccountSelection
  cls : Option AccountClass
  deriving DecidableEq, Repr

/-- HOSE_SET: a hose and its full configuration, in the order of R54 (R55). -/
structure HoseSetFields where
  hose : Nat
  island : Nat
  tank : Option Nat
  factor : Nat
  slowDown : Nat
  stallTime : Nat
  settleTime : Nat
  maxPulses : Nat
  runOnLimit : Nat
  coupleWait : Nat
  stepLimit : Nat
  strayThreshold : Nat
  enabled : Nat
  deriving DecidableEq, Repr

/-- ISLAND_SET (R82). -/
structure IslandSetFields where
  island : Nat
  enabled : Nat
  arrival : Nat
  leaving : Nat
  deriving DecidableEq, Repr

/-- TANK_SET: every configuration field of R85 but the strapping table, and a requested state (R107). -/
structure TankSetFields where
  tank : Nat
  role : TankRole
  fluid : Nat
  capacity : Nat
  lowLimit : Nat
  highLimit : Nat
  reorder : Nat
  minStart : Nat
  tolerance : Nat
  leakThreshold : Nat
  quietTime : Nat
  staleTime : Nat
  state : TankState
  deriving DecidableEq, Repr

/-- FLUID_SET (R86). -/
structure FluidSetFields where
  fluid : Nat
  isDefined : Nat
  kind : FluidKind
  beta : Nat
  deriving DecidableEq, Repr

/-- One point of a strapping table: a level in mm and a gross volume in mL (R95). -/
structure StrapPoint where
  level : Nat
  volume : Nat
  deriving DecidableEq, Repr

/-- STRAP_LOAD (R95). -/
structure StrapFields where
  tank : Nat
  points : List StrapPoint
  deriving DecidableEq, Repr

/-- CAUSE_SET (R152). -/
structure CauseSetFields where
  cause : Cause
  action : CauseAction
  deriving DecidableEq, Repr

/-- ACCOUNT_LIMITS_SET (R115). -/
structure LimitsFields where
  jumpLimit : Nat
  minSpan : Nat
  deriving DecidableEq, Repr

/-- LINK_SET: a link 1 to 3, a role and two notice masks (R179). -/
structure LinkSetFields where
  link : Nat
  role : Role
  record : Half
  attention : Half
  deriving DecidableEq, Repr

/-- NOTICE_MASK_SET: two notice masks (R183). -/
structure MaskFields where
  record : Half
  attention : Half
  deriving DecidableEq, Repr

/-- RECEIPT_CLOSE: a tank and an optional docket (R103). -/
structure CloseFields where
  tank : Nat
  docket : Option Nat
  deriving DecidableEq, Repr

/-- STOCK_SET (R106). -/
structure StockSetFields where
  tank : Nat
  book : Int
  reason : StockReason
  deriving DecidableEq, Repr

/-- ACCOUNT_CREATE and ACCOUNT_EDIT (R126, R127). -/
structure AccountFields where
  machine : Nat
  cls : AccountClass
  fluids : Half
  capacity : Nat
  margin : Nat
  deriving DecidableEq, Repr

/-- HOURS_REBASE: a machine number and a new reading (R131); the absent code of the reading is `none`. -/
structure RebaseFields where
  machine : Nat
  reading : Option Nat
  deriving DecidableEq, Repr

/-- One lube entry: a fluid code, an interval, hours at last service and a minimum service quantity (R112). -/
structure LubeEntry where
  fluid : Nat
  interval : Nat
  lastService : Option Nat
  minQuantity : Nat
  deriving DecidableEq, Repr

/-- LUBE_SET (R132). -/
structure LubeFields where
  machine : Nat
  entries : List LubeEntry
  deriving DecidableEq, Repr

/-! ## The operands of events -/

/-- A reading of a hose's temperature input (R61): valid, in tenths of a degree, or faulty. -/
inductive ProbeReading where
  | valid (tenths : Int)
  | faulty
  deriving DecidableEq, Repr

/-- A report to the shutdown unit (R149, R150): a cause against a scope object of the cause's kind. A BAY_STOP from a
link and a LINK_TRIP also carry the link. -/
inductive Report where
  | bayStop (sender : Option Link)
  | storeLost
  | sumpHigh (i : IslandNo)
  | driveAway (i : IslandNo)
  | overfill (t : TankNo)
  | leak (t : TankNo)
  | gaugeFault (t : TankNo)
  | hoseBreak (h : HoseNo)
  | strayFlow (h : HoseNo)
  | runOn (h : HoseNo)
  | linkTrip (o : Scope) (sender : Link)
  deriving DecidableEq, Repr

/-- How a save ends (R192): the check word has been written, the memory did not answer, or an item read back differed. -/
inductive SaveEnd where
  | written | noAnswer | differed
  deriving DecidableEq, Repr

/-- How far a running save had come when it was cut off (R192): stage 1 was not complete, or it was. With no save
running the operand says nothing. -/
inductive SaveCut where
  | beforeMark | afterMark
  deriving DecidableEq, Repr

/-- How far a start-up goes (R196, R199): to its end, or no further than its stage 1 and the first `n` of the actions after it,
since a supply loss or an external reset then stops it. -/
inductive StartReach where
  | whole
  | actions (n : Nat)
  deriving DecidableEq, Repr

/-- What the outside makes of a start-up: whether the settings memory answers, and how far it goes (R196, R197). -/
structure StartRun where
  answers : Bool
  reach : StartReach
  deriving DecidableEq, Repr

/-! ## The commands -/

/-- The commands. A request names the link it was sent on, its tag and its body as decoded; the other rows are the
events of a link, of the field inputs, of a timer, of the shutdown unit and of the supply. -/
inductive Instr where
  | orderAdmit (l : Link) (tag : Half) (b : Sent AdmitFields)
  | orderHold (l : Link) (tag : Half) (b : Sent Nat)
  | orderContinue (l : Link) (tag : Half) (b : Sent Nat)
  | orderCancel (l : Link) (tag : Half) (b : Sent Nat)
  | stepStop (l : Link) (tag : Half) (b : Sent StopFields)
  | orderRead (l : Link) (tag : Half) (b : Sent Nat)
  | islandRead (l : Link) (tag : Half) (b : Sent Nat)
  | tankRead (l : Link) (tag : Half) (b : Sent Nat)
  | hoseRead (l : Link) (tag : Half) (b : Sent Nat)
  | shutdownRead (l : Link) (tag : Half) (b : Sent ShutdownSelect)
  | warnRead (l : Link) (tag : Half) (b : Sent Unit)
  | journalRead (l : Link) (tag : Half) (b : Sent JournalSelect)
  | journalStatus (l : Link) (tag : Half) (b : Sent Unit)
  | accountRead (l : Link) (tag : Half) (b : Sent Nat)
  | accountNext (l : Link) (tag : Half) (b : Sent NextFields)
  | clockRead (l : Link) (tag : Half) (b : Sent Unit)
  | supplyRead (l : Link) (tag : Half) (b : Sent Unit)
  | identify (l : Link) (tag : Half) (b : Sent Unit)
  | hoseSet (l : Link) (tag : Half) (b : Sent HoseSetFields)
  | islandSet (l : Link) (tag : Half) (b : Sent IslandSetFields)
  | tankSet (l : Link) (tag : Half) (b : Sent TankSetFields)
  | fluidSet (l : Link) (tag : Half) (b : Sent FluidSetFields)
  | strapLoad (l : Link) (tag : Half) (b : Sent StrapFields)
  | causeSet (l : Link) (tag : Half) (b : Sent CauseSetFields)
  | accountLimitsSet (l : Link) (tag : Half) (b : Sent LimitsFields)
  | linkSet (l : Link) (tag : Half) (b : Sent LinkSetFields)
  | clockSet (l : Link) (tag : Half) (b : Sent Nat)
  | settingsSave (l : Link) (tag : Half) (b : Sent Unit)
  | receiptOpen (l : Link) (tag : Half) (b : Sent Nat)
  | receiptClose (l : Link) (tag : Half) (b : Sent CloseFields)
  | receiptCancel (l : Link) (tag : Half) (b : Sent Nat)
  | stockSet (l : Link) (tag : Half) (b : Sent StockSetFields)
  | accountCreate (l : Link) (tag : Half) (b : Sent AccountFields)
  | accountEdit (l : Link) (tag : Half) (b : Sent AccountFields)
  | accountBlock (l : Link) (tag : Half) (b : Sent Nat)
  | accountUnblock (l : Link) (tag : Half) (b : Sent Nat)
  | accountDelete (l : Link) (tag : Half) (b : Sent Nat)
  | hoursConfirm (l : Link) (tag : Half) (b : Sent Nat)
  | hoursRebase (l : Link) (tag : Half) (b : Sent RebaseFields)
  | lubeSet (l : Link) (tag : Half) (b : Sent LubeFields)
  | journalRelease (l : Link) (tag : Half) (b : Sent Nat)
  | shutdownClear (l : Link) (tag : Half) (b : Sent Scope)
  | tripBay (l : Link) (tag : Half) (b : Sent Unit)
  | tripIsland (l : Link) (tag : Half) (b : Sent Nat)
  | tripTank (l : Link) (tag : Half) (b : Sent Nat)
  | tripHose (l : Link) (tag : Half) (b : Sent Nat)
  | noticeFetch (l : Link) (tag : Half) (b : Sent Unit)
  | noticeMaskSet (l : Link) (tag : Half) (b : Sent MaskFields)
  | linkStatus (l : Link) (tag : Half) (b : Sent Unit)
  | linkReset (l : Link) (tag : Half) (b : Sent Unit)
  | unknownKindRequest (l : Link) (tag : Half) (kind : Byte)
  | linkByteReceived (l : Link) (b : Byte)
  | frameTimerExpiry (l : Link)
  | replySent (l : Link)
  | meterPulse (h : HoseNo)
  | probeReading (h : HoseNo) (r : ProbeReading)
  | hoseCoupled (h : HoseNo)
  | hoseUncoupled (h : HoseNo)
  | detectorAsserted (i : IslandNo)
  | detectorNegated (i : IslandNo)
  | arrivalDebounceExpiry (i : IslandNo)
  | leavingDebounceExpiry (i : IslandNo)
  | sumpFloatChange (i : IslandNo) (level : Bool)
  | gaugeReadingValid (t : TankNo) (level : Nat) (tenths : Int)
  | gaugeReadingFaulty (t : TankNo)
  | gaugeStaleExpiry (t : TankNo)
  | overfillProbeChange (t : TankNo) (level : Bool)
  | leakQuietExpiry (t : TankNo)
  | emergencyStopChange (level : Bool)
  | coupleWaitExpiry (h : HoseNo)
  | stallTimerExpiry (h : HoseNo)
  | rateWindowExpiry (h : HoseNo)
  | settleTimerExpiry (h : HoseNo)
  | strayQuietExpiry (h : HoseNo)
  | shutdownReport (r : Report)
  | saveCompletion (e : SaveEnd)
  | powerFailWarningAsserted
  | powerFailWarningNegated
  | supplyLoss (cut : SaveCut)
  | powerOn (r : Retention) (run : StartRun)
  | externalResetAsserted (cut : SaveCut)
  | externalResetNegated (run : StartRun)
  | bayClockTick
  deriving DecidableEq, Repr

end Sys2Proof
end

