-- ==== Sys2Proof/Decode.lean ====
section
/-! DEFINITION. Decoding: the codes of Chapter 11, the CRC of section 11.1, and the decoder of request bodies (R202,
R203), which acts on a body when the link unit takes it. The opcode table gives no row any bits, so `decodeTableWord`
answers none for every word. -/

namespace Sys2Proof

/-! ## Codes: each enumeration is listed in the order of its codes from 0 (Table 11-4) -/

def Role.codes : List Role := [.office, .workshop, .lanes, .view]
def StepKind.codes : List StepKind := [.preset, .openFill, .recover, .presetRecover]
def StepState.codes : List StepState :=
  [.pending, .waitingCouple, .runningFast, .runningSlow, .settling, .suspended, .ended, .notRun]
def StepEnd.codes : List StepEnd :=
  [.complete, .full, .stopped, .uncoupled, .stalled, .notCoupled, .noStock, .noRoom, .tankUnavailable, .shutdown,
    .driveAway, .cancelled, .reset, .notRun]
def LimitedBy.codes : List LimitedBy := [.unbounded, .hoseLimit, .machineCapacity, .stock, .room]
def OrderState.codes : List OrderState := [.active, .holdPending, .held, .ending]
def HoldReason.codes : List HoldReason := [.gap, .request, .power]
def SuspendReason.codes : List SuspendReason := [.power, .presence]
def OrderEnd.codes : List OrderEnd :=
  [.complete, .completeWithErrors, .stopped, .cancelled, .shutdown, .driveAway, .abandoned, .reset]
def Cause.codes : List Cause :=
  [.bayStop, .storeLost, .sumpHigh, .driveAway, .overfill, .leak, .gaugeFault, .hoseBreak, .strayFlow, .runOn, .linkTrip]
def NoticeKind.codes : List NoticeKind :=
  [.orderEnded, .stepEnded, .orderHeld, .trip, .warning, .journalWaiting, .journalLow, .accountReview, .highUse, .tankLow,
    .receiptVariance, .saveEnded, .restart]
def RecordKind.codes : List RecordKind := [.service, .receipt, .stockAdjust]
def ReceiptStatus.codes : List ReceiptStatus := [.closed, .cancelled]
def StockReason.codes : List StockReason := [.dip, .calibration, .transfer, .other]
def TankRole.codes : List TankRole := [.supply, .waste]
def TankState.codes : List TankState := [.inService, .receiving, .outOfService]
def FluidKind.codes : List FluidKind :=
  [.fuel, .engineOil, .hydraulic, .transmission, .coolant, .usedOil, .other]
def CauseAction.codes : List CauseAction := [.trip, .warn, .off]
def AccountClass.codes : List AccountClass := [.haul, .loader, .dozer, .support, .light]
def AccountState.codes : List AccountState := [.active, .review, .blocked]
def AccountSelection.codes : List AccountSelection := [.all, .review, .highUse, .blocked]
def Presence.codes : List Presence := [.absent, .arriving, .present, .leaving]
def ValveStage.codes : List ValveStage := [.closed, .low, .full]
def TempSource.codes : List TempSource := [.standard, .gauge, .probe, .probeHeld]
def LeakState.codes : List LeakState := [.busy, .waiting, .quiet]
def SupplyState.codes : List SupplyState := [.normal, .hold]
def SaveOutcome.codes : List SaveOutcome := [.ok, .failed]
def Retention.codes : List Retention := [.kept, .lost]
def RestartReason.codes : List RestartReason := [.powerOnKept, .powerOnLost, .externalReset]
def TripResult.codes : List TripResult := [.new, .again]

/-- Every island, hose, tank, fluid code and link, in ascending order. -/
def allIslands : List IslandNo := List.finRange 4
def allHoses : List HoseNo := List.finRange 16
def allTanks : List TankNo := List.finRange 10
def allFluids : List FluidNo := List.finRange 16
def allLinks : List Link := List.finRange 3

/-- The 31 scope objects in scope order (R168, Table 11-4). -/
def Scope.codes : List Scope :=
  .bay :: (allIslands.map .island ++ allTanks.map .tank ++ allHoses.map .hose)

/-- A scope object's code: the bay is 0, island n is 1 + n, tank n is 5 + n and hose n is 15 + n (Table 11-4). -/
def Scope.code : Scope → Fin 31
  | .bay => 0
  | .island i => ⟨1 + i.val, by omega⟩
  | .tank t => ⟨5 + t.val, by omega⟩
  | .hose h => ⟨15 + h.val, by omega⟩

/-- Entry origins (Table 11-4). -/
def Origin.codes : List Origin :=
  [.field, .startUp, .link 0, .link 1, .link 2, .presenceMonitor, .orderUnit, .stockUnit, .hoseChannel]

/-- A code in a list of codes: its place from 0. -/
def codeIn {α : Type} [DecidableEq α] (codes : List α) (a : α) : Nat := codes.findIdx (fun b => decide (b = a))

/-- The index of a cause in the table of causes (R149). -/
def Cause.index : Cause → Fin 11
  | .bayStop => 0 | .storeLost => 1 | .sumpHigh => 2 | .driveAway => 3 | .overfill => 4 | .leak => 5 | .gaugeFault => 6
  | .hoseBreak => 7 | .strayFlow => 8 | .runOn => 9 | .linkTrip => 10

/-- The code of a notice kind (Table 11-4). -/
def NoticeKind.index : NoticeKind → Fin 13
  | .orderEnded => 0 | .stepEnded => 1 | .orderHeld => 2 | .trip => 3 | .warning => 4 | .journalWaiting => 5
  | .journalLow => 6 | .accountReview => 7 | .highUse => 8 | .tankLow => 9 | .receiptVariance => 10 | .saveEnded => 11
  | .restart => 12

/-- Request kind codes (Table 11-1). -/
def Kind.code : Kind → Nat
  | .orderAdmit => 0x01 | .orderHold => 0x02 | .orderContinue => 0x03 | .orderCancel => 0x04 | .stepStop => 0x05
  | .orderRead => 0x10 | .islandRead => 0x11 | .tankRead => 0x12 | .hoseRead => 0x13 | .shutdownRead => 0x14
  | .warnRead => 0x15 | .journalRead => 0x16 | .journalStatus => 0x17 | .accountRead => 0x18 | .accountNext => 0x19
  | .clockRead => 0x1A | .supplyRead => 0x1B | .identify => 0x1C
  | .hoseSet => 0x20 | .islandSet => 0x21 | .tankSet => 0x22 | .fluidSet => 0x23 | .strapLoad => 0x24 | .causeSet => 0x25
  | .accountLimitsSet => 0x26 | .linkSet => 0x27 | .clockSet => 0x28 | .settingsSave => 0x29
  | .receiptOpen => 0x30 | .receiptClose => 0x31 | .receiptCancel => 0x32 | .stockSet => 0x33
  | .accountCreate => 0x40 | .accountEdit => 0x41 | .accountBlock => 0x42 | .accountUnblock => 0x43
  | .accountDelete => 0x44 | .hoursConfirm => 0x45 | .hoursRebase => 0x46 | .lubeSet => 0x47
  | .journalRelease => 0x50 | .shutdownClear => 0x51
  | .tripBay => 0x58 | .tripIsland => 0x59 | .tripTank => 0x5A | .tripHose => 0x5B
  | .noticeFetch => 0x60 | .noticeMaskSet => 0x61 | .linkStatus => 0x62 | .linkReset => 0x63

/-- The kinds of Table 11-1. -/
def Kind.all : List Kind :=
  [.orderAdmit, .orderHold, .orderContinue, .orderCancel, .stepStop, .orderRead, .islandRead, .tankRead, .hoseRead,
    .shutdownRead, .warnRead, .journalRead, .journalStatus, .accountRead, .accountNext, .clockRead, .supplyRead, .identify,
    .hoseSet, .islandSet, .tankSet, .fluidSet, .strapLoad, .causeSet, .accountLimitsSet, .linkSet, .clockSet,
    .settingsSave, .receiptOpen, .receiptClose, .receiptCancel, .stockSet, .accountCreate, .accountEdit, .accountBlock,
    .accountUnblock, .accountDelete, .hoursConfirm, .hoursRebase, .lubeSet, .journalRelease, .shutdownClear, .tripBay,
    .tripIsland, .tripTank, .tripHose, .noticeFetch, .noticeMaskSet, .linkStatus, .linkReset]

/-- The kind of a kind byte, when Table 11-1 has it. -/
def Kind.ofCode (n : Nat) : Option Kind := Kind.all.find? (fun k => decide (k.code = n))

/-- Outcome codes (Table 11-2). -/
def Code.code : Code → Nat
  | .ok => 0x00 | .busy => 0x01 | .unknownKind => 0x02 | .badLength => 0x03 | .outOfRange => 0x04 | .notPermitted => 0x05
  | .state => 0x06 | .inUse => 0x07 | .supplyHold => 0x08
  | .islandDisabled => 0x10 | .notPresent => 0x11 | .islandBusy => 0x12 | .shut => 0x13 | .noAccount => 0x14
  | .accountBlocked => 0x15 | .accountInUse => 0x16 | .hourBehind => 0x17 | .badStep => 0x18 | .fluidNotPermitted => 0x19
  | .journalFull => 0x1A
  | .noOrder => 0x20 | .notHeld => 0x21 | .badTable => 0x28 | .gaugeFault => 0x29 | .tableFull => 0x30
  | .duplicate => 0x31 | .empty => 0x38 | .seqMismatch => 0x39 | .notFound => 0x3A | .notLatched => 0x40
  | .conditionPresent => 0x41

/-- The outcome with which an undecodable body is answered (R202, R203). -/
def DecodeRefusal.code : DecodeRefusal → Code
  | .badLength => .badLength
  | .outOfRange => .outOfRange

/-! ## The CRC of section 11.1 -/

/-- One of the eight shifts of the register. -/
def crcShift (r : Nat) : Nat :=
  if 0x8000 ≤ r then ((r * 2) ^^^ 0x1021) % 0x10000 else r * 2

/-- The register after one byte. -/
def crcByte (r : Nat) (b : Byte) : Nat :=
  crcShift (crcShift (crcShift (crcShift (crcShift (crcShift (crcShift (crcShift (r ^^^ (b.toNat * 256)))))))))

/-- The CRC of a run of bytes: the register starts at 0xFFFF and is sent as it stands. -/
def crc16 (bytes : List Byte) : Nat := bytes.foldl crcByte 0xFFFF

/-! ## Fields of a body -/

/-- Bytes as an unsigned number, high byte first. -/
def ofBytes (bytes : List Byte) : Nat := bytes.foldl (fun n b => n * 256 + b.toNat) 0

/-- The unsigned field of `size` bytes at offset `off` of the parameters. -/
def fieldAt (p : List Byte) (off size : Nat) : Nat := ofBytes ((p.drop off).take size)

/-- A 16-bit field. -/
def halfAt (p : List Byte) (off : Nat) : Half := BitVec.ofNat 16 (fieldAt p off 2)

/-- A signed 32-bit field, two's complement. -/
def signedAt (p : List Byte) (off : Nat) : Int :=
  let n := fieldAt p off 4
  if n < 2147483648 then (n : Int) else (n : Int) - 4294967296

/-- An optional one-byte field whose absent code is 0xFF. -/
def optionalAt (p : List Byte) (off : Nat) : Option Nat :=
  if fieldAt p off 1 = 255 then none else some (fieldAt p off 1)

/-- An hour reading or hours-at-last-service field: `none` when it does not decode (R203), `some none` when absent. -/
def hoursAt (p : List Byte) (off : Nat) : Option (Option Nat) :=
  let n := fieldAt p off 4
  if n = Config.max32 then some none
  else if n ≤ Config.maxHours then some (some n) else none

/-- An enumeration field: `none` when its code is not in the list (R203). -/
def enumAt {α : Type} (codes : List α) (p : List Byte) (off : Nat) : Option α := codes[fieldAt p off 1]?

/-- A body of `n` parameter bytes, whose field values are then tested (R202, R203). -/
def sized {α : Type} (n : Nat) (p : List Byte) (f : Option α) : Sent α :=
  if p.length = n then
    match f with
    | some a => .fields a
    | none => .undecodable .outOfRange
  else .undecodable .badLength

/-- `n` pieces of `size` bytes each. -/
def pieces (size : Nat) : Nat → List Byte → List (List Byte)
  | 0, _ => []
  | n + 1, p => p.take size :: pieces size n (p.drop size)

/-- All of the values, when every one is there. -/
def allSome {α : Type} : List (Option α) → Option (List α)
  | [] => some []
  | none :: _ => none
  | some a :: rest => (allSome rest).map (a :: ·)

/-! ## Bodies of the kinds: parameters from offset 3, in the order in which the request's rule lists them -/

/-- No parameters. -/
def decodeNone (p : List Byte) : Sent Unit := sized 0 p (some ())

/-- One unsigned parameter of `size` bytes. -/
def decodeOne (size : Nat) (p : List Byte) : Sent Nat := sized size p (some (fieldAt p 0 size))

/-- One step of ORDER_ADMIT (section 11.4). -/
def decodeAdmitStep (q : List Byte) : AdmitStep where
  kind := enumAt StepKind.codes q 0
  hose := fieldAt q 1 1
  flags := BitVec.ofNat 8 (fieldAt q 2 1)
  preset := fieldAt q 3 4

/-- ORDER_ADMIT: 8 bytes and 7 for each step of the step count (section 11.4, R202). -/
def decodeAdmitFields (p : List Byte) : Sent AdmitFields :=
  let n := fieldAt p 7 1
  if p.length < 8 then .undecodable .badLength
  else sized (8 + 7 * n) p <|
    (hoursAt p 3).map fun hour =>
      { island := fieldAt p 0 1, machine := fieldAt p 1 2, hour,
        steps := (pieces 7 n (p.drop 8)).map decodeAdmitStep }

def decodeStop (p : List Byte) : Sent StopFields := sized 2 p (some ⟨fieldAt p 0 1, fieldAt p 1 1⟩)

/-- SHUTDOWN_READ: a selector and a scope object (R168), both sent whichever the selector (DEDUCED, log entry 26). -/
def decodeShutdownSelect (p : List Byte) : Sent ShutdownSelect :=
  sized 2 p <|
    match enumAt [false, true] p 0, enumAt Scope.codes p 1 with
    | some false, some o => some (.all o)
    | some true, some o => some (.one o)
    | _, _ => none

/-- JOURNAL_READ: a selector and a sequence number, which OLDEST does not use (R144; DEDUCED, log entry 26). -/
def decodeJournalSelect (p : List Byte) : Sent JournalSelect :=
  sized 5 p <|
    match enumAt [false, true] p 0 with
    | some false => some .oldest
    | some true => some (.byNumber (fieldAt p 1 4))
    | none => none

/-- ACCOUNT_NEXT: a machine number, a selection and an optional class (R133). -/
def decodeNext (p : List Byte) : Sent NextFields :=
  sized 4 p <|
    match enumAt AccountSelection.codes p 2, optionalAt p 3 with
    | some sel, none => some ⟨fieldAt p 0 2, sel, none⟩
    | some sel, some c => (AccountClass.codes[c]?).map fun cls => ⟨fieldAt p 0 2, sel, some cls⟩
    | none, _ => none

/-- HOSE_SET: the fields in the order of R54. -/
def decodeHoseSet (p : List Byte) : Sent HoseSetFields :=
  sized 30 p <| some
    { hose := fieldAt p 0 1, island := fieldAt p 1 1, tank := optionalAt p 2, factor := fieldAt p 3 4,
      slowDown := fieldAt p 7 4, stallTime := fieldAt p 11 2, settleTime := fieldAt p 13 2, maxPulses := fieldAt p 15 2,
      runOnLimit := fieldAt p 17 4, coupleWait := fieldAt p 21 2, stepLimit := fieldAt p 23 4,
      strayThreshold := fieldAt p 27 2, enabled := fieldAt p 29 1 }

def decodeIslandSet (p : List Byte) : Sent IslandSetFields :=
  sized 6 p (some ⟨fieldAt p 0 1, fieldAt p 1 1, fieldAt p 2 2, fieldAt p 4 2⟩)

/-- TANK_SET: the fields in the order of R85, then the requested state. -/
def decodeTankSet (p : List Byte) : Sent TankSetFields :=
  sized 36 p <|
    match enumAt TankRole.codes p 1, enumAt TankState.codes p 35 with
    | some role, some state => some
      { tank := fieldAt p 0 1, role, fluid := fieldAt p 2 1, capacity := fieldAt p 3 4, lowLimit := fieldAt p 7 4,
        highLimit := fieldAt p 11 4, reorder := fieldAt p 15 4, minStart := fieldAt p 19 4, tolerance := fieldAt p 23 4,
        leakThreshold := fieldAt p 27 4, quietTime := fieldAt p 31 2, staleTime := fieldAt p 33 2, state }
    | _, _ => none

def decodeFluidSet (p : List Byte) : Sent FluidSetFields :=
  sized 5 p <| (enumAt FluidKind.codes p 2).map fun kind => ⟨fieldAt p 0 1, fieldAt p 1 1, kind, fieldAt p 3 2⟩

/-- STRAP_LOAD: the tank, a count byte and 6 bytes for each point (section 11.2, R202). -/
def decodeStrap (p : List Byte) : Sent StrapFields :=
  let n := fieldAt p 1 1
  if p.length < 2 then .undecodable .badLength
  else sized (2 + 6 * n) p <| some
    { tank := fieldAt p 0 1, points := (pieces 6 n (p.drop 2)).map fun q => ⟨fieldAt q 0 2, fieldAt q 2 4⟩ }

def decodeCauseSet (p : List Byte) : Sent CauseSetFields :=
  sized 2 p <|
    match enumAt Cause.codes p 0, enumAt CauseAction.codes p 1 with
    | some cause, some action => some ⟨cause, action⟩
    | _, _ => none

def decodeLimits (p : List Byte) : Sent LimitsFields := sized 8 p (some ⟨fieldAt p 0 4, fieldAt p 4 4⟩)

/-- LINK_SET: the link number, for which section 11.2 gives no type, is one byte, then the role and the two masks (R179; DESIGN
CHOICE, log entry 15). -/
def decodeLinkSet (p : List Byte) : Sent LinkSetFields :=
  sized 6 p <| (enumAt Role.codes p 1).map fun role => ⟨fieldAt p 0 1, role, halfAt p 2, halfAt p 4⟩

def decodeMasks (p : List Byte) : Sent MaskFields := sized 4 p (some ⟨halfAt p 0, halfAt p 2⟩)

/-- RECEIPT_CLOSE: the docket is sent as 0 when absent (section 11.2). -/
def decodeClose (p : List Byte) : Sent CloseFields :=
  sized 5 p <| some ⟨fieldAt p 0 1, if fieldAt p 1 4 = 0 then none else some (fieldAt p 1 4)⟩

def decodeStockSet (p : List Byte) : Sent StockSetFields :=
  sized 6 p <| (enumAt StockReason.codes p 5).map fun reason => ⟨fieldAt p 0 1, signedAt p 1, reason⟩

def decodeAccount (p : List Byte) : Sent AccountFields :=
  sized 11 p <| (enumAt AccountClass.codes p 2).map fun cls => ⟨fieldAt p 0 2, cls, halfAt p 3, fieldAt p 5 4, fieldAt p 9 2⟩

def decodeRebase (p : List Byte) : Sent RebaseFields :=
  sized 6 p <| (hoursAt p 2).map fun reading => ⟨fieldAt p 0 2, reading⟩

/-- One lube entry of LUBE_SET (section 11.2). -/
def decodeLubeEntry (q : List Byte) : Option LubeEntry :=
  (hoursAt q 5).map fun last => ⟨fieldAt q 0 1, fieldAt q 1 4, last, fieldAt q 9 4⟩

/-- LUBE_SET: the machine number, a count byte and 13 bytes for each entry (section 11.2, R202). -/
def decodeLube (p : List Byte) : Sent LubeFields :=
  let n := fieldAt p 2 1
  if p.length < 3 then .undecodable .badLength
  else sized (3 + 13 * n) p <|
    (allSome ((pieces 13 n (p.drop 3)).map decodeLubeEntry)).map fun entries => ⟨fieldAt p 0 2, entries⟩

def decodeScope (p : List Byte) : Sent Scope := sized 1 p (enumAt Scope.codes p 0)

/-- The command of a request of kind `k` on link `l` with its tag and its parameters (R202, R203). -/
def decodeKind (l : Link) (tag : Half) (k : Kind) (p : List Byte) : Instr :=
  match k with
  | .orderAdmit => .orderAdmit l tag (decodeAdmitFields p)
  | .orderHold => .orderHold l tag (decodeOne 1 p)
  | .orderContinue => .orderContinue l tag (decodeOne 1 p)
  | .orderCancel => .orderCancel l tag (decodeOne 1 p)
  | .stepStop => .stepStop l tag (decodeStop p)
  | .orderRead => .orderRead l tag (decodeOne 1 p)
  | .islandRead => .islandRead l tag (decodeOne 1 p)
  | .tankRead => .tankRead l tag (decodeOne 1 p)
  | .hoseRead => .hoseRead l tag (decodeOne 1 p)
  | .shutdownRead => .shutdownRead l tag (decodeShutdownSelect p)
  | .warnRead => .warnRead l tag (decodeNone p)
  | .journalRead => .journalRead l tag (decodeJournalSelect p)
  | .journalStatus => .journalStatus l tag (decodeNone p)
  | .accountRead => .accountRead l tag (decodeOne 2 p)
  | .accountNext => .accountNext l tag (decodeNext p)
  | .clockRead => .clockRead l tag (decodeNone p)
  | .supplyRead => .supplyRead l tag (decodeNone p)
  | .identify => .identify l tag (decodeNone p)
  | .hoseSet => .hoseSet l tag (decodeHoseSet p)
  | .islandSet => .islandSet l tag (decodeIslandSet p)
  | .tankSet => .tankSet l tag (decodeTankSet p)
  | .fluidSet => .fluidSet l tag (decodeFluidSet p)
  | .strapLoad => .strapLoad l tag (decodeStrap p)
  | .causeSet => .causeSet l tag (decodeCauseSet p)
  | .accountLimitsSet => .accountLimitsSet l tag (decodeLimits p)
  | .linkSet => .linkSet l tag (decodeLinkSet p)
  | .clockSet => .clockSet l tag (decodeOne 4 p)
  | .settingsSave => .settingsSave l tag (decodeNone p)
  | .receiptOpen => .receiptOpen l tag (decodeOne 1 p)
  | .receiptClose => .receiptClose l tag (decodeClose p)
  | .receiptCancel => .receiptCancel l tag (decodeOne 1 p)
  | .stockSet => .stockSet l tag (decodeStockSet p)
  | .accountCreate => .accountCreate l tag (decodeAccount p)
  | .accountEdit => .accountEdit l tag (decodeAccount p)
  | .accountBlock => .accountBlock l tag (decodeOne 2 p)
  | .accountUnblock => .accountUnblock l tag (decodeOne 2 p)
  | .accountDelete => .accountDelete l tag (decodeOne 2 p)
  | .hoursConfirm => .hoursConfirm l tag (decodeOne 2 p)
  | .hoursRebase => .hoursRebase l tag (decodeRebase p)
  | .lubeSet => .lubeSet l tag (decodeLube p)
  | .journalRelease => .journalRelease l tag (decodeOne 4 p)
  | .shutdownClear => .shutdownClear l tag (decodeScope p)
  | .tripBay => .tripBay l tag (decodeNone p)
  | .tripIsland => .tripIsland l tag (decodeOne 1 p)
  | .tripTank => .tripTank l tag (decodeOne 1 p)
  | .tripHose => .tripHose l tag (decodeOne 1 p)
  | .noticeFetch => .noticeFetch l tag (decodeNone p)
  | .noticeMaskSet => .noticeMaskSet l tag (decodeMasks p)
  | .linkStatus => .linkStatus l tag (decodeNone p)
  | .linkReset => .linkReset l tag (decodeNone p)

/-- The tag of a body (section 11.3). -/
def bodyTag (body : List Byte) : Half := BitVec.ofNat 16 (fieldAt body 0 2)

/-- The kind byte of a body (section 11.3). -/
def bodyKind (body : List Byte) : Byte := BitVec.ofNat 8 (fieldAt body 2 1)

/-- The command that takes a body queued at link `l`. -/
def decodeBody (l : Link) (body : List Byte) : Instr :=
  match Kind.ofCode (bodyKind body).toNat with
  | some k => decodeKind l (bodyTag body) k (body.drop 3)
  | none => .unknownKindRequest l (bodyTag body) (bodyKind body)

/-! ## What a request says of itself -/

/-- What a request command says of itself: its link, its tag, its kind, and why its body does not decode, if it does
not. -/
structure RequestInfo where
  link : Link
  tag : Half
  kind : Kind
  undecodable : Option DecodeRefusal
  deriving DecidableEq, Repr

/-- Why a body does not decode. -/
def reason {α : Type} : Sent α → Option DecodeRefusal
  | .fields _ => none
  | .undecodable r => some r

/-- The request that a command is; events are none, and so is a request of no known kind. -/
def requestInfo : Instr → Option RequestInfo
  | .orderAdmit l tag b => some ⟨l, tag, .orderAdmit, reason b⟩
  | .orderHold l tag b => some ⟨l, tag, .orderHold, reason b⟩
  | .orderContinue l tag b => some ⟨l, tag, .orderContinue, reason b⟩
  | .orderCancel l tag b => some ⟨l, tag, .orderCancel, reason b⟩
  | .stepStop l tag b => some ⟨l, tag, .stepStop, reason b⟩
  | .orderRead l tag b => some ⟨l, tag, .orderRead, reason b⟩
  | .islandRead l tag b => some ⟨l, tag, .islandRead, reason b⟩
  | .tankRead l tag b => some ⟨l, tag, .tankRead, reason b⟩
  | .hoseRead l tag b => some ⟨l, tag, .hoseRead, reason b⟩
  | .shutdownRead l tag b => some ⟨l, tag, .shutdownRead, reason b⟩
  | .warnRead l tag b => some ⟨l, tag, .warnRead, reason b⟩
  | .journalRead l tag b => some ⟨l, tag, .journalRead, reason b⟩
  | .journalStatus l tag b => some ⟨l, tag, .journalStatus, reason b⟩
  | .accountRead l tag b => some ⟨l, tag, .accountRead, reason b⟩
  | .accountNext l tag b => some ⟨l, tag, .accountNext, reason b⟩
  | .clockRead l tag b => some ⟨l, tag, .clockRead, reason b⟩
  | .supplyRead l tag b => some ⟨l, tag, .supplyRead, reason b⟩
  | .identify l tag b => some ⟨l, tag, .identify, reason b⟩
  | .hoseSet l tag b => some ⟨l, tag, .hoseSet, reason b⟩
  | .islandSet l tag b => some ⟨l, tag, .islandSet, reason b⟩
  | .tankSet l tag b => some ⟨l, tag, .tankSet, reason b⟩
  | .fluidSet l tag b => some ⟨l, tag, .fluidSet, reason b⟩
  | .strapLoad l tag b => some ⟨l, tag, .strapLoad, reason b⟩
  | .causeSet l tag b => some ⟨l, tag, .causeSet, reason b⟩
  | .accountLimitsSet l tag b => some ⟨l, tag, .accountLimitsSet, reason b⟩
  | .linkSet l tag b => some ⟨l, tag, .linkSet, reason b⟩
  | .clockSet l tag b => some ⟨l, tag, .clockSet, reason b⟩
  | .settingsSave l tag b => some ⟨l, tag, .settingsSave, reason b⟩
  | .receiptOpen l tag b => some ⟨l, tag, .receiptOpen, reason b⟩
  | .receiptClose l tag b => some ⟨l, tag, .receiptClose, reason b⟩
  | .receiptCancel l tag b => some ⟨l, tag, .receiptCancel, reason b⟩
  | .stockSet l tag b => some ⟨l, tag, .stockSet, reason b⟩
  | .accountCreate l tag b => some ⟨l, tag, .accountCreate, reason b⟩
  | .accountEdit l tag b => some ⟨l, tag, .accountEdit, reason b⟩
  | .accountBlock l tag b => some ⟨l, tag, .accountBlock, reason b⟩
  | .accountUnblock l tag b => some ⟨l, tag, .accountUnblock, reason b⟩
  | .accountDelete l tag b => some ⟨l, tag, .accountDelete, reason b⟩
  | .hoursConfirm l tag b => some ⟨l, tag, .hoursConfirm, reason b⟩
  | .hoursRebase l tag b => some ⟨l, tag, .hoursRebase, reason b⟩
  | .lubeSet l tag b => some ⟨l, tag, .lubeSet, reason b⟩
  | .journalRelease l tag b => some ⟨l, tag, .journalRelease, reason b⟩
  | .shutdownClear l tag b => some ⟨l, tag, .shutdownClear, reason b⟩
  | .tripBay l tag b => some ⟨l, tag, .tripBay, reason b⟩
  | .tripIsland l tag b => some ⟨l, tag, .tripIsland, reason b⟩
  | .tripTank l tag b => some ⟨l, tag, .tripTank, reason b⟩
  | .tripHose l tag b => some ⟨l, tag, .tripHose, reason b⟩
  | .noticeFetch l tag b => some ⟨l, tag, .noticeFetch, reason b⟩
  | .noticeMaskSet l tag b => some ⟨l, tag, .noticeMaskSet, reason b⟩
  | .linkStatus l tag b => some ⟨l, tag, .linkStatus, reason b⟩
  | .linkReset l tag b => some ⟨l, tag, .linkReset, reason b⟩
  | .unknownKindRequest _ _ _ => none
  | .linkByteReceived _ _ => none
  | .frameTimerExpiry _ => none
  | .replySent _ => none
  | .meterPulse _ => none
  | .probeReading _ _ => none
  | .hoseCoupled _ => none
  | .hoseUncoupled _ => none
  | .detectorAsserted _ => none
  | .detectorNegated _ => none
  | .arrivalDebounceExpiry _ => none
  | .leavingDebounceExpiry _ => none
  | .sumpFloatChange _ _ => none
  | .gaugeReadingValid _ _ _ => none
  | .gaugeReadingFaulty _ => none
  | .gaugeStaleExpiry _ => none
  | .overfillProbeChange _ _ => none
  | .leakQuietExpiry _ => none
  | .emergencyStopChange _ => none
  | .coupleWaitExpiry _ => none
  | .stallTimerExpiry _ => none
  | .rateWindowExpiry _ => none
  | .settleTimerExpiry _ => none
  | .strayQuietExpiry _ => none
  | .shutdownReport _ => none
  | .saveCompletion _ => none
  | .powerFailWarningAsserted => none
  | .powerFailWarningNegated => none
  | .supplyLoss _ => none
  | .powerOn _ _ => none
  | .externalResetAsserted _ => none
  | .externalResetNegated _ => none
  | .bayClockTick => none

/-- The opcode table gives no row any bits (its "fields" are empty and no row has "fixed" bits), so no word spells a
command. -/
def decodeTableWord (_nbits _w : Nat) : Option Instr := none

end Sys2Proof
end

