-- ==== Sys2Proof/Machine/State.lean ====
section
/-! DEFINITION. The state of the BC-416: everything each of its ten blocks owns (00_scope.md, Block configuration), the
levels of its input pins, its outputs, and the queue of commands that wait. All of it is plain data. -/

namespace Sys2Proof.Machine

/-! ## Working configuration and settings image (R188) -/

/-- A hose's configuration (R54, R55). Times are in the units of R55: stall and couple-wait in seconds, settle in tenths. -/
structure HoseCfg where
  island : IslandNo
  tank : Option TankNo
  factor : Nat
  slowDown : Nat
  stallTime : Nat
  settleTime : Nat
  maxPulses : Nat
  runOnLimit : Nat
  coupleWait : Nat
  stepLimit : Nat
  strayThreshold : Nat
  enabled : Bool
  deriving DecidableEq, Repr

/-- An island's configuration (R74): debounce times in tenths of a second. -/
structure IslandCfg where
  enabled : Bool
  arrival : Nat
  leaving : Nat
  deriving DecidableEq, Repr

/-- A tank's configuration fields but the strapping table (R85): quiet time in minutes, stale time in seconds. -/
structure TankCfg where
  role : TankRole
  fluid : FluidNo
  capacity : Nat
  lowLimit : Nat
  highLimit : Nat
  reorder : Nat
  minStart : Nat
  tolerance : Nat
  leakThreshold : Nat
  quietTime : Nat
  staleTime : Nat
  deriving DecidableEq, Repr

/-- A fluid table entry (R86). -/
structure FluidEntry where
  isDefined : Bool
  kind : FluidKind
  beta : Nat
  deriving DecidableEq, Repr

/-- A link's role and masks (R172). Bit n of a mask is the notice kind of code n. -/
structure LinkCfg where
  role : Role
  record : Half
  attention : Half
  deriving DecidableEq, Repr

/-- The working configuration: the items of R188, in its order. -/
structure Settings where
  hoses : Table HoseCfg 16
  islands : Table IslandCfg 4
  tanks : Table TankCfg 10
  straps : Table (List StrapPoint) 10
  fluids : Table FluidEntry 16
  actions : Table CauseAction 11
  links : Table LinkCfg 3
  jumpLimit : Nat
  minSpan : Nat
  deriving DecidableEq, Repr

/-- The settings image in the external serial memory (R188). `check` is the stored check word; none is the value
written by stage 1 of a save, which can match no content (R192). -/
structure Image where
  version : Nat
  items : Settings
  check : Option Nat
  deriving DecidableEq, Repr

/-! ## Orders and steps (R1, R2) -/

/-- The step context, captured at admission (R2, R5). The fluid's kind is captured with its expansion coefficient (R86). -/
structure StepContext where
  tank : TankNo
  fluid : FluidNo
  fluidKind : FluidKind
  beta : Nat
  factor : Nat
  slowDown : Nat
  stallTime : Nat
  settleTime : Nat
  maxPulses : Nat
  runOnLimit : Nat
  coupleWait : Nat
  stepLimit : Nat
  capacityBound : Option Nat
  deriving DecidableEq, Repr

/-- The final reported figures of a step end report (R49), in mL. -/
structure Figures where
  gross : Nat
  net : Nat
  overrun : Nat
  residue : Nat
  deriving DecidableEq, Repr

/-- A step record (R2), with the metering fields of R56 and the run-on mark of R42. `grossAcc` is in microlitres and
`netAcc` in units of 10⁻⁷ microlitre. `netAtClose` is absent until a closing has been recorded. -/
structure Step where
  kind : StepKind
  hose : HoseNo
  preset : Option Nat
  isParallel : Bool
  holdBefore : Bool
  stopOnError : Bool
  ctx : StepContext
  state : StepState
  target : Nat
  limitedBy : LimitedBy
  grossAcc : Nat
  netAcc : Nat
  netAtClose : Option Nat
  suspension : Option SuspendReason
  endStatus : Option StepEnd
  tempHeld : Bool
  tempClamped : Bool
  cause : Option Cause
  runOnReported : Bool
  temp : Int
  tempSource : TempSource
  clampedNow : Bool
  c7 : Nat
  final : Option Figures
  deriving DecidableEq, Repr

/-- An active order (R1); its island is the slot it occupies. The slot is freed as the record is written, so `seq` is never
present while the order is there (DEDUCED, log entry 25). -/
structure Order where
  machine : Nat
  hour : Option Nat
  admissionClock : Nat
  clockNotSet : Bool
  state : OrderState
  hold : Option HoldReason
  gapTaken : Option Nat
  group : Nat
  endStatus : Option OrderEnd
  seq : Option Nat
  steps : List Step
  deriving DecidableEq, Repr

/-- A reference to a step: an island and the step's place in its list, from 0 (R29). -/
structure StepRef where
  island : IslandNo
  idx : Nat
  deriving DecidableEq, Repr

/-- A step end report (R49), on its way from the hose channel to the order unit. -/
structure EndReport where
  ref : StepRef
  status : StepEnd
  target : Nat
  limitedBy : LimitedBy
  figures : Figures
  tempHeld : Bool
  tempClamped : Bool
  cause : Option Cause
  deriving DecidableEq, Repr

/-- The order end summary (R25). -/
structure Summary where
  machine : Nat
  island : IslandNo
  hour : Option Nat
  fuelNet : Nat
  fluids : List (FluidNo × Nat)
  deriving DecidableEq, Repr

/-! ## Hoses, islands and tanks -/

/-- A timer: none is stopped, `some n` runs with `n` tenths of a second left; at 0 its expiry is due. -/
abbrev Timer := Option Nat

/-- A hose channel (R29, R52) with the metering state of its hose (R56). -/
structure Channel where
  coupled : Bool
  valve : ValveStage
  step : Option StepRef
  coupleTimer : Timer
  stallTimer : Timer
  rateTimer : Timer
  settleTimer : Timer
  strayTimer : Timer
  windowCount : Nat
  flow : Nat
  strayCount : Nat
  strayReported : Bool
  temp : Option Int
  strayAcc : Nat
  strayCharged : Nat
  deriving DecidableEq, Repr

/-- An island's field state and last-order sequence number (R74). -/
structure Island where
  presence : Presence
  level : Bool
  timer : Timer
  lastSeq : Option Nat
  float : Bool
  deriving DecidableEq, Repr

/-- An open receipt (R85), with whether the bay clock was unset at the open (R136). -/
structure Receipt where
  openClock : Nat
  clockNotSet : Bool
  gaugedAtOpen : Nat
  drawn : Nat
  deriving DecidableEq, Repr

/-- The gauge state of a tank (R96, R97). -/
structure Gauge where
  level : Nat
  temp : Int
  gross : Nat
  net : Nat
  range : Bool
  valid : Bool
  faults : Nat
  faultCondition : Bool
  deriving DecidableEq, Repr

/-- A tank's stock fields, gauge state, probe level and leak watch (R85, R96 to R99). -/
structure Tank where
  state : TankState
  book : Int
  bookLimit : Bool
  reserved : Nat
  unassigned : Nat
  receipt : Option Receipt
  gauge : Gauge
  staleTimer : Timer
  probe : Bool
  leak : LeakState
  baseline : Option Nat
  quietTimer : Timer
  deriving DecidableEq, Repr

/-! ## Accounts (R112) -/

/-- A high-use mark: bay clock, sample, rate before (R112). -/
structure HighUse where
  clock : Nat
  sample : Nat
  before : Nat
  deriving DecidableEq, Repr

/-- A machine account (R112). Bit n of `fluids` is fluid code n. -/
structure Account where
  machine : Nat
  cls : AccountClass
  state : AccountState
  fluids : Half
  capacity : Nat
  lastHours : Option Nat
  reviewHours : Option Nat
  markHours : Option Nat
  carry : Nat
  rate : Nat
  margin : Nat
  highUse : Option HighUse
  lifetimeFuel : Nat
  lifetimeOther : Nat
  inUse : Option IslandNo
  lube : List LubeEntry
  deriving DecidableEq, Repr

/-! ## Journal (R135 to R138) -/

/-- A step record of a SERVICE record (R137). -/
structure StepRecord where
  hose : HoseNo
  tank : TankNo
  fluid : FluidNo
  kind : StepKind
  preset : Option Nat
  target : Nat
  limitedBy : LimitedBy
  gross : Nat
  net : Nat
  overrun : Nat
  residue : Nat
  status : StepEnd
  isParallel : Bool
  holdBefore : Bool
  stopOnError : Bool
  tempHeld : Bool
  tempClamped : Bool
  cause : Option Cause
  deriving DecidableEq, Repr

/-- A SERVICE record's order fields (R137). -/
structure ServiceRecord where
  island : IslandNo
  machine : Nat
  hour : Option Nat
  admissionClock : Nat
  endClock : Nat
  status : OrderEnd
  steps : List StepRecord
  deriving DecidableEq, Repr

/-- A RECEIPT record (R138). -/
structure ReceiptRecord where
  tank : TankNo
  status : ReceiptStatus
  openClock : Nat
  closeClock : Nat
  rise : Int
  docket : Option Nat
  variance : Option Int
  bookBefore : Int
  bookAfter : Int
  deriving DecidableEq, Repr

/-- A STOCK_ADJUST record (R138). -/
structure StockRecord where
  tank : TankNo
  reason : StockReason
  oldBook : Int
  newBook : Int
  clock : Nat
  deriving DecidableEq, Repr

/-- The content of a record's kind (R136). -/
inductive RecordBody where
  | service (r : ServiceRecord)
  | receipt (r : ReceiptRecord)
  | stockAdjust (r : StockRecord)
  deriving DecidableEq, Repr

/-- A journal record (R136). -/
structure Record where
  seq : Nat
  clockNotSet : Bool
  body : RecordBody
  deriving DecidableEq, Repr

/-- The journal: records oldest first, reserved count, next sequence number (R135). -/
structure Journal where
  records : List Record
  reserved : Nat
  next : Nat
  deriving DecidableEq, Repr

/-! ## Shutdown unit (R153, R162) -/

/-- The step in flight that a trip captured: island, machine, step index 1 to 8, hose (R153). -/
structure Capture where
  island : IslandNo
  machine : Nat
  index : Nat
  hose : HoseNo
  deriving DecidableEq, Repr

/-- An entry of the shutdown map (R153). -/
structure Entry where
  firstCause : Cause
  origin : Origin
  clock : Nat
  clockNotSet : Bool
  capture : Option Capture
  repeats : Nat
  deriving DecidableEq, Repr

/-- A warning record (R162). -/
structure WarnRecord where
  count : Nat
  last : Option Scope
  lastClock : Option Nat
  clockNotSet : Bool
  deriving DecidableEq, Repr

/-- The shutdown unit: map by scope code, warning records by cause, emergency stop level, and the outputs it drives. -/
structure Shutdown where
  map : Table (Option Entry) 31
  warnings : Table WarnRecord 11
  stop : Bool
  relay : Bool
  pumps : Table Bool 10
  deriving DecidableEq, Repr

/-! ## What replies carry -/

/-- One step of the order read-back (R26, section 11.5). -/
structure StepView where
  kind : StepKind
  hose : HoseNo
  isParallel : Bool
  holdBefore : Bool
  stopOnError : Bool
  tempHeld : Bool
  tempClamped : Bool
  preset : Option Nat
  state : StepState
  endStatus : Option StepEnd
  target : Nat
  limitedBy : Option LimitedBy
  suspension : Option SuspendReason
  cause : Option Cause
  gross : Nat
  net : Nat
  deriving DecidableEq, Repr

/-- The order read-back (R26, section 11.5). -/
structure OrderView where
  island : IslandNo
  machine : Nat
  hour : Option Nat
  admissionClock : Nat
  clockNotSet : Bool
  state : OrderState
  hold : Option HoldReason
  gapTaken : Option Nat
  group : Nat
  endStatus : Option OrderEnd
  seq : Option Nat
  steps : List StepView
  deriving DecidableEq, Repr

/-- What ISLAND_READ carries (R83). -/
structure IslandView where
  cfg : IslandCfg
  presence : Presence
  level : Bool
  remaining : Nat
  float : Bool
  order : Option (Nat × OrderState)
  lastSeq : Option Nat
  latched : Bool
  deriving DecidableEq, Repr

/-- What TANK_READ carries (R108). The open receipt is its clock at open, gauged net at open and drawn figure. -/
structure TankView where
  cfg : TankCfg
  points : Nat
  state : TankState
  book : Int
  bookLimit : Bool
  reserved : Nat
  quantity : Nat
  low : Bool
  unassigned : Nat
  gauge : Gauge
  staleSeconds : Nat
  probe : Bool
  leak : LeakState
  baseline : Option Nat
  quietMinutes : Nat
  receipt : Option (Nat × Nat × Nat)
  latched : Bool
  deriving DecidableEq, Repr

/-- A hose's step as HOSE_READ carries it (R54). -/
structure HoseStepView where
  island : IslandNo
  index : Nat
  state : StepState
  suspension : Option SuspendReason
  target : Nat
  limitedBy : LimitedBy
  gross : Nat
  net : Nat
  deriving DecidableEq, Repr

/-- What HOSE_READ carries (R54). -/
structure HoseView where
  cfg : HoseCfg
  coupled : Bool
  valve : ValveStage
  step : Option HoseStepView
  flow : Nat
  strayCount : Nat
  strayCondition : Bool
  deriving DecidableEq, Repr

/-- An entry as SHUTDOWN_READ lists it (R168): the emergency stop level is given for the bay entry. -/
structure EntryView where
  object : Scope
  entry : Entry
  conditionPresent : Bool
  stop : Option Bool
  deriving DecidableEq, Repr

/-- What SHUTDOWN_READ carries (R168). A single object that is not latched lists no entry. -/
structure ShutdownView where
  entries : List EntryView
  next : Option Scope
  stop : Bool
  relay : Bool
  pumps : Table Bool 10
  deriving DecidableEq, Repr

/-- What JOURNAL_STATUS carries (R146). -/
structure JournalStatusView where
  count : Nat
  reserved : Nat
  byOrders : Nat
  byReceipts : Nat
  free : Nat
  oldest : Option Nat
  newest : Option Nat
  next : Nat
  deriving DecidableEq, Repr

/-- What ACCOUNT_READ and ACCOUNT_NEXT carry (R133): the account, and for each lube entry its due hours and due flag. -/
structure AccountView where
  account : Account
  due : List (Option Nat × Bool)
  deriving DecidableEq, Repr

/-- What SUPPLY_READ carries (R201). -/
structure SupplyView where
  state : SupplyState
  warning : Bool
  retention : Retention
  reason : RestartReason
  defaulted : Bool
  answered : Bool
  saving : Bool
  lastSave : Option SaveOutcome
  unsaved : Bool
  heldForPower : Nat
  deriving DecidableEq, Repr

/-- What IDENTIFY carries (R186). -/
structure IdentifyView where
  vendor : Nat
  part : Nat
  revision : Nat
  imageVersion : Nat
  islands : Nat
  hoses : Nat
  tanks : Nat
  accounts : Nat
  link : Link
  role : Role
  deriving DecidableEq, Repr

/-- What LINK_STATUS carries (R184). -/
structure LinkStatusView where
  link : Link
  role : Role
  record : Half
  attentionMask : Half
  attention : Bool
  kinds : List NoticeKind
  behind : Nat
  frameErrors : Nat
  deriving DecidableEq, Repr

/-- One item of the lube-due list (R117). -/
structure LubeDue where
  fluid : Nat
  dueHours : Nat
  past : Nat
  minQuantity : Nat
  deriving DecidableEq, Repr

/-- An entry of a notice set that is pending (R180). The islands are those of the island kinds. -/
structure NoticeEntry where
  count : Nat
  islands : Table Bool 4
  saved : Option SaveOutcome
  restart : Option (RestartReason × Bool)
  deriving DecidableEq, Repr

/-- The results that a reply carries beside its outcome code. -/
inductive Results where
  | nothing
  | admitted (lube : List LubeDue) (review : Bool)
  | order (v : OrderView)
  | island (v : IslandView)
  | tank (v : TankView)
  | hose (v : HoseView)
  | shutdown (v : ShutdownView)
  | warnings (w : Table WarnRecord 11) (actions : Table CauseAction 11)
  | journal (count : Nat) (newest : Nat) (r : Record)
  | journalStatus (v : JournalStatusView)
  | account (v : AccountView)
  | clock (value : Nat) (isSet : Bool)
  | supply (v : SupplyView)
  | identify (v : IdentifyView)
  | action (a : CauseAction)
  | limits (jumpLimit minSpan : Nat)
  | receiptOpened (gaugedNet : Nat)
  | receiptClosed (rise : Int) (variance : Option Int) (book : Int) (seq : Nat)
  | written (seq : Nat)
  | accountState (st : AccountState)
  | hours (n : Nat)
  | released (count : Nat) (oldest : Option Nat)
  | oldest (seq : Nat)
  | trip (r : TripResult) (cause : Cause) (repeats : Nat)
  | cleared (cause : Cause) (capture : Option Capture) (repeats : Nat)
  | notices (entries : List (NoticeKind × NoticeEntry))
  | linkStatus (v : LinkStatusView)
  | linkReset (discarded : Nat) (withOwner : Bool) (frameErrors : Nat)
  deriving DecidableEq, Repr

/-- A reply (section 11.3): tag and kind byte echoed, outcome, results, and whether it was made at arrival (R175). -/
structure Reply where
  tag : Half
  kind : Byte
  code : Code
  results : Results
  atArrival : Bool
  deriving DecidableEq, Repr

/-! ## Link ports (R172) -/

/-- A receiver (R173): hunting, with whether the run of bytes in progress has been counted as a broken start (R174), or
assembling with the bytes taken after the start byte. -/
inductive Receiver where
  | hunting (counted : Bool)
  | assembling (taken : List Byte)
  deriving DecidableEq, Repr

/-- Where the oldest request of a port's queue stands (R176, R185): it waits to be taken, it is with its owner, or it is
with its owner and its reply is to be discarded when it is made. -/
inductive Custody where
  | untaken
  | handed
  | silenced
  deriving DecidableEq, Repr

/-- A link port (R172); its role and masks are in the working configuration. The queue holds bodies, oldest first, and
`custody` says where the oldest stands. -/
structure Port where
  receiver : Receiver
  frameTimer : Timer
  queue : List (List Byte)
  custody : Custody
  waiting : List Reply
  sending : Option Reply
  notices : Table (Option NoticeEntry) 13
  frameErrors : Nat
  attention : Bool
  deriving DecidableEq, Repr

/-! ## Settings, supply and bay clock -/

/-- The settings and supply block (R189 to R201). `snapshot` is present while the save state is SAVING; `starting` says that a
start-up is under way that a supply loss or an external reset is to stop (R196, R199; log entry 31). -/
structure Supply where
  state : SupplyState
  warning : Bool
  retention : Retention
  reason : RestartReason
  defaulted : Bool
  answered : Bool
  starting : Bool
  snapshot : Option Settings
  lastSave : Option SaveOutcome
  unsaved : Bool
  clock : Nat
  clockSet : Bool
  image : Image
  deriving DecidableEq, Repr

/-- The levels of the input pins, asserted or negated. They may change while the part is off or held in reset; the
blocks' own copies are taken when the part samples them (R196). -/
structure Pins where
  coupling : Table Bool 16
  detectors : Table Bool 4
  floats : Table Bool 4
  probes : Table Bool 10
  stop : Bool
  warning : Bool
  reset : Bool
  deriving DecidableEq, Repr

/-- The state of the part. `powered` is whether it has supply; it runs while powered with the reset pin negated.
`reports` are the reports made to the shutdown unit and not yet taken by it (R151). `ends` are the step end reports
handed over within a command and not yet taken by the order unit; it is empty between commands. `pending` is the queue
of commands that wait. -/
structure State where
  powered : Bool
  pins : Pins
  cfg : Settings
  ports : Table Port 3
  orders : Table (Option Order) 4
  hoses : Table Channel 16
  islands : Table Island 4
  tanks : Table Tank 10
  accounts : List Account
  journal : Journal
  shut : Shutdown
  supply : Supply
  reports : List Report
  ends : List EndReport
  pending : List Instr
  deriving DecidableEq, Repr

/-- Faults. The book gives every command of this part an effect, so no command ends in a fault and there is no
constructor: nothing raises one. -/
inductive Fault where
  deriving DecidableEq, Repr

/-- Refusals. -/
inductive Refusal where
  /-- Raised by an arm of exec whose command has no meaning yet; safe, because the model stops. No arm raises it now. -/
  | notModelled (mnemonic : String)
  deriving DecidableEq, Repr

/-! ## The defaults of R189 and the state after a power-on with retention lost -/

/-- A mask holding all thirteen notice kinds (R189). -/
def allKinds : Half := 0x1FFF

/-- The default configuration of a hose (R189). -/
def HoseCfg.default : HoseCfg where
  island := 0
  tank := none
  factor := 100000
  slowDown := 0
  stallTime := 10
  settleTime := 20
  maxPulses := 20000
  runOnLimit := 50000
  coupleWait := 120
  stepLimit := 2000000000
  strayThreshold := 10
  enabled := false

/-- The default configuration of a tank (R85). -/
def TankCfg.default : TankCfg where
  role := .supply
  fluid := 0
  capacity := 0
  lowLimit := 0
  highLimit := 0
  reorder := 0
  minStart := 5000
  tolerance := 100000
  leakThreshold := 50000
  quietTime := 60
  staleTime := 60

/-- The default role and masks of a link (R172, R189). -/
def LinkCfg.default (l : Link) : LinkCfg where
  role := if l = 0 then .office else if l = 1 then .workshop else .lanes
  record := allKinds
  attention := 0

/-- The defaults of R189. -/
def Settings.default : Settings where
  hoses := Vector.replicate 16 HoseCfg.default
  islands := Vector.replicate 4 { enabled := false, arrival := 30, leaving := 15 }
  tanks := Vector.replicate 10 TankCfg.default
  straps := Vector.replicate 10 []
  fluids := Vector.replicate 16 { isDefined := false, kind := .other, beta := 0 }
  actions := Vector.replicate 11 .trip
  links := #v[LinkCfg.default 0, LinkCfg.default 1, LinkCfg.default 2]
  jumpLimit := 2000
  minSpan := 50

/-- A channel right after a reset, with its coupling switch negated (R29, R72). -/
def Channel.initial : Channel where
  coupled := false
  valve := .closed
  step := none
  coupleTimer := none
  stallTimer := none
  rateTimer := none
  settleTimer := none
  strayTimer := none
  windowCount := 0
  flow := 0
  strayCount := 0
  strayReported := false
  temp := none
  strayAcc := 0
  strayCharged := 0

/-- An island right after a power-on with retention lost, with its inputs negated (R84). -/
def Island.initial : Island where
  presence := .absent
  level := false
  timer := none
  lastSeq := none
  float := false

/-- The gauge state after retention loss (R110). -/
def Gauge.initial : Gauge where
  level := 0
  temp := 0
  gross := 0
  net := 0
  range := false
  valid := false
  faults := 0
  faultCondition := false

/-- A tank right after a power-on with retention lost and the default configuration (R85, R110): its leak watch is
WAITING with the quiet time of 60 minutes, and its stale timer is stopped because the tank is unstrapped. -/
def Tank.initial : Tank where
  state := .outOfService
  book := 0
  bookLimit := false
  reserved := 0
  unassigned := 0
  receipt := none
  gauge := Gauge.initial
  staleTimer := none
  probe := false
  leak := .waiting
  baseline := none
  quietTimer := some 36000

/-- No notice pending (R172). -/
def Port.noNotices : Table (Option NoticeEntry) 13 := Vector.replicate 13 none

/-- A port right after a reset (R172). -/
def Port.initial : Port where
  receiver := .hunting false
  frameTimer := none
  queue := []
  custody := .untaken
  waiting := []
  sending := none
  notices := Port.noNotices
  frameErrors := 0
  attention := false

/-- The journal after retention loss (R148). -/
def Journal.initial : Journal where
  records := []
  reserved := 0
  next := 1

/-- A warning record after retention loss (R171). -/
def WarnRecord.initial : WarnRecord where
  count := 0
  last := none
  lastClock := none
  clockNotSet := false

/-- The entry that start-up latches on the bay after retention loss (R170). -/
def Entry.storeLost : Entry where
  firstCause := .storeLost
  origin := .startUp
  clock := 0
  clockNotSet := true
  capture := none
  repeats := 0

/-- A settings memory that holds no image the loader accepts (DESIGN CHOICE, log entry 2). -/
def Image.blank : Image where
  version := 0
  items := Settings.default
  check := none

/-- All input pins negated (DESIGN CHOICE, log entry 2). -/
def Pins.initial : Pins where
  coupling := Vector.replicate 16 false
  detectors := Vector.replicate 4 false
  floats := Vector.replicate 4 false
  probes := Vector.replicate 10 false
  stop := false
  warning := false
  reset := false

/-- The machine right after its first power-on: retention lost, the settings image refused, every input negated (the
values are those of R29, R72, R84, R110, R134, R148, R171, R172, R189, R193 and R197, and RESTART is pending at every
port, R198). Which of the three kinds of reset this state shows is log entry 2. -/
def State.reset : State where
  powered := true
  pins := Pins.initial
  cfg := Settings.default
  ports := Vector.replicate 3 { Port.initial with
    notices := Table.put Port.noNotices NoticeKind.restart.index (some
      { count := 1, islands := Vector.replicate 4 false, saved := none, restart := some (.powerOnLost, true) }) }
  orders := Vector.replicate 4 none
  hoses := Vector.replicate 16 Channel.initial
  islands := Vector.replicate 4 Island.initial
  tanks := Vector.replicate 10 Tank.initial
  accounts := []
  journal := Journal.initial
  shut :=
    { map := Table.put (Vector.replicate 31 none) Scope.bay.code (some Entry.storeLost),
      warnings := Vector.replicate 11 WarnRecord.initial, stop := false, relay := false,
      pumps := Vector.replicate 10 false }
  supply :=
    { state := .normal, warning := false, retention := .lost, reason := .powerOnLost, defaulted := true, answered := true,
      starting := false, snapshot := none, lastSave := none, unsaved := true, clock := 0, clockSet := false, image := Image.blank }
  reports := []
  ends := []
  pending := []

end Sys2Proof.Machine
end

