-- ==== Sys2Proof/Machine/Ops.lean ====
section
/-! DEFINITION. The named operations over the state that every family shares: changes of one unit's record, timers,
notices (section 9.5), replies (R176, R177), the reports on their way to the shutdown unit (R151), and the taking of a
request from a port's queue (R176). -/

namespace Sys2Proof.Machine

/-! ## Changes of one record -/

/-- The part takes events: it is powered, its reset pin is negated and no start-up is under way (R195, R196, R199). -/
def State.running (s : State) : Bool := s.powered && !s.pins.reset && !s.supply.starting

def State.modPort (s : State) (l : Link) (f : Port → Port) : State := { s with ports := s.ports.modify l f }
def State.modHose (s : State) (h : HoseNo) (f : Channel → Channel) : State := { s with hoses := s.hoses.modify h f }
def State.modIsland (s : State) (i : IslandNo) (f : Island → Island) : State := { s with islands := s.islands.modify i f }
def State.modTank (s : State) (t : TankNo) (f : Tank → Tank) : State := { s with tanks := s.tanks.modify t f }
def State.setOrder (s : State) (i : IslandNo) (o : Option Order) : State := { s with orders := s.orders.put i o }
def State.modOrder (s : State) (i : IslandNo) (f : Order → Order) : State :=
  s.setOrder i ((s.orders.get i).map f)
def State.modShut (s : State) (f : Shutdown → Shutdown) : State := { s with shut := f s.shut }
def State.modSupply (s : State) (f : Supply → Supply) : State := { s with supply := f s.supply }
def State.modPins (s : State) (f : Pins → Pins) : State := { s with pins := f s.pins }

/-- A change of the working configuration by an accepted configuration request: it sets the unsaved flag (R190). -/
def State.configure (s : State) (f : Settings → Settings) : State :=
  { s with cfg := f s.cfg, supply := { s.supply with unsaved := true } }

/-- The step a reference names. -/
def State.stepAt (s : State) (r : StepRef) : Option Step := (s.orders.get r.island).bind fun o => o.steps[r.idx]?

/-- A change of one step record of an order (R2). -/
def State.modStep (s : State) (r : StepRef) (f : Step → Step) : State :=
  s.modOrder r.island fun o => { o with steps := o.steps.modify r.idx f }

/-- The hose's step: its reference and its record (R29). -/
def State.hoseStep (s : State) (h : HoseNo) : Option (StepRef × Step) :=
  (s.hoses.get h).step.bind fun r => (s.stepAt r).map fun st => (r, st)

/-- The steps of an island's order with their references, in list order. -/
def State.stepsOf (s : State) (i : IslandNo) : List (StepRef × Step) :=
  match s.orders.get i with
  | none => []
  | some o => o.steps.zipIdx.map fun (st, k) => (⟨i, k⟩, st)

/-- Every step of every active order, by island and within it in list order. -/
def State.allSteps (s : State) : List (StepRef × Step) := allIslands.flatMap s.stepsOf

/-- Saturating counts: a count said to saturate at a value stays at it (00_scope.md). -/
def satAdd (limit n m : Nat) : Nat := min limit (n + m)

/-! ## Timers -/

/-- A timer started with a number of tenths of a second. -/
def Timer.startTenths (n : Nat) : Timer := some n

/-- A timer started with a number of seconds. -/
def Timer.startSeconds (n : Nat) : Timer := some (n * 10)

/-- A timer started with a number of minutes. -/
def Timer.startMinutes (n : Nat) : Timer := some (n * 600)

/-- What is left of a timer, 0 when it is stopped. -/
def Timer.left (t : Timer) : Nat := Option.getD t 0

/-- The timer a tenth of a second later. -/
def Timer.elapse (t : Timer) : Timer := Option.map (· - 1) t

/-! ## Notices (R180, R181) -/

/-- A notice on its way to the link unit. -/
structure Notice where
  kind : NoticeKind
  island : Option IslandNo
  saved : Option SaveOutcome
  restart : Option (RestartReason × Bool)

/-- Which kinds a role receives (R180). -/
def roleReceives : Role → NoticeKind → Bool
  | .office, k => decide (k ≠ .stepEnded)
  | .workshop, k => decide (k ∈ [NoticeKind.orderEnded, .accountReview, .highUse, .trip, .restart])
  | .lanes, k => decide (k ∈ [NoticeKind.orderEnded, .stepEnded, .orderHeld, .trip, .warning, .tankLow, .restart])
  | .view, k => decide (k ∈ [NoticeKind.trip, .restart])

/-- Whether a mask holds a kind: bit n for the kind of code n (section 11.2). -/
def inMask (m : Half) (k : NoticeKind) : Bool := m.getLsbD k.index.val

/-- Whether the attention line is to be asserted: a pending kind is in the attention mask (R181). -/
def attentionDue (notices : Table (Option NoticeEntry) 13) (mask : Half) : Bool :=
  NoticeKind.codes.any fun k => (notices.get k.index).isSome && inMask mask k

/-- The port with its attention line brought into line with R181 under a mask. -/
def Port.aligned (mask : Half) (p : Port) : Port := { p with attention := attentionDue p.notices mask }

/-- The port with its notice set replaced and its attention line brought into line. -/
def Port.withNotices (mask : Half) (n : Table (Option NoticeEntry) 13) (p : Port) : Port :=
  Port.aligned mask { p with notices := n }

/-- The island set of a notice. -/
def islandSet (i : Option IslandNo) (into : Table Bool 4) : Table Bool 4 :=
  match i with
  | none => into
  | some i => into.put i true

/-- The entry after a notice has been filed into it (R180). -/
def fileEntry (n : Notice) : Option NoticeEntry → NoticeEntry
  | none => { count := 1, islands := islandSet n.island (Vector.replicate 4 false), saved := n.saved, restart := n.restart }
  | some e =>
    { count := satAdd Config.max8 e.count 1, islands := islandSet n.island e.islands, saved := n.saved, restart := n.restart }

/-- Filing at one port: only when its role receives the kind and its record mask holds it (R180). -/
def State.fileAt (n : Notice) (s : State) (l : Link) : State :=
  let c := s.cfg.links.get l
  if roleReceives c.role n.kind && inMask c.record n.kind then
    s.modPort l fun p => p.withNotices c.attention (p.notices.modify n.kind.index (fun e => some (fileEntry n e)))
  else s

/-- A notice reaches the link unit, which acts on each of the three ports (R180). -/
def State.raise (s : State) (n : Notice) : State := allLinks.foldl (State.fileAt n) s

/-- A notice that carries nothing. -/
def State.raiseKind (s : State) (k : NoticeKind) : State := s.raise ⟨k, none, none, none⟩

/-- A notice that carries an island. -/
def State.raiseAt (s : State) (k : NoticeKind) (i : IslandNo) : State := s.raise ⟨k, some i, none, none⟩

/-- A notice set without the kinds that a role does not receive or a record mask does not hold (R179, R183). -/
def keepKinds (keep : NoticeKind → Bool) (n : Table (Option NoticeEntry) 13) : Table (Option NoticeEntry) 13 :=
  NoticeKind.codes.foldl (fun m k => if keep k then m else m.put k.index none) n

/-! ## Reports to the shutdown unit (R151) -/

/-- A block makes a report while it takes one of its own events; the shutdown unit takes it afterwards (R151). -/
def State.report (s : State) (r : Report) : State := { s with reports := s.reports ++ [r] }

/-! ## Replies (R175 to R177) -/

/-- A reply placed on a port's transmit list: it is begun at once when nothing is being sent (R177; DEDUCED, log entry 22). -/
def Port.place (r : Reply) (p : Port) : Port :=
  match p.sending with
  | none => { p with sending := some r }
  | some _ => { p with waiting := p.waiting ++ [r] }

/-- A frame error counted (R174). -/
def Port.frameError (p : Port) : Port := { p with frameErrors := satAdd Config.max16 p.frameErrors 1 }

/-- A reply made at arrival: placed while fewer than 4 such replies wait, else the request is discarded with no reply
and the frame error count rises (R175). -/
def Port.placeAtArrival (r : Reply) (p : Port) : Port :=
  if (p.waiting.filter (·.atArrival)).length < Config.arrivalReplies then p.place { r with atArrival := true }
  else p.frameError

/-- The answer of an owner: an outcome and results (R176). -/
abbrev Answer := Code × Results

/-- A refusal, which carries no results (section 11.3). -/
def refuse (c : Code) : Answer := (c, .nothing)

/-- An acceptance that carries no results. -/
def accepted : Answer := (.ok, .nothing)

/-- The reply to a request, with its tag and kind byte echoed (section 11.3). -/
def replyTo (tag : Half) (kind : Byte) (a : Answer) : Reply :=
  { tag, kind, code := a.1, results := a.2, atArrival := false }

/-- A kind as the byte of a header. -/
def kindByte (k : Kind) : Byte := BitVec.ofNat 8 k.code

/-! ## Taking a request (R176) -/

/-- The permission table of R178. -/
def permitted : Role → Kind → Bool
  | role, .orderAdmit | role, .orderHold | role, .orderContinue | role, .orderCancel | role, .stepStop =>
    decide (role = .office ∨ role = .lanes)
  | _, .orderRead | _, .islandRead | _, .tankRead | _, .hoseRead | _, .shutdownRead | _, .warnRead | _, .journalRead
  | _, .journalStatus | _, .accountRead | _, .accountNext | _, .clockRead | _, .supplyRead | _, .identify => true
  | role, .hoseSet | role, .islandSet | role, .tankSet | role, .fluidSet | role, .strapLoad | role, .causeSet
  | role, .accountLimitsSet | role, .linkSet | role, .clockSet | role, .settingsSave => decide (role = .office)
  | role, .receiptOpen | role, .receiptClose | role, .receiptCancel | role, .stockSet => decide (role = .office)
  | role, .accountCreate | role, .accountEdit | role, .accountBlock | role, .accountUnblock | role, .accountDelete
  | role, .hoursConfirm | role, .hoursRebase | role, .lubeSet => decide (role = .workshop)
  | role, .journalRelease | role, .shutdownClear => decide (role = .office)
  | role, .tripBay | role, .tripIsland | role, .tripTank | role, .tripHose => decide (role ≠ .view)
  | _, .noticeFetch | _, .noticeMaskSet | _, .linkStatus | _, .linkReset => true

/-- The request can be taken now: the part runs, and the request is the port's oldest, or the port's queue is empty and
the request arrives and is taken at once (R175, R176; DESIGN CHOICE, log entry 3). -/
def State.canTake (s : State) (l : Link) (c : Instr) : Bool :=
  s.running &&
    match (s.ports.get l).queue with
    | [] => true
    | body :: _ => decide (decodeBody l body = c)

/-- A body that decodes and whose kind the role may request: its request goes to its owner (R176, parts 1 to 3). -/
def handable (role : Role) (l : Link) (body : List Byte) : Bool :=
  match requestInfo (decodeBody l body) with
  | some q => q.undecodable.isNone && permitted role q.kind
  | none => false

/-- Where the oldest request of a queue stands when the link unit comes to it: it is handed to its owner at once, and one
that no owner takes waits for its refusal (R176; DEDUCED, log entry 27). -/
def custodyOf (role : Role) (l : Link) : List (List Byte) → Custody
  | [] => .untaken
  | body :: _ => if handable role l body then .handed else .untaken

/-- A request arrives in a port's queue; in an empty queue it is the oldest (R175, R176). -/
def Port.enqueue (role : Role) (l : Link) (body : List Byte) (p : Port) : Port :=
  { p with
    queue := p.queue ++ [body]
    custody := if p.queue = [] then custodyOf role l [body] else p.custody }

/-- The oldest request leaves the queue, and the link unit comes to the next (R176). -/
def Port.advance (role : Role) (l : Link) (p : Port) : Port :=
  { p with queue := p.queue.drop 1, custody := custodyOf role l (p.queue.drop 1) }

/-- The reply is placed on the transmit list, or discarded when a LINK_RESET has been taken before it (R176, R185, step 2),
and the request leaves the queue. -/
def Port.answered (role : Role) (l : Link) (r : Reply) (p : Port) : Port :=
  if p.custody = .silenced then p.advance role l else Port.place r (p.advance role l)

/-- The reply to a port's request is built and goes its way, and the request leaves the queue (R176). -/
def State.answer (s : State) (l : Link) (tag : Half) (kind : Byte) (a : Answer) : State :=
  s.modPort l (Port.answered (s.cfg.links.get l).role l (replyTo tag kind a))

/-- The port may make the request: its role permits the kind, or the request is with its owner and completes under the role
it was handed over under (R176, R178, R179). -/
def State.mayMake (s : State) (l : Link) (k : Kind) : Bool :=
  decide ((s.ports.get l).custody ≠ .untaken) || permitted (s.cfg.links.get l).role k

/-- The link unit takes a request of kind `k`: decoding, permission, owner (R176). A request that is not the port's
oldest is not taken. -/
def State.serve {α : Type} (s : State) (self : Instr) (l : Link) (tag : Half) (k : Kind) (b : Sent α)
    (owner : α → State → Answer × State) : State :=
  if s.canTake l self then
    match b with
    | .undecodable r => s.answer l tag (kindByte k) (refuse r.code)
    | .fields a =>
      if s.mayMake l k then
        let (ans, s') := owner a s
        s'.answer l tag (kindByte k) ans
      else s.answer l tag (kindByte k) (refuse .notPermitted)
  else s

/-- An owner that changes nothing. -/
def reading {α : Type} (f : α → State → Answer) : α → State → Answer × State := fun a s => (f a s, s)

/-- The outcome type of exec. -/
abbrev Result := Host.Outcome State Fault Refusal

/-- The state kept as it is unless the part takes events (R195, R199). -/
def State.whileRunning (s : State) (f : State → State) : State := if s.running then f s else s

end Sys2Proof.Machine
end

