-- ==== Sys2Proof/Machine/Flags.lean ====
section
/-! DEFINITION. The conditions and flags that the blocks read from the state, each computed afresh when it is needed:
presence and supply, step states, coverage (R154), the conditions of causes (R149), use (R55, R85), stock quantities
(R87), the error classification of step ends (R50), reported values (R67). -/

namespace Sys2Proof.Machine

/-! ## Steps -/

/-- RUNNING_FAST or RUNNING_SLOW. -/
def Step.isRunning (st : Step) : Bool := decide (st.state = .runningFast ∨ st.state = .runningSlow)

/-- Being metered: RUNNING, SETTLING or SUSPENDED (section 2.1). -/
def Step.isMetered (st : Step) : Bool :=
  st.isRunning || decide (st.state = .settling) || decide (st.state = .suspended)

/-- Neither ENDED nor NOT_RUN. -/
def Step.isLive (st : Step) : Bool := decide (st.state ≠ .ended ∧ st.state ≠ .notRun)

/-- Started: neither PENDING, ENDED nor NOT_RUN (R2). -/
def Step.isStarted (st : Step) : Bool := st.isLive && decide (st.state ≠ .pending)

/-- Held for power: SUSPENDED(POWER), or WAITING_COUPLE and power-paused (R45). -/
def Step.heldForPower (st : Step) : Bool :=
  decide (st.suspension = some .power) && decide (st.state = .suspended ∨ st.state = .waitingCouple)

/-- A draw step; the others are recoveries (R4). -/
def StepKindDraws (k : StepKind) : Bool := decide (k = .preset ∨ k = .openFill)

/-- A PRESET kind; the others are OPEN kinds (R50). -/
def StepKindPreset (k : StepKind) : Bool := decide (k = .preset ∨ k = .presetRecover)

/-- Whether an end status is an error for a kind of step (R50). A pair the table marks with a dash does not arise. -/
def isError (k : StepKind) : StepEnd → Bool
  | .complete => false
  | .full => false
  | .stopped => StepKindPreset k
  | .uncoupled => StepKindPreset k
  | .stalled => StepKindPreset k
  | .notCoupled => true
  | .noStock => true
  | .noRoom => true
  | .tankUnavailable => true
  | .shutdown => true
  | .driveAway => true
  | .cancelled => true
  | .reset => true
  | .notRun => false

/-- An ENDED step that ended in error. -/
def Step.endedInError (st : Step) : Bool :=
  decide (st.state = .ended) && (match st.endStatus with | some e => isError st.kind e | none => false)

/-- Reported gross mL of a gross accumulator (R67). -/
def reportedGross (acc : Nat) : Nat := (acc + 500) / 1000

/-- Reported net mL of a net accumulator (R67). -/
def reportedNet (acc : Nat) : Nat := (acc + 5000000000) / 10000000000

/-- A step's reported net at this moment (R68). -/
def Step.net (st : Step) : Nat := reportedNet st.netAcc

/-- A step's reported gross at this moment (R68). -/
def Step.gross (st : Step) : Nat := reportedGross st.grossAcc

/-- The figures of a step that is metered to its end (R49). -/
def meteredFigures (st : Step) : Figures where
  gross := st.gross
  net := st.net
  overrun := st.net - st.target
  residue := st.target - st.net

/-- The figures of a step that ends directly from WAITING_COUPLE (R47). -/
def waitingFigures (st : Step) : Figures where
  gross := 0
  net := 0
  overrun := 0
  residue := st.target

/-- The gross and net that reads show: final values for an ENDED step, zero for one never started, otherwise the values
reported now (R26). -/
def Step.shown (st : Step) : Nat × Nat :=
  match st.final with
  | some f => (f.gross, f.net)
  | none => (st.gross, st.net)

/-- The number of the group that holds the step at place `k`: groups are numbered from 1 at each step that is not
PARALLEL (R8). -/
def groupOf (steps : List Step) (k : Nat) : Nat := ((steps.take (k + 1)).filter fun st => !st.isParallel).length

/-! ## Presence, supply, clock -/

def State.isPresent (s : State) (i : IslandNo) : Bool := decide ((s.islands.get i).presence = .present)

def State.supplyNormal (s : State) : Bool := decide (s.supply.state = .normal)

def State.role (s : State) (l : Link) : Role := (s.cfg.links.get l).role

/-! ## The shutdown map (R154) -/

def State.entryAt (s : State) (o : Scope) : Option Entry := s.shut.map.get o.code

def State.isLatched (s : State) (o : Scope) : Bool := (s.entryAt o).isSome

/-- The first cause of the first entry found at the places listed. -/
def State.firstCause (s : State) (places : List Scope) : Option Cause :=
  places.findSome? fun o => (s.entryAt o).map (·.firstCause)

/-- Coverage of a step: hose, island, captured tank, bay, in that order; the covering cause (R154). -/
def State.stepCover (s : State) (r : StepRef) (st : Step) : Option Cause :=
  s.firstCause [.hose st.hose, .island r.island, .tank st.ctx.tank, .bay]

/-- Coverage of a hose: hose, configured island, configured tank, bay (R154). -/
def State.hoseCover (s : State) (h : HoseNo) : Option Cause :=
  let c := s.cfg.hoses.get h
  s.firstCause ([.hose h, .island c.island] ++ (c.tank.map Scope.tank).toList ++ [.bay])

/-- An entry exists for the tank or for the bay (R101, R108). -/
def State.tankShut (s : State) (t : TankNo) : Bool := s.isLatched (.tank t) || s.isLatched .bay

/-- An entry exists for the island or for the bay (R3, R83). -/
def State.islandShut (s : State) (i : IslandNo) : Bool := s.isLatched (.island i) || s.isLatched .bay

/-- Whether a new entry for an object covers a step (R48). -/
def coversStep (o : Scope) (r : StepRef) (st : Step) : Bool :=
  match o with
  | .bay => true
  | .island i => decide (r.island = i)
  | .tank t => decide (st.ctx.tank = t)
  | .hose h => decide (st.hose = h)

/-- Whether the condition of a cause is present at an object (R149). -/
def State.conditionPresent (s : State) (c : Cause) (o : Scope) : Bool :=
  match c, o with
  | .bayStop, _ => s.shut.stop
  | .sumpHigh, .island i => (s.islands.get i).float
  | .overfill, .tank t => (s.tanks.get t).probe
  | .gaugeFault, .tank t => (s.tanks.get t).gauge.faultCondition
  | .strayFlow, .hose h => (s.hoses.get h).strayTimer.isSome
  | _, _ => false

/-! ## Use (R55, R82, R85) -/

/-- A step of an active order names the hose and is neither ENDED nor NOT_RUN (R55). -/
def State.hoseInUse (s : State) (h : HoseNo) : Bool :=
  s.allSteps.any fun (_, st) => decide (st.hose = h) && st.isLive

/-- Reserved is above 0, a receipt is open, or a live step has the tank as captured tank (R85). -/
def State.tankInUse (s : State) (t : TankNo) : Bool :=
  decide (0 < (s.tanks.get t).reserved) || (s.tanks.get t).receipt.isSome
    || s.allSteps.any fun (_, st) => decide (st.ctx.tank = t) && st.isLive

/-- A tank whose fluid code is this code is in use (R86). -/
def State.fluidInUse (s : State) (f : FluidNo) : Bool :=
  allTanks.any fun t => decide ((s.cfg.tanks.get t).fluid = f) && s.tankInUse t

/-! ## Stock quantities (R87, R93) -/

/-- Available: book less reserved less low limit, floored at 0 (R87). -/
def available (c : TankCfg) (t : Tank) : Nat := (t.book - (t.reserved : Int) - (c.lowLimit : Int)).toNat

/-- Room: high limit less book less reserved, floored at 0 (R87). -/
def room (c : TankCfg) (t : Tank) : Nat := ((c.highLimit : Int) - t.book - (t.reserved : Int)).toNat

/-- Available, for a SUPPLY tank; room, for a WASTE tank (R87). -/
def stockQuantity (c : TankCfg) (t : Tank) : Nat :=
  match c.role with
  | .supply => available c t
  | .waste => room c t

/-- The low condition: available or room is below the reorder level (R93). -/
def isLow (c : TankCfg) (t : Tank) : Bool := decide (stockQuantity c t < c.reorder)

/-- A tank whose table holds 0 points is unstrapped (R95). -/
def State.isStrapped (s : State) (t : TankNo) : Bool := !(s.cfg.straps.get t).isEmpty

/-! ## The journal (R135, R146) -/

def Journal.count (j : Journal) : Nat := j.records.length

/-- The free unreserved count (R135). -/
def Journal.free (j : Journal) : Nat := Config.journalPlaces - j.count - j.reserved

/-- Active orders and open receipts (R146). -/
def State.activeOrders (s : State) : Nat := (allIslands.filter fun i => (s.orders.get i).isSome).length
def State.openReceipts (s : State) : Nat := (allTanks.filter fun t => decide ((s.tanks.get t).state = .receiving)).length

/-! ## Accounts (R111) -/

/-- A lookup by machine number (R111). -/
def State.findAccount (s : State) (m : Nat) : Option Account := s.accounts.find? fun a => decide (a.machine = m)

/-- The due hours of a lube entry (R112). -/
def lubeDueHours (e : LubeEntry) : Option Nat := e.lastService.map (· + e.interval)

end Sys2Proof.Machine
end

