-- ==== Sys2Proof/Machine/Operands.lean ====
section
/-! DEFINITION. The operand forms: unit numbers, flags and the range of every field that a request carries, written once
for the requests (R203 leaves the ranges to the owner) and for the loader of the settings image (R188). -/

namespace Sys2Proof.Machine

/-- The refusal of the first check of a table that does not succeed. -/
def firstFail (checks : List (Bool × Code)) : Option Code := (checks.find? fun c => !c.1).map (·.2)

/-- A unit number below `n`. -/
def unitOf (n k : Nat) : Option (Fin n) := if h : k < n then some ⟨k, h⟩ else none

def islandOf (k : Nat) : Option IslandNo := unitOf 4 k
def hoseOf (k : Nat) : Option HoseNo := unitOf 16 k
def tankOf (k : Nat) : Option TankNo := unitOf 10 k
def fluidOf (k : Nat) : Option FluidNo := unitOf 16 k

/-- A link number, 1 to 3. -/
def linkOf (k : Nat) : Option Link := if k = 0 then none else unitOf 3 (k - 1)

/-- A flag byte: 0 for clear, 1 for set, any other value is out of range (section 11.2). -/
def flagOf (k : Nat) : Option Bool := if k = 0 then some false else if k = 1 then some true else none

/-- A value lies within a range, both ends included. -/
def within (lo hi x : Nat) : Bool := decide (lo ≤ x) && decide (x ≤ hi)

/-- The ranges of a hose's configuration (R55). -/
def HoseCfg.inRange (c : HoseCfg) : Bool :=
  within 50 500000 c.factor && within 0 1000000 c.slowDown && within 1 120 c.stallTime && within 5 100 c.settleTime
    && within 1 20000 c.maxPulses && within 0 50000 c.runOnLimit && within 10 600 c.coupleWait
    && within 1000 Config.maxVolume c.stepLimit && within 1 255 c.strayThreshold

/-- A configured tank of HOSE_SET: absent, or a tank number. The outer `none` is a number out of range. -/
def tankFieldOf : Option Nat → Option (Option TankNo)
  | none => some none
  | some k => (tankOf k).map some

/-- The hose and the configuration that a HOSE_SET names, when every field is within its range (R55, check 1). -/
def hoseSetOf (f : HoseSetFields) : Option (HoseNo × HoseCfg) :=
  match hoseOf f.hose, islandOf f.island, tankFieldOf f.tank, flagOf f.enabled with
  | some h, some island, some tank, some enabled =>
    let c : HoseCfg :=
      { island, tank, factor := f.factor, slowDown := f.slowDown, stallTime := f.stallTime, settleTime := f.settleTime,
        maxPulses := f.maxPulses, runOnLimit := f.runOnLimit, coupleWait := f.coupleWait, stepLimit := f.stepLimit,
        strayThreshold := f.strayThreshold, enabled }
    if c.inRange then some (h, c) else none
  | _, _, _, _ => none

/-- The ranges of an island's configuration (R82). -/
def IslandCfg.inRange (c : IslandCfg) : Bool := within 5 100 c.arrival && within 5 100 c.leaving

/-- The island and the configuration that an ISLAND_SET names (R82, check 1). -/
def islandSetOf (f : IslandSetFields) : Option (IslandNo × IslandCfg) :=
  match islandOf f.island, flagOf f.enabled with
  | some i, some enabled =>
    let c : IslandCfg := { enabled, arrival := f.arrival, leaving := f.leaving }
    if c.inRange then some (i, c) else none
  | _, _ => none

/-- The ranges of a tank's configuration fields, with low limit not above high limit and high limit not above capacity
(R85, R107). -/
def TankCfg.inRange (c : TankCfg) : Bool :=
  within 0 Config.maxVolume c.capacity && within 0 c.highLimit c.lowLimit && within 0 c.capacity c.highLimit
    && within 0 Config.maxVolume c.reorder && within 0 100000 c.minStart && within 0 10000000 c.tolerance
    && within 1000 10000000 c.leakThreshold && within 10 240 c.quietTime && within 10 600 c.staleTime

/-- The tank, the configuration and the state that a TANK_SET names; a requested state of RECEIVING is out of range
(R107). -/
def tankSetOf (f : TankSetFields) : Option (TankNo × TankCfg × TankState) :=
  match tankOf f.tank, fluidOf f.fluid with
  | some t, some fluid =>
    let c : TankCfg :=
      { role := f.role, fluid, capacity := f.capacity, lowLimit := f.lowLimit, highLimit := f.highLimit,
        reorder := f.reorder, minStart := f.minStart, tolerance := f.tolerance, leakThreshold := f.leakThreshold,
        quietTime := f.quietTime, staleTime := f.staleTime }
    if c.inRange && decide (f.state ≠ .receiving) then some (t, c, f.state) else none
  | _, _ => none

/-- The range of a fluid table entry (R86). -/
def FluidEntry.inRange (e : FluidEntry) : Bool := within 0 1500 e.beta

/-- The fluid code and the entry that a FLUID_SET names (R86). -/
def fluidSetOf (f : FluidSetFields) : Option (FluidNo × FluidEntry) :=
  match fluidOf f.fluid, flagOf f.isDefined with
  | some code, some isDefined =>
    let e : FluidEntry := { isDefined, kind := f.kind, beta := f.beta }
    if e.inRange then some (code, e) else none
  | _, _ => none

/-- Each point of a strapping table is in range, levels strictly increase and volumes do not decrease (R95). -/
def strapPointsOk : List StrapPoint → Bool
  | [] => true
  | [p] => within 0 20000 p.level && within 0 Config.maxVolume p.volume
  | p :: q :: rest =>
    within 0 20000 p.level && within 0 Config.maxVolume p.volume && decide (p.level < q.level)
      && decide (p.volume ≤ q.volume) && strapPointsOk (q :: rest)

/-- A table that STRAP_LOAD accepts: 2 to 16 points (R95). -/
def strapTableOk (points : List StrapPoint) : Bool := within 2 16 points.length && strapPointsOk points

/-- The actions allowed for a cause (R149). -/
def actionAllowed (c : Cause) (a : CauseAction) : Bool :=
  match c with
  | .bayStop | .storeLost | .linkTrip => decide (a = .trip)
  | .overfill => decide (a ≠ .off)
  | _ => true

/-- A mask that names known notice kinds only: bits 13 to 15 are clear (R179, R203). -/
def maskOk (m : Half) : Bool := decide (m &&& 0xE000#16 = 0#16)

/-- Some link holds the role OFFICE (R179). -/
def hasOffice (links : Table LinkCfg 3) : Bool := allLinks.any fun l => decide ((links.get l).role = .office)

/-- The ranges of the account table parameters (R111). -/
def limitsOk (jump span : Nat) : Bool := within 1 100000 jump && within 1 10000 span

/-- Every field of a configuration lies within the range that its request allows, and the relations of those requests
hold (R188). -/
def Settings.inRange (c : Settings) : Bool :=
  allHoses.all (fun h => (c.hoses.get h).inRange) && allIslands.all (fun i => (c.islands.get i).inRange)
    && allTanks.all (fun t => (c.tanks.get t).inRange)
    && allTanks.all (fun t => (c.straps.get t).isEmpty || strapTableOk (c.straps.get t))
    && allFluids.all (fun f => (c.fluids.get f).inRange)
    && Cause.codes.all (fun k => actionAllowed k (c.actions.get k.index))
    && allLinks.all (fun l => maskOk (c.links.get l).record && maskOk (c.links.get l).attention) && hasOffice c.links
    && limitsOk c.jumpLimit c.minSpan

/-- A machine number that an account may hold (R111, R124). -/
def machineOk (m : Nat) : Bool := within 1 65534 m

/-- The ranges of ACCOUNT_CREATE and ACCOUNT_EDIT (R125). -/
def AccountFieldsOk (f : AccountFields) : Bool :=
  machineOk f.machine && within 0 Config.maxVolume f.capacity && within 0 100 f.margin

/-- The range of a lube entry (R112). The hours at last service were tested at decoding (R203). -/
def LubeEntryOk (e : LubeEntry) : Bool :=
  within 0 15 e.fluid && within 1 100000 e.interval && within 1 Config.maxVolume e.minQuantity
    && (match e.lastService with | none => true | some h => within 0 Config.maxHours h)

/-- Two entries of a list hold the same fluid code (R125). -/
def lubeDuplicates : List LubeEntry → Bool
  | [] => false
  | e :: rest => rest.any (fun d => decide (d.fluid = e.fluid)) || lubeDuplicates rest

end Sys2Proof.Machine
end

