-- ==== Sys2Proof/Machine/Links.lean ====
section
/-! DEFINITION. The link unit (Chapter 9): the receivers, arrival, the transmitters, and the requests that act on links. -/

namespace Sys2Proof.Machine

/-! ## LINK_RESET (R185) -/

/-- The request of a port that is with its owner, none when there is none (R185, steps 1 and 2). -/
def Port.withOwner (p : Port) : List (List Byte) := if p.custody = .untaken then [] else p.queue.take 1

/-- The results of LINK_RESET: the requests discarded in step 1, whether one was with its owner, the frame error count as it
stood (R185). -/
def linkResetResults (p : Port) : Results :=
  .linkReset (p.queue.length - p.withOwner.length) (decide (p.custody ≠ .untaken)) p.frameErrors

/-- The port after the six steps of R185, with the mask of its attention line: a request with its owner stays in the queue
until its answer is made, and its reply will be discarded. -/
def Port.reset (mask : Half) (p : Port) : Port :=
  Port.withNotices mask Port.noNotices
    { p with
      queue := p.withOwner
      custody := if p.custody = .untaken then .untaken else .silenced
      waiting := []
      frameErrors := 0 }

/-- LINK_RESET is taken at its arrival: the port is reset, and the reply is placed on the emptied list (R185). -/
def State.linkReset (s : State) (l : Link) (tag : Half) : State :=
  s.modPort l fun p =>
    (p.reset (s.cfg.links.get l).attention).place (replyTo tag (kindByte .linkReset) (.ok, linkResetResults p))

/-- A LINK_RESET arrives, decoded or not (R175, R202). -/
def State.arriveReset (s : State) (l : Link) (tag : Half) (b : Sent Unit) : State :=
  match b with
  | .fields _ => s.linkReset l tag
  | .undecodable r => s.modPort l (Port.placeAtArrival (replyTo tag (kindByte .linkReset) (refuse r.code)))

/-! ## The receiver (R173 to R175) -/

/-- A good frame's body arrives (R175). -/
def State.arrive (s : State) (l : Link) (body : List Byte) : State :=
  if bodyKind body = kindByte .linkReset then s.arriveReset l (bodyTag body) (decodeNone (body.drop 3))
  else s.modPort l fun p =>
    if p.queue.length < Config.queueDepth then p.enqueue (s.cfg.links.get l).role l body
    else p.placeAtArrival (replyTo (bodyTag body) (bodyKind body) (refuse .busy))

/-- The receiver returns to HUNTING and the frame timer stops (R173). -/
def Port.hunt (p : Port) : Port := { p with receiver := .hunting false, frameTimer := none }

/-- A frame is discarded: no reply, and the frame error count rises (R174). -/
def Port.discard (p : Port) : Port := p.hunt.frameError

/-- What the bytes taken after a start byte amount to (R173). -/
inductive Assembly where
  | more
  | badLength
  | badCheck
  | good (body : List Byte)
  deriving DecidableEq, Repr

/-- The bytes after the start byte: length, body, CRC (R173, section 11.1). -/
def assembly : List Byte → Assembly
  | [] => .more
  | n :: rest =>
    if n.toNat < Config.bodyMin ∨ Config.bodyMax < n.toNat then .badLength
    else if rest.length < n.toNat + 2 then .more
    else if crc16 (n :: rest.take n.toNat) = ofBytes ((rest.drop n.toNat).take 2) then .good (rest.take n.toNat)
    else .badCheck

/-- The receiver takes one byte (R173, R174). -/
def State.receive (s : State) (l : Link) (b : Byte) : State :=
  match (s.ports.get l).receiver with
  | .hunting counted =>
    if b = Config.startByte then
      s.modPort l fun p => { p with receiver := .assembling [], frameTimer := Timer.startTenths Config.frameTime }
    else if counted then s
    else s.modPort l fun p => { p.frameError with receiver := .hunting true }
  | .assembling taken =>
    match assembly (taken ++ [b]) with
    | .more => s.modPort l fun p => { p with receiver := .assembling (taken ++ [b]) }
    | .badLength | .badCheck => s.modPort l Port.discard
    | .good body => (s.modPort l Port.hunt).arrive l body

/-- The frame timer expires (R173, R174). -/
def State.frameExpiry (s : State) (l : Link) : State :=
  if (s.ports.get l).frameTimer.isSome then s.modPort l Port.discard else s

/-! ## The transmitter (R177) -/

/-- A reply has been sent to its end; the next one on the list is begun (R177). -/
def Port.sent (p : Port) : Port :=
  match p.sending with
  | none => p
  | some _ => { p with sending := p.waiting.head?, waiting := p.waiting.tail }

/-! ## Requests that act on links (R179, R182 to R184, R186) -/

/-- A port's role and masks are replaced; of its pending kinds those to be kept stay, and the attention line follows (R179,
R183). -/
def State.setLink (s : State) (l : Link) (c : LinkCfg) (keep : NoticeKind → Bool) : State :=
  let s := s.configure fun g => { g with links := g.links.put l c }
  s.modPort l fun p => p.withNotices c.attention (keepKinds keep p.notices)

/-- LINK_SET (R179). -/
def linkSet (f : LinkSetFields) (s : State) : Answer × State :=
  match linkOf f.link with
  | none => (refuse .outOfRange, s)
  | some l =>
    let c : LinkCfg := { role := f.role, record := f.record, attention := f.attention }
    match firstFail
      [ (maskOk f.record && maskOk f.attention, .outOfRange),
        (hasOffice (s.cfg.links.put l c), .state) ] with
    | some e => (refuse e, s)
    | none => (accepted, s.setLink l c fun k => roleReceives c.role k && inMask c.record k)

/-- NOTICE_MASK_SET at link `l` (R183). -/
def noticeMaskSet (l : Link) (f : MaskFields) (s : State) : Answer × State :=
  if maskOk f.record && maskOk f.attention then
    (accepted, s.setLink l { s.cfg.links.get l with record := f.record, attention := f.attention } (inMask f.record))
  else (refuse .outOfRange, s)

/-- The pending entries of a notice set in the order of their codes (R182). -/
def pendingEntries (n : Table (Option NoticeEntry) 13) : List (NoticeKind × NoticeEntry) :=
  NoticeKind.codes.filterMap fun k => (n.get k.index).map fun e => (k, e)

/-- NOTICE_FETCH at link `l` (R182). -/
def noticeFetch (l : Link) (_ : Unit) (s : State) : Answer × State :=
  ((.ok, .notices (pendingEntries (s.ports.get l).notices)),
    s.modPort l fun p => p.withNotices (s.cfg.links.get l).attention Port.noNotices)

/-- LINK_STATUS at link `l` (R184). -/
def linkStatus (l : Link) (s : State) : Answer :=
  let p := s.ports.get l
  let c := s.cfg.links.get l
  (.ok, .linkStatus
    { link := l, role := c.role, record := c.record, attentionMask := c.attention, attention := p.attention,
      kinds := (pendingEntries p.notices).map (·.1), behind := p.queue.length - 1, frameErrors := p.frameErrors })

/-- IDENTIFY at link `l` (R186). -/
def identify (l : Link) (s : State) : Answer :=
  (.ok, .identify
    { vendor := Config.vendorCode, part := Config.partCode, revision := Config.revision,
      imageVersion := Config.imageVersion, islands := 4, hoses := 16, tanks := 10, accounts := Config.accountPlaces,
      link := l, role := s.role l })

end Sys2Proof.Machine
end

