-- ==== Sys2Proof/Machine/JournalUnit.lean ====
section
/-! DEFINITION. The journal (Chapter 7): sequence numbers, reservation, writing, notices, release. -/

namespace Sys2Proof.Machine

/-- The number after a sequence number: from 4,294,967,295 it passes to 1 (R139). -/
def nextSeq (n : Nat) : Nat := if n = Config.max32 then 1 else n + 1

/-- JOURNAL_LOW is raised when the free unreserved count passes from 9 to 8 (R143). -/
def State.journalLowTest (s : State) (before : Nat) : State :=
  if before = Config.journalLowMark + 1 ∧ s.journal.free = Config.journalLowMark then s.raiseKind .journalLow else s

/-- JOURNAL_WAITING is raised when a write makes the count pass from 0 to 1 (R143). -/
def State.journalWaitingTest (s : State) (before : Nat) : State :=
  if before = 0 ∧ s.journal.count = 1 then s.raiseKind .journalWaiting else s

/-- A reservation of one place (R140). -/
def State.journalReserve (s : State) : State :=
  State.journalLowTest { s with journal := { s.journal with reserved := s.journal.reserved + 1 } } s.journal.free

/-- A record appended as the newest with the next sequence number (R139). -/
def Journal.append (j : Journal) (clockNotSet : Bool) (b : RecordBody) : Journal :=
  { j with records := j.records ++ [{ seq := j.next, clockNotSet, body := b }], next := nextSeq j.next }

/-- A write into a reserved place; the sequence number is returned (R141). -/
def State.writeReserved (s : State) (clockNotSet : Bool) (b : RecordBody) : Nat × State :=
  (s.journal.next,
    State.journalWaitingTest
      { s with journal := { s.journal.append clockNotSet b with reserved := s.journal.reserved - 1 } } s.journal.count)

/-- A write without reservation; the sequence number is returned (R142). -/
def State.writeUnreserved (s : State) (clockNotSet : Bool) (b : RecordBody) : Nat × State :=
  let s' := State.journalWaitingTest { s with journal := s.journal.append clockNotSet b } s.journal.count
  (s.journal.next, s'.journalLowTest s.journal.free)

/-- The sequence number of the oldest record. -/
def Journal.oldest (j : Journal) : Option Nat := j.records.head?.map (·.seq)

/-- The sequence number of the newest record. -/
def Journal.newest (j : Journal) : Option Nat := j.records.getLast?.map (·.seq)

/-- The record of a sequence number (R144). -/
def Journal.find (j : Journal) (n : Nat) : Option Record := j.records.find? fun r => decide (r.seq = n)

/-- JOURNAL_READ (R144). -/
def journalRead (sel : JournalSelect) (s : State) : Answer :=
  let carry (r : Record) : Answer := (.ok, .journal s.journal.count (s.journal.newest.getD 0) r)
  match sel with
  | .oldest =>
    match s.journal.records with
    | [] => refuse .empty
    | r :: _ => carry r
  | .byNumber n =>
    if n = 0 then refuse .outOfRange
    else match s.journal.find n with
      | some r => carry r
      | none => refuse .notFound

/-- JOURNAL_RELEASE (R145). That the rows of R145's table are tested in the order listed, so that number 0 at an empty journal is
OUT_OF_RANGE, is DESIGN CHOICE, log entry 16. -/
def journalRelease (n : Nat) (s : State) : Answer × State :=
  if n = 0 then (refuse .outOfRange, s)
  else match s.journal.records with
    | [] => (refuse .empty, s)
    | r :: rest =>
      if r.seq = n then
        let j := { s.journal with records := rest }
        ((.ok, .released j.count j.oldest), { s with journal := j })
      else ((.seqMismatch, .oldest r.seq), s)

/-- JOURNAL_STATUS (R146). -/
def journalStatus (s : State) : Answer :=
  (.ok, .journalStatus
    { count := s.journal.count, reserved := s.journal.reserved, byOrders := s.activeOrders,
      byReceipts := s.openReceipts, free := s.journal.free, oldest := s.journal.oldest, newest := s.journal.newest,
      next := s.journal.next })

end Sys2Proof.Machine
end

