-- ==== Sys2Proof/Machine/Accounts.lean ====
section
/-! DEFINITION. The account unit (Chapter 6): hour readings at admission, the lube-due list, the update at order end, and
the workshop requests. Accounts are kept in ascending machine number (R111). -/

namespace Sys2Proof.Machine

/-- A change of the account of a machine (R111). -/
def State.modAccount (s : State) (m : Nat) (f : Account → Account) : State :=
  { s with accounts := s.accounts.map fun a => if a.machine = m then f a else a }

/-- A new account put at its place in ascending machine number (DESIGN CHOICE, log entry 24). -/
def insertAccount (a : Account) : List Account → List Account
  | [] => [a]
  | b :: rest => if a.machine < b.machine then a :: b :: rest else b :: insertAccount a rest

/-! ## Admission (R116, R117) -/

/-- A reading leaps beyond the jump limit in ACTIVE (R116). -/
def leaps (limit : Nat) (h : Option Nat) (a : Account) : Bool :=
  match h, a.lastHours with
  | some h, some last => decide (a.state = .active) && decide (limit < h - last)
  | _, _ => false

/-- The account after the hour reading of an accepted admission (R116). -/
def Account.withReading (limit : Nat) (h : Option Nat) (a : Account) : Account :=
  match h with
  | none => a
  | some x =>
    match a.state with
    | .active =>
      if leaps limit h a then { a with state := .review, reviewHours := some x } else { a with lastHours := some x }
    | .review => { a with reviewHours := some (max (a.reviewHours.getD 0) x) }
    | .blocked => a

/-- The item of the lube-due list that an entry gives at a reading (R117). -/
def lubeDueItem (h : Nat) (e : LubeEntry) : Option LubeDue :=
  match lubeDueHours e with
  | none => none
  | some due => if due ≤ h then some { fluid := e.fluid, dueHours := due, past := h - due, minQuantity := e.minQuantity } else none

/-- The lube-due list of an account after its hour reading (R117). -/
def Account.lubeDue (h : Option Nat) (a : Account) : List LubeDue :=
  match h with
  | none => []
  | some x => if a.state = .active then a.lube.filterMap (lubeDueItem x) else []

/-- The account unit's part of an accepted admission (R6, R114, R116). -/
def State.openAccount (s : State) (i : IslandNo) (m : Nat) (h : Option Nat) : State :=
  let leapt := match s.findAccount m with | some a => leaps s.cfg.jumpLimit h a | none => false
  let s := s.modAccount m fun a => { a.withReading s.cfg.jumpLimit h with inUse := some i }
  if leapt then s.raiseKind .accountReview else s

/-! ## Order end (R119 to R122) -/

/-- Steps 1 and 2 of R119. -/
def Account.addDrawn (m : Summary) (a : Account) : Account :=
  let all := (m.fluids.map (·.2)).sum
  { a with
    lifetimeFuel := satAdd Config.max64 a.lifetimeFuel m.fuelNet
    lifetimeOther := satAdd Config.max64 a.lifetimeOther (all - m.fuelNet)
    carry := satAdd Config.max64 a.carry m.fuelNet }

/-- A consumption sample: fuel carry times 10 divided by the span, truncated, held at 32 bits (R120). -/
def consumptionSample (carry span : Nat) : Nat := min Config.max32 (carry * 10 / span)

/-- The smoothed rate (R120). -/
def smoothedRate (rate sample : Nat) : Nat := (3 * rate + sample + 2) / 4

/-- The threshold of the high-use test (R121). -/
def highUseThreshold (rate margin : Nat) : Nat := rate * (100 + margin) / 100

/-- A consumption sample taken at reading `h`: the account after it, and whether HIGH_USE is raised (R120, R121). -/
def Account.sampled (clock h sample : Nat) (a : Account) : Account × Bool :=
  let high := decide (a.rate ≠ 0) && decide (highUseThreshold a.rate a.margin < sample)
  ({ a with
     highUse := if a.rate = 0 then a.highUse else if high then some { clock, sample, before := a.rate } else none
     rate := if a.rate = 0 then sample else smoothedRate a.rate sample
     markHours := some h
     carry := 0 }, high)

/-- The consumption computation (R120): the account after it, and whether HIGH_USE is raised. -/
def Account.consumption (minSpan clock : Nat) (m : Summary) (a : Account) : Account × Bool :=
  match m.hour with
  | none => (a, false)
  | some h =>
    if a.state = .active ∧ 0 < m.fuelNet then
      match a.markHours with
      | none => ({ a with markHours := some h, carry := 0 }, false)
      | some mark => if h - mark < minSpan then (a, false) else a.sampled clock h (consumptionSample a.carry (h - mark))
    else (a, false)

/-- The net of a fluid code in a summary, 0 when it is not listed (R122). -/
def fluidNet (fluids : List (FluidNo × Nat)) (code : Nat) : Nat :=
  ((fluids.filter fun p => decide (p.1.val = code)).map (·.2)).sum

/-- The lube service resets (R122). -/
def Account.serviced (m : Summary) (a : Account) : Account :=
  match m.hour with
  | none => a
  | some h =>
    if a.state = .active then
      { a with lube := a.lube.map fun e =>
          if e.minQuantity ≤ fluidNet m.fluids e.fluid then { e with lastService := some h } else e }
    else a

/-- The account unit takes an order end summary (R119): the account after it, and whether HIGH_USE is raised. -/
def Account.afterOrder (minSpan clock : Nat) (m : Summary) (a : Account) : Account × Bool :=
  let r := (a.addDrawn m).consumption minSpan clock m
  ({ r.1.serviced m with inUse := none }, r.2)

/-- The account unit takes an order end summary (R119, R121). -/
def State.takeSummary (s : State) (m : Summary) : State :=
  let update := Account.afterOrder s.cfg.minSpan s.supply.clock m
  let high := match s.findAccount m.machine with | some a => (update a).2 | none => false
  let s := s.modAccount m.machine fun a => (update a).1
  if high then s.raiseKind .highUse else s

/-! ## Workshop requests (R124 to R133) -/

/-- Checks 1 to 3 of R124 for a request that names an account; `idle` is whether check 3 applies. -/
def withAccount (s : State) (m : Nat) (ok idle : Bool) (act : Account → Answer × State) : Answer × State :=
  if !ok then (refuse .outOfRange, s)
  else match s.findAccount m with
    | none => (refuse .noAccount, s)
    | some a => if idle && a.inUse.isSome then (refuse .accountInUse, s) else act a

/-- A new account (R126). -/
def newAccount (f : AccountFields) : Account :=
  { machine := f.machine, cls := f.cls, state := .active, fluids := f.fluids, capacity := f.capacity, lastHours := none,
    reviewHours := none, markHours := none, carry := 0, rate := 0, margin := f.margin, highUse := none,
    lifetimeFuel := 0, lifetimeOther := 0, inUse := none, lube := [] }

/-- ACCOUNT_CREATE (R126). -/
def accountCreate (f : AccountFields) (s : State) : Answer × State :=
  match firstFail
    [ (AccountFieldsOk f, .outOfRange),
      ((s.findAccount f.machine).isNone, .duplicate),
      (decide (s.accounts.length < Config.accountPlaces), .tableFull) ] with
  | some c => (refuse c, s)
  | none => (accepted, { s with accounts := insertAccount (newAccount f) s.accounts })

/-- ACCOUNT_EDIT (R127). -/
def accountEdit (f : AccountFields) (s : State) : Answer × State :=
  withAccount s f.machine (AccountFieldsOk f) true fun _ =>
    (accepted, s.modAccount f.machine fun a =>
      { a with cls := f.cls, fluids := f.fluids, capacity := f.capacity, margin := f.margin })

/-- ACCOUNT_BLOCK (R128). -/
def accountBlock (m : Nat) (s : State) : Answer × State :=
  withAccount s m (machineOk m) false fun a =>
    if a.state = .blocked then (refuse .state, s)
    else ((.ok, .accountState .blocked), s.modAccount m fun a => { a with state := .blocked })

/-- The state of an unblocked account (R128). -/
def unblocked (a : Account) : AccountState := if a.reviewHours.isSome then .review else .active

/-- ACCOUNT_UNBLOCK (R128). -/
def accountUnblock (m : Nat) (s : State) : Answer × State :=
  withAccount s m (machineOk m) false fun a =>
    if a.state = .blocked then
      ((.ok, .accountState (unblocked a)), s.modAccount m fun a => { a with state := unblocked a })
    else (refuse .state, s)

/-- ACCOUNT_DELETE (R129). -/
def accountDelete (m : Nat) (s : State) : Answer × State :=
  withAccount s m (machineOk m) true fun _ =>
    (accepted, { s with accounts := s.accounts.filter fun a => decide (a.machine ≠ m) })

/-- The account after HOURS_CONFIRM (R130). -/
def Account.confirmed (a : Account) : Account :=
  { a with
    lastHours := a.reviewHours
    markHours := a.reviewHours
    carry := 0
    reviewHours := none
    highUse := none
    state := .active }

/-- HOURS_CONFIRM (R130). -/
def hoursConfirm (m : Nat) (s : State) : Answer × State :=
  withAccount s m (machineOk m) true fun a =>
    if a.state = .review then ((.ok, .hours (a.reviewHours.getD 0)), s.modAccount m Account.confirmed)
    else (refuse .state, s)

/-- Hours at last service shifted by a rebase: floored at 0 and held at most 9,999,999 (R131). -/
def shiftedHours (old new x : Nat) : Nat := min Config.maxHours (x + new - old)

/-- The account after HOURS_REBASE with a new reading (R131). -/
def Account.rebased (r : Nat) (a : Account) : Account :=
  { a with
    lube := match a.lastHours with
      | some old => a.lube.map fun e => { e with lastService := e.lastService.map (shiftedHours old r) }
      | none => a.lube
    lastHours := some r
    markHours := some r
    carry := 0
    reviewHours := none
    highUse := none
    state := if a.state = .blocked then .blocked else .active }

/-- HOURS_REBASE (R131). An absent reading is out of range (DESIGN CHOICE, log entry 16). -/
def hoursRebase (f : RebaseFields) (s : State) : Answer × State :=
  match f.reading with
  | none => (refuse .outOfRange, s)
  | some r =>
    withAccount s f.machine (machineOk f.machine && within 0 Config.maxHours r) true fun _ =>
      ((.ok, .hours r), s.modAccount f.machine (Account.rebased r))

/-- LUBE_SET (R132, R125). That the ranges are tested before a repeated fluid is DEDUCED, log entry 16. -/
def lubeSet (f : LubeFields) (s : State) : Answer × State :=
  let inRange := machineOk f.machine && within 0 4 f.entries.length && f.entries.all LubeEntryOk
  if inRange && lubeDuplicates f.entries then (refuse .duplicate, s)
  else withAccount s f.machine inRange true fun _ =>
    (accepted, s.modAccount f.machine fun a => { a with lube := f.entries })

/-- The due hours and the due flag of a lube entry, as ACCOUNT_READ gives them (R133). -/
def lubeReadItem (a : Account) (e : LubeEntry) : Option Nat × Bool :=
  (lubeDueHours e,
    decide (a.state = .active) &&
      match lubeDueHours e, a.lastHours with
      | some due, some last => decide (due ≤ last)
      | _, _ => false)

/-- What ACCOUNT_READ carries (R133). -/
def accountView (a : Account) : AccountView := { account := a, due := a.lube.map (lubeReadItem a) }

/-- ACCOUNT_READ (R133). -/
def accountRead (m : Nat) (s : State) : Answer :=
  if machineOk m then
    match s.findAccount m with
    | some a => (.ok, .account (accountView a))
    | none => refuse .noAccount
  else refuse .outOfRange

/-- An account meets a selection (R133). -/
def meets (sel : AccountSelection) (a : Account) : Bool :=
  match sel with
  | .all => true
  | .review => decide (a.state = .review)
  | .highUse => a.highUse.isSome
  | .blocked => decide (a.state = .blocked)

/-- An account holds the class given, if one is. -/
def inClass (cls : Option AccountClass) (a : Account) : Bool :=
  match cls with
  | none => true
  | some c => decide (a.cls = c)

/-- ACCOUNT_NEXT (R133). -/
def accountNext (f : NextFields) (s : State) : Answer :=
  if within 0 65534 f.above then
    match s.accounts.find? fun a => decide (f.above < a.machine) && meets f.selection a && inClass f.cls a with
    | some a => (.ok, .account (accountView a))
    | none => refuse .noAccount
  else refuse .outOfRange

/-- ACCOUNT_LIMITS_SET (R115). -/
def accountLimitsSet (f : LimitsFields) (s : State) : Answer × State :=
  if limitsOk f.jumpLimit f.minSpan then
    ((.ok, .limits f.jumpLimit f.minSpan),
      s.configure fun g => { g with jumpLimit := f.jumpLimit, minSpan := f.minSpan })
  else (refuse .outOfRange, s)

end Sys2Proof.Machine
end

