-- ==== Sys2Proof/Machine/Metering.lean ====
section
/-! DEFINITION. The metering unit (Chapter 3): correction factor, accumulators, temperatures. -/

namespace Sys2Proof.Machine

/-- A temperature clamped to -500 to +800 (R61). -/
def clampTemp (x : Int) : Int := max Config.tempMin (min Config.tempMax x)

/-- The correction factor C7 of an expansion coefficient and a temperature (R66). -/
def correction (beta : Nat) (td : Int) : Nat := (Config.unitFactor - (beta : Int) * (td - Config.tempStandard)).toNat

/-- A new temperature in force: clamped, with the clamped condition and the factor that follow from it (R62 to R66). -/
def Step.withTemp (st : Step) (src : TempSource) (x : Int) : Step :=
  { st with
    temp := clampTemp x
    tempSource := src
    clampedNow := decide (clampTemp x ≠ x)
    c7 := correction st.ctx.beta (clampTemp x) }

/-- The temperature of a step at its start: the captured tank's valid gauge temperature, or 15.0 degrees (R62).
TEMP_HELD and TEMP_CLAMPED start clear and both accumulators are zero (R59, R62). -/
def Step.meterStart (st : Step) (g : Gauge) : Step :=
  let st := { st with grossAcc := 0, netAcc := 0, tempHeld := false, tempClamped := false }
  if g.valid then st.withTemp .gauge g.temp else st.withTemp .standard Config.tempStandard

/-- A pulse metered to a step: accumulators and temperature flags (R58, R59, R65). -/
def Step.metered (st : Step) : Step :=
  { st with
    grossAcc := satAdd Config.max64 st.grossAcc st.ctx.factor
    netAcc := satAdd Config.max72 st.netAcc (st.ctx.factor * st.c7)
    tempHeld := st.tempHeld || decide (st.tempSource ≠ .probe)
    tempClamped := st.tempClamped || st.clampedNow }

/-- A probe reading acts on a step (R63). -/
def Step.probed (st : Step) : ProbeReading → Step
  | .valid x => st.withTemp .probe x
  | .faulty => if st.tempSource = .probe then { st with tempSource := .probeHeld } else st

/-- A probe reading at a hose (R61, R63). -/
def State.probe (s : State) (h : HoseNo) (r : ProbeReading) : State :=
  let s := match r with
    | .valid x => s.modHose h fun c => { c with temp := some (clampTemp x) }
    | .faulty => s
  match s.hoseStep h with
  | some (ref, st) => if st.isStarted then s.modStep ref fun st => st.probed r else s
  | none => s

/-- A valid gauge temperature of a tank is applied to a hose's step whose captured tank it is and whose source is GAUGE or
DEFAULT (R64). -/
def State.gaugeTempAt (t : TankNo) (x : Int) (s : State) (h : HoseNo) : State :=
  match s.hoseStep h with
  | some (ref, st) =>
    if st.isStarted && decide (st.ctx.tank = t) && decide (st.tempSource = .gauge ∨ st.tempSource = .standard) then
      s.modStep ref fun st => st.withTemp .gauge x
    else s
  | none => s

/-- A gauge temperature reaches the metering unit (R64). -/
def State.gaugeTemp (s : State) (t : TankNo) (x : Int) : State := allHoses.foldl (State.gaugeTempAt t x) s

/-- The temperature that prices a stray pulse at a hose configured against tank `t` (R69). -/
def State.strayTemp (s : State) (h : HoseNo) (t : TankNo) : Int :=
  match (s.hoses.get h).temp with
  | some x => x
  | none => if (s.tanks.get t).gauge.valid then clampTemp (s.tanks.get t).gauge.temp else Config.tempStandard

/-- The expansion coefficient in force for a tank's fluid, 0 when its entry is not defined (R69, R86). -/
def State.betaOf (s : State) (t : TankNo) : Nat :=
  let e := s.cfg.fluids.get (s.cfg.tanks.get t).fluid
  if e.isDefined then e.beta else 0

/-- The stray accumulator after a stray pulse at a hose configured against tank `t` (R69). -/
def State.strayAccAfter (s : State) (h : HoseNo) (t : TankNo) : Nat :=
  (s.hoses.get h).strayAcc + (s.cfg.hoses.get h).factor * correction (s.betaOf t) (s.strayTemp h t)

/-- The flow reading of a window count and a meter factor, in mL/min (R70). -/
def flowReading (count factor : Nat) : Nat := count * factor * 60 / 1000

/-- The stray reset: count, timer, accumulator, charged figure (R52, R69). -/
def Channel.strayReset (c : Channel) : Channel :=
  { c with strayCount := 0, strayReported := false, strayTimer := none, strayAcc := 0, strayCharged := 0 }

end Sys2Proof.Machine
end

