-- ==== Sys2Proof/Machine/Stock.lean ====
section
/-! DEFINITION. The stock unit (Chapter 5): claims, charges, strapping and gauging, overfill, leak watch, receipts,
stock set, and the configuration of tanks and fluids. -/

namespace Sys2Proof.Machine

/-! ## TANK_LOW (R93) -/

/-- The test between two pairs of figures: the quantity passes from at least the reorder level to below it. -/
def State.lowTest (s : State) (wasLow isLowNow : Bool) : State :=
  if !wasLow && isLowNow then s.raiseKind .tankLow else s

/-- A change of a tank's book or reserved, with the TANK_LOW test after it (R93). -/
def State.changeStock (s : State) (t : TankNo) (f : Tank → Tank) : State :=
  let c := s.cfg.tanks.get t
  State.lowTest (s.modTank t f) (isLow c (s.tanks.get t)) (isLow c (f (s.tanks.get t)))

/-! ## The leak watch (R99) -/

/-- Reserved rises above 0, or a receipt is opened: the watch is BUSY. -/
def Tank.leakBusy (t : Tank) : Tank := { t with leak := .busy, quietTimer := none, baseline := none }

/-- The watch restarts at WAITING with the quiet time. -/
def Tank.leakWaiting (quiet : Nat) (t : Tank) : Tank :=
  { t with leak := .waiting, quietTimer := Timer.startMinutes quiet, baseline := none }

/-- Reserved is above 0 or a receipt is open. -/
def Tank.isWorking (t : Tank) : Bool := decide (0 < t.reserved) || t.receipt.isSome

/-- The watch is told of a fall of reserved, or of the close or cancel of a receipt: BUSY goes to WAITING when the tank
is at rest. -/
def Tank.leakRest (quiet : Nat) (t : Tank) : Tank :=
  if t.leak = .busy && !t.isWorking then t.leakWaiting quiet else t

/-- A stray charge, or an accepted TANK_SET, STRAP_LOAD or change of β: a watch that is not BUSY restarts. -/
def Tank.leakRestart (quiet : Nat) (t : Tank) : Tank := if t.leak = .busy then t else t.leakWaiting quiet

/-! ## Claims (R88) -/

/-- The stock unit's answer to a claim. -/
inductive ClaimAnswer where
  | granted (q : Nat)
  | refused (e : StepEnd)
  deriving DecidableEq, Repr

/-- The rows of R88, in order, for a draw or a feed of `want` mL. -/
def claimAnswer (c : TankCfg) (t : Tank) (draw : Bool) (want : Nat) : ClaimAnswer :=
  let q := if draw then available c t else room c t
  if t.state = .outOfService then .refused .tankUnavailable
  else if want ≤ q then .granted want
  else if 1 ≤ q ∧ c.minStart ≤ q then .granted q
  else .refused (if draw then .noStock else .noRoom)

/-- A grant: the rise of reserved, the TANK_LOW test and the leak watch, in one action (R88). -/
def State.grant (s : State) (t : TankNo) (q : Nat) : State :=
  s.changeStock t fun k =>
    let k := { k with reserved := k.reserved + q }
    if 0 < k.reserved then k.leakBusy else k

/-! ## Charges (R91, R92, R94) -/

/-- A charge to the book, held at its limits (R94). -/
def Tank.addToBook (t : Tank) (x : Int) : Tank :=
  if t.book + x < Config.bookMin then { t with book := Config.bookMin, bookLimit := true }
  else if Config.bookMax < t.book + x then { t with book := Config.bookMax, bookLimit := true }
  else { t with book := t.book + x }

/-- The open receipt's drawn figure rises (R102). -/
def Tank.addDrawn (t : Tank) (x : Nat) : Tank :=
  { t with receipt := t.receipt.map fun r => { r with drawn := r.drawn + x } }

/-- A tank after the end report of a step of kind `k` with its target and final net (R91). -/
def Tank.afterEnd (k : StepKind) (target net quiet : Nat) (t : Tank) : Tank :=
  let t := { t with reserved := t.reserved - target }
  let t := t.addToBook (if StepKindDraws k then -(net : Int) else (net : Int))
  let t := if StepKindDraws k then t.addDrawn net else t
  t.leakRest quiet

/-- The stock unit takes a step end report (R91). -/
def State.chargeEnd (s : State) (st : Step) (target net : Nat) : State :=
  s.changeStock st.ctx.tank (Tank.afterEnd st.kind target net (s.cfg.tanks.get st.ctx.tank).quietTime)

/-- A tank after a stray charge (R92). -/
def Tank.afterStray (charge quiet : Nat) (t : Tank) : Tank :=
  let t := t.addToBook (-(charge : Int))
  let t := { t with unassigned := satAdd Config.max32 t.unassigned charge }
  (t.addDrawn charge).leakRestart quiet

/-- The stock unit takes a stray charge (R92). -/
def State.chargeStray (s : State) (t : TankNo) (charge : Nat) : State :=
  s.changeStock t (Tank.afterStray charge (s.cfg.tanks.get t).quietTime)

/-! ## Strapping and gauging (R95 to R97) -/

/-- Interpolation above a point `p` that the level has reached, with the range flag (R96, step 1). -/
def strapAbove (p : StrapPoint) : List StrapPoint → Nat → Nat × Bool
  | [], level => (p.volume, decide (p.level < level))
  | q :: rest, level =>
    if level ≤ q.level then
      (p.volume + (q.volume - p.volume) * (level - p.level) / (q.level - p.level), false)
    else strapAbove q rest level

/-- Gauged gross and range flag of a level (R96, step 1). -/
def strapGross : List StrapPoint → Nat → Nat × Bool
  | [], _ => (0, false)
  | p :: rest, level => if level < p.level then (p.volume, true) else strapAbove p rest level

/-- Gauged net: gross times C7 divided by 10,000,000, rounded half up (R96, step 3). -/
def gaugedNet (gross c7 : Nat) : Nat := (gross * c7 + 5000000) / 10000000

/-- The gauge state after a valid reading (R96, steps 1 to 4). -/
def gaugeReading (points : List StrapPoint) (beta level : Nat) (tenths : Int) : Gauge :=
  let g := strapGross points level
  { level, temp := tenths, gross := g.1, net := gaugedNet g.1 (correction beta (clampTemp tenths)), range := g.2,
    valid := true, faults := 0, faultCondition := false }

/-- The leak watch acts on a valid reading (R100): the tank after it, and whether LEAK is reported. -/
def Tank.leakReading (threshold quiet net : Nat) (t : Tank) : Tank × Bool :=
  if t.leak = .quiet then
    match t.baseline with
    | none => ({ t with baseline := some net }, false)
    | some b => if threshold < b - net then (t.leakWaiting quiet, true) else (t, false)
  else (t, false)

/-- A valid gauge reading (R96). -/
def State.gaugeValid (s : State) (t : TankNo) (level : Nat) (tenths : Int) : State :=
  if s.isStrapped t then
    let c := s.cfg.tanks.get t
    let g := gaugeReading (s.cfg.straps.get t) (s.betaOf t) level tenths
    let s := s.modTank t fun k => { k with gauge := g, staleTimer := Timer.startSeconds c.staleTime }
    let s := s.gaugeTemp t tenths
    let r := (s.tanks.get t).leakReading c.leakThreshold c.quietTime g.net
    let s := s.modTank t fun _ => r.1
    if r.2 then s.report (.leak t) else s
  else s

/-- The valid flag is cleared, and GAUGE_FAULT is reported unless the condition is set already (R97). -/
def State.gaugeFault (s : State) (t : TankNo) : State :=
  let already := (s.tanks.get t).gauge.faultCondition
  let s := s.modTank t fun k => { k with gauge := { k.gauge with valid := false, faultCondition := true } }
  if already then s else s.report (.gaugeFault t)

/-- A faulty gauge reading (R97). -/
def State.gaugeFaulty (s : State) (t : TankNo) : State :=
  if s.isStrapped t then
    let n := satAdd Config.max8 (s.tanks.get t).gauge.faults 1
    let s := s.modTank t fun k => { k with gauge := { k.gauge with faults := n } }
    if n = Config.gaugeFaultLimit then s.gaugeFault t else s
  else s

/-- The stale timer expires (R97). -/
def State.gaugeStale (s : State) (t : TankNo) : State :=
  if (s.tanks.get t).staleTimer.isSome then State.gaugeFault (s.modTank t fun k => { k with staleTimer := none }) t
  else s

/-- The overfill probe's level follows its input; an assertion reports OVERFILL (R98). -/
def State.probeLevel (s : State) (t : TankNo) (level : Bool) : State :=
  let s := s.modTank t fun k => { k with probe := level }
  if level then s.report (.overfill t) else s

/-- The quiet timer expires: WAITING goes to QUIET with no baseline (R99). -/
def State.leakQuiet (s : State) (t : TankNo) : State :=
  if (s.tanks.get t).leak = .waiting ∧ (s.tanks.get t).quietTimer.isSome then
    s.modTank t fun k => { k with leak := .quiet, quietTimer := none, baseline := none }
  else s

/-! ## Receipts (R101 to R104) -/

/-- RECEIPT_OPEN (R101). -/
def receiptOpen (n : Nat) (s : State) : Answer × State :=
  match tankOf n with
  | none => (refuse .outOfRange, s)
  | some t =>
    let k := s.tanks.get t
    match firstFail
      [ (decide ((s.cfg.tanks.get t).role = .supply ∧ k.state = .inService), .state),
        (k.gauge.valid, .gaugeFault),
        (!s.tankShut t, .shut),
        (decide (1 ≤ s.journal.free), .journalFull) ] with
    | some c => (refuse c, s)
    | none =>
      let r : Receipt :=
        { openClock := s.supply.clock, clockNotSet := !s.supply.clockSet, gaugedAtOpen := k.gauge.net, drawn := 0 }
      let s := s.modTank t fun k => { k.leakBusy with state := .receiving, receipt := some r }
      ((.ok, .receiptOpened r.gaugedAtOpen), s.journalReserve)

/-- The receipt of a RECEIVING tank. -/
def State.openReceipt (s : State) (t : TankNo) : Option Receipt :=
  if (s.tanks.get t).state = .receiving then (s.tanks.get t).receipt else none

/-- The RECEIPT record of a receipt (R138). -/
def receiptRecord (s : State) (t : TankNo) (r : Receipt) (status : ReceiptStatus) (rise : Int) (docket : Option Nat)
    (variance : Option Int) (after : Int) : RecordBody :=
  .receipt
    { tank := t, status, openClock := r.openClock, closeClock := s.supply.clock, rise, docket, variance,
      bookBefore := (s.tanks.get t).book, bookAfter := after }

/-- The record's clock-not-set flag: unset at the open or now (R136; DEDUCED, log entry 19). -/
def State.receiptClockNotSet (s : State) (r : Receipt) : Bool := r.clockNotSet || !s.supply.clockSet

/-- A record is written into the receipt's place and the open receipt is removed (R103, R104). -/
def State.endReceipt (s : State) (t : TankNo) (r : Receipt) (body : RecordBody) : Nat × State :=
  let w := s.writeReserved (s.receiptClockNotSet r) body
  (w.1, w.2.modTank t fun k => { k with receipt := none })

/-- The rise of a receipt: gauge rise plus what was drawn while it was open (R103). -/
def receiptRise (g : Gauge) (r : Receipt) : Int := (g.net : Int) - (r.gaugedAtOpen : Int) + (r.drawn : Int)

/-- A docket lies within its range (R103). -/
def docketOk : Option Nat → Bool
  | none => true
  | some d => within 1 Config.maxVolume d

/-- RECEIPT_CLOSE (R103). That its refusals are tested in the order in which R103 lists them is DESIGN CHOICE, log entry 16. -/
def receiptClose (f : CloseFields) (s : State) : Answer × State :=
  match tankOf f.tank with
  | none => (refuse .outOfRange, s)
  | some t =>
    if !docketOk f.docket then (refuse .outOfRange, s)
    else match s.openReceipt t with
    | none => (refuse .state, s)
    | some r =>
      let k := s.tanks.get t
      let c := s.cfg.tanks.get t
      if !k.gauge.valid then (refuse .gaugeFault, s)
      else
        let rise := receiptRise k.gauge r
        let amount : Int := match f.docket with | some d => (d : Int) | none => rise
        let variance : Option Int := f.docket.map fun (d : Nat) => rise - (d : Int)
        let after := k.book + amount
        if after < Config.bookMin ∨ Config.bookMax < after then (refuse .outOfRange, s)
        else
          let body := receiptRecord s t r .closed rise f.docket variance after
          let s := s.changeStock t fun k => { k with book := after }
          let e := s.endReceipt t r body
          let s := match variance with
            | some v => if c.tolerance < v.natAbs then e.2.raiseKind .receiptVariance else e.2
            | none => e.2
          let s := s.modTank t fun k => Tank.leakRest c.quietTime { k with state := .inService }
          ((.ok, .receiptClosed rise variance after e.1), s)

/-- The cancellation of a receipt: the record, the removal and the leak watch (R104, R110). -/
def State.cancelReceipt (s : State) (t : TankNo) (r : Receipt) : Nat × State :=
  let e := s.endReceipt t r (receiptRecord s t r .cancelled 0 none none (s.tanks.get t).book)
  (e.1, e.2.modTank t (Tank.leakRest (s.cfg.tanks.get t).quietTime))

/-- RECEIPT_CANCEL (R104). -/
def receiptCancel (n : Nat) (s : State) : Answer × State :=
  match tankOf n with
  | none => (refuse .outOfRange, s)
  | some t =>
    match s.openReceipt t with
    | none => (refuse .state, s)
    | some r =>
      let e := s.cancelReceipt t r
      ((.ok, .written e.1), e.2.modTank t fun k => { k with state := .inService })

/-! ## Stock set and configuration (R95, R86, R106, R107) -/

/-- A tank after a STOCK_SET (R106). -/
def Tank.afterStockSet (book : Int) (t : Tank) : Tank :=
  { t with
    book := book
    bookLimit := false
    unassigned := 0
    state := if t.state = .outOfService then .inService else t.state }

/-- STOCK_SET (R106). -/
def stockSet (f : StockSetFields) (s : State) : Answer × State :=
  match tankOf f.tank with
  | none => (refuse .outOfRange, s)
  | some t =>
    let k := s.tanks.get t
    match firstFail
      [ (decide (Config.bookMin ≤ f.book) && decide (f.book ≤ Config.bookMax), .outOfRange),
        (!k.isWorking, .inUse),
        (decide (1 ≤ s.journal.free), .journalFull) ] with
    | some c => (refuse c, s)
    | none =>
      let w := s.writeUnreserved (!s.supply.clockSet)
        (.stockAdjust { tank := t, reason := f.reason, oldBook := k.book, newBook := f.book, clock := s.supply.clock })
      ((.ok, .written w.1), w.2.changeStock t (Tank.afterStockSet f.book))

/-- The TANK_LOW test of a TANK_SET that keeps the role: the quantity under the old configuration is held against the old reorder
level and the quantity under the new one against the new level (DEDUCED, log entry 20), and a change that raises the quantity
gives no notice (R93). -/
def State.tankSetLow (s : State) (old new : TankCfg) (k : Tank) : State :=
  s.lowTest (isLow old k || decide (stockQuantity old k < stockQuantity new k)) (isLow new k)

/-- TANK_SET (R107). That the ranges are tested before the use is DESIGN CHOICE, log entry 16. -/
def tankSet (f : TankSetFields) (s : State) : Answer × State :=
  match tankSetOf f with
  | none => (refuse .outOfRange, s)
  | some (t, c, st) =>
    if s.tankInUse t then (refuse .inUse, s)
    else
      let old := s.cfg.tanks.get t
      let s := s.configure fun g => { g with tanks := g.tanks.put t c }
      let s := s.modTank t fun k => Tank.leakRestart c.quietTime { k with state := st }
      (accepted, if old.role = c.role then s.tankSetLow old c (s.tanks.get t) else s)

/-- STRAP_LOAD (R95). That the tank number is tested first is DESIGN CHOICE, log entry 16. -/
def strapLoad (f : StrapFields) (s : State) : Answer × State :=
  match tankOf f.tank with
  | none => (refuse .outOfRange, s)
  | some t =>
    match firstFail [(strapTableOk f.points, .badTable), ((s.tanks.get t).receipt.isNone, .inUse)] with
    | some c => (refuse c, s)
    | none =>
      let k := s.cfg.tanks.get t
      let wasStrapped := s.isStrapped t
      let s := s.configure fun g => { g with straps := g.straps.put t f.points }
      (accepted, s.modTank t fun u =>
        let u := u.leakRestart k.quietTime
        if wasStrapped then u else { u with staleTimer := Timer.startSeconds k.staleTime })

/-- The coefficient with which conversions use an entry: 0 when it is undefined (R86). -/
def FluidEntry.inForce (e : FluidEntry) : Nat := if e.isDefined then e.beta else 0

/-- FLUID_SET (R86). What counts as a changed coefficient is DEDUCED, log entry 20; that the ranges are tested before the use is
DESIGN CHOICE, log entry 16. -/
def fluidSet (f : FluidSetFields) (s : State) : Answer × State :=
  match fluidSetOf f with
  | none => (refuse .outOfRange, s)
  | some (code, e) =>
    if s.fluidInUse code then (refuse .inUse, s)
    else
      let old := s.cfg.fluids.get code
      let s := s.configure fun g => { g with fluids := g.fluids.put code e }
      let restart (s : State) (t : TankNo) : State :=
        if (s.cfg.tanks.get t).fluid = code then s.modTank t (Tank.leakRestart (s.cfg.tanks.get t).quietTime) else s
      (accepted, if old.inForce = e.inForce then s else allTanks.foldl restart s)

/-! ## TANK_READ (R108) -/

/-- A time left in tenths of a second as whole units, rounded up (R108; for the stale time DESIGN CHOICE, log entry 14). -/
def leftUp (t : Timer) (unit : Nat) : Nat := (t.left + unit - 1) / unit

/-- What TANK_READ carries (R108). -/
def tankView (s : State) (t : TankNo) : TankView :=
  let k := s.tanks.get t
  let c := s.cfg.tanks.get t
  { cfg := c, points := (s.cfg.straps.get t).length, state := k.state, book := k.book, bookLimit := k.bookLimit,
    reserved := k.reserved, quantity := stockQuantity c k, low := isLow c k, unassigned := k.unassigned,
    gauge := k.gauge, staleSeconds := leftUp k.staleTimer 10, probe := k.probe, leak := k.leak,
    baseline := k.baseline, quietMinutes := leftUp k.quietTimer 600,
    receipt := k.receipt.map fun r => (r.openClock, r.gaugedAtOpen, r.drawn), latched := s.tankShut t }

/-- TANK_READ (R108). -/
def tankRead (n : Nat) (s : State) : Answer :=
  match tankOf n with
  | none => refuse .outOfRange
  | some t => (.ok, .tank (tankView s t))

end Sys2Proof.Machine
end

