-- ==== Sys2Proof/Machine/Channel.lean ====
section
/-! DEFINITION. The hose channels (Chapter 2): starting a step, the claim, the two-stage valve, settling and run-on,
suspension and resumption, cancel, departure and trip at the hose, the step end report, stray flow, hose configuration. -/

namespace Sys2Proof.Machine

/-! ## Step end (R49) -/

/-- The bounds that apply to a step, in the order of the table of R31. -/
def bounds (st : Step) : List (Nat × LimitedBy) :=
  (st.preset.map fun p => (p, LimitedBy.unbounded)).toList ++ [(st.ctx.stepLimit, .hoseLimit)]
    ++ (st.ctx.capacityBound.map fun c => (c, LimitedBy.machineCapacity)).toList

/-- The least of two bounds, the first of two that are equal. -/
def lesser (a b : Nat × LimitedBy) : Nat × LimitedBy := if b.1 < a.1 then b else a

/-- The requested target T and its limited-by: the least bound, the first of equal ones in the order of the table
(R31). -/
def requestedTarget (st : Step) : Nat × LimitedBy :=
  match bounds st with
  | [] => (0, .unbounded)
  | b :: rest => rest.foldl lesser b

/-- The limited-by that an end report carries (R33, R137; DEDUCED, log entry 17). -/
def endLimit (st : Step) : LimitedBy := if st.target = 0 then (requestedTarget st).2 else st.limitedBy

/-- The end report of a step (R49). -/
def endReport (r : StepRef) (st : Step) (status : StepEnd) (figures : Figures) (cause : Option Cause) : EndReport :=
  { ref := r, status, target := st.target, limitedBy := endLimit st, figures, tempHeld := st.tempHeld,
    tempClamped := st.tempClamped, cause }

/-- The channel with no step: the reference is dropped and the step's timers are stopped (R29, R49). -/
def Channel.dropStep (c : Channel) : Channel :=
  { c with
    step := none
    valve := .closed
    coupleTimer := none
    stallTimer := none
    rateTimer := none
    settleTimer := none
    windowCount := 0
    flow := 0 }

/-- The hand-over of an end report: the stock unit takes it, the channel drops its step, and the report is on its way to
the order unit (R49). -/
def State.sendEnd (s : State) (st : Step) (rep : EndReport) : State :=
  let s := s.chargeEnd st rep.target rep.figures.net
  let s := s.modHose st.hose Channel.dropStep
  { s with ends := s.ends ++ [rep] }

/-- A step ends directly from WAITING_COUPLE (R47). -/
def State.endWaiting (s : State) (r : StepRef) (st : Step) (status : StepEnd) (cause : Option Cause) : State :=
  s.sendEnd st (endReport r st status (waitingFigures st) cause)

/-! ## The valve (R35 to R38) -/

/-- The channel on leaving RUNNING: valve CLOSED, stall and rate timers stopped, the window discarded (R39). -/
def Channel.closeValve (c : Channel) : Channel :=
  { c with valve := .closed, stallTimer := none, rateTimer := none, windowCount := 0, flow := 0 }

/-- Net at valve close: recorded at the closing of a RUNNING step, kept otherwise (R36, R47). -/
def Step.closingNet (st : Step) : Option Nat := if st.isRunning then some st.net else st.netAtClose

/-- The run-on of a step: reported net less net at valve close (R42). -/
def Step.runOn (st : Step) : Nat := st.net - st.netAtClose.getD st.net

/-- The run-on check (R42). -/
def State.runOnCheck (s : State) (r : StepRef) : State :=
  match s.stepAt r with
  | none => s
  | some st =>
    if !st.runOnReported && decide (st.ctx.runOnLimit < st.runOn) then
      (s.modStep r fun st => { st with runOnReported := true }).report (.runOn st.hose)
    else s

/-- The cause that a closing stores: it fills the field of a step that takes the trip's status, and only an empty field
of a step that carries an end status (R48). -/
def settledCause (st : Step) (cause : Option Cause) : Option Cause :=
  match st.endStatus with
  | none => cause.orElse fun _ => st.cause
  | some _ => st.cause.orElse fun _ => cause

/-- A RUNNING or SUSPENDED step goes to SETTLING with a status; an end status it already carries is kept (R37 to R48). That
its suspension reason is discarded here is DESIGN CHOICE, log entry 34. -/
def Step.settled (status : StepEnd) (cause : Option Cause) (st : Step) : Step :=
  { st with
    state := .settling
    netAtClose := st.closingNet
    endStatus := some (st.endStatus.getD status)
    cause := settledCause st cause
    suspension := none }

/-- The entry to SETTLING: the valve is closed, the settle timer starts and the run-on check is made (R41, R42). -/
def State.settle (s : State) (r : StepRef) (st : Step) (status : StepEnd) (cause : Option Cause) : State :=
  let s := s.modHose st.hose fun c =>
    { c.closeValve with
      coupleTimer := none
      strayTimer := none
      settleTimer := Timer.startTenths st.ctx.settleTime }
  let s := s.modStep r (Step.settled status cause)
  s.runOnCheck r

/-- The state that a step of reported net `n` enters on entry to RUNNING, when `n` is below its target (R35). -/
def runningStage (st : Step) : StepState × ValveStage :=
  let slow := st.ctx.slowDown
  if slow = 0 ∨ st.target ≤ slow ∨ st.target - slow ≤ st.net then (.runningSlow, .low) else (.runningFast, .full)

/-- Entry to RUNNING (R35). The stray quiet timer stops, as table 2.1 lists none for RUNNING, and its count stands (DEDUCED, log
entry 21). -/
def State.enterRunning (s : State) (r : StepRef) (st : Step) : State :=
  if st.target ≤ st.net then
    State.settle (s.modStep r fun st => { st with netAtClose := some (st.netAtClose.getD st.net) }) r
      { st with netAtClose := some (st.netAtClose.getD st.net) } .complete none
  else
    let g := runningStage st
    let s := s.modStep r fun st => { st with state := g.1, suspension := none }
    s.modHose st.hose fun c =>
      { c with
        valve := g.2
        coupleTimer := none
        settleTimer := none
        strayTimer := none
        stallTimer := Timer.startSeconds st.ctx.stallTime
        rateTimer := Timer.startTenths Config.rateWindow
        windowCount := 0
        flow := 0 }

/-! ## Starting and claiming (R30 to R34) -/

/-- The answer to a claim of T is applied (R33). -/
def State.applyClaim (s : State) (r : StepRef) (st : Step) (draw : Bool) (want : Nat × LimitedBy) (a : ClaimAnswer) :
    State :=
  match a with
  | .refused e => s.endWaiting r st e none
  | .granted q =>
    let limit := if q < want.1 then (if draw then .stock else .room) else want.2
    let st := { st with target := q, limitedBy := limit }
    let s := s.grant st.ctx.tank q
    let s := s.modStep r fun st => { st with target := q, limitedBy := limit }
    s.enterRunning r st

/-- The claim of a step that holds no reservation: coverage is asked first (R32), then the stock unit (R33). -/
def State.claim (s : State) (r : StepRef) (st : Step) : State :=
  match s.stepCover r st with
  | some c => s.endWaiting r st .shutdown (some c)
  | none =>
    let draw := StepKindDraws st.kind
    let t := st.ctx.tank
    let want := requestedTarget st
    s.applyClaim r st draw want (claimAnswer (s.cfg.tanks.get t) (s.tanks.get t) draw want.1)

/-- The claim conditions of R32 for the hose's step. -/
def State.claimReady (s : State) (r : StepRef) (st : Step) : Bool :=
  decide (st.state = .waitingCouple) && (s.hoses.get st.hose).coupled && s.isPresent r.island && s.supplyNormal
    && decide (st.suspension ≠ some .power)

/-- The hose's step claims, or a power-resumed step enters RUNNING, when the claim conditions hold (R30, R32). A step
with a target above 0 holds its reservation. -/
def State.tryClaim (s : State) (h : HoseNo) : State :=
  match s.hoseStep h with
  | none => s
  | some (r, st) =>
    if s.claimReady r st then
      let s := s.modHose h fun c => { c with coupleTimer := none }
      if 0 < st.target then s.enterRunning r st else s.claim r st
    else s

/-- The step record of a step that is started (R30, R62). -/
def Step.started (g : Gauge) (st : Step) : Step :=
  Step.meterStart
    { st with
      state := .waitingCouple
      suspension := none
      target := 0
      limitedBy := .unbounded
      netAtClose := none
      endStatus := none
      cause := none
      runOnReported := false } g

/-- The order unit starts a step on its hose (R30). -/
def State.startStep (s : State) (r : StepRef) (st : Step) : State :=
  let s := s.modHose st.hose fun c =>
    { c.strayReset with step := some r, coupleTimer := Timer.startSeconds st.ctx.coupleWait }
  let s := s.modStep r (Step.started (s.tanks.get st.ctx.tank).gauge)
  s.tryClaim st.hose

/-- The couple-wait timer expires (R34). -/
def State.coupleWait (s : State) (h : HoseNo) : State :=
  match s.hoseStep h with
  | none => s
  | some (r, st) =>
    if (s.hoses.get h).coupleTimer.isSome ∧ st.state = .waitingCouple then s.endWaiting r st .notCoupled none else s

/-! ## Coupling (R32, R34, R38) -/

/-- The hose is coupled. -/
def State.couple (s : State) (h : HoseNo) : State :=
  State.tryClaim (s.modHose h fun c => { c with coupled := true }) h

/-- The hose is uncoupled (R38). -/
def State.uncouple (s : State) (h : HoseNo) : State :=
  let s := s.modHose h fun c => { c with coupled := false }
  match s.hoseStep h with
  | none => s
  | some (r, st) => if st.isRunning then s.settle r st .uncoupled none else s

/-! ## Pulses (R36, R41, R52, R53, R57, R58, R69) -/

/-- A metered pulse in RUNNING: the stall timer restarts, the window counts, and the new reported net is compared
(R36). `st` is the step after the pulse. -/
def State.runningPulse (s : State) (r : StepRef) (st : Step) : State :=
  let s := s.modHose st.hose fun c =>
    { c with stallTimer := Timer.startSeconds st.ctx.stallTime, windowCount := c.windowCount + 1 }
  if st.target ≤ st.net then s.settle r st .complete none
  else if st.state = .runningFast ∧ st.target - st.ctx.slowDown ≤ st.net then
    let s := s.modStep r fun st => { st with state := .runningSlow }
    s.modHose st.hose fun c => { c with valve := .low }
  else s

/-- A pulse metered to a step (R58). `st` is the step before the pulse. -/
def State.meteredPulse (s : State) (r : StepRef) (st : Step) : State :=
  let s := s.modStep r Step.metered
  let st := st.metered
  if st.isRunning then s.runningPulse r st
  else if st.state = .settling then
    State.runOnCheck (s.modHose st.hose fun c => { c with settleTimer := Timer.startTenths st.ctx.settleTime }) r
  else s

/-- A stray pulse is priced and charged to the configured tank (R53, R69). -/
def State.priceStray (s : State) (h : HoseNo) : State :=
  let c := s.cfg.hoses.get h
  match c.tank with
  | none => s
  | some t =>
    if c.enabled then
      let acc := s.strayAccAfter h t
      let charge := reportedNet acc - (s.hoses.get h).strayCharged
      let s := s.modHose h fun c => { c with strayAcc := acc, strayCharged := c.strayCharged + charge }
      s.chargeStray t charge
    else s

/-- A stray pulse (R52, R53). -/
def State.strayPulse (s : State) (h : HoseNo) : State :=
  let c := s.cfg.hoses.get h
  let n := satAdd Config.max8 (s.hoses.get h).strayCount 1
  let due := !(s.hoses.get h).strayReported && decide (c.strayThreshold ≤ n)
  let s := s.modHose h fun k =>
    { k with
      strayCount := n
      strayReported := k.strayReported || due
      strayTimer := Timer.startTenths c.settleTime }
  let s := s.priceStray h
  if due then s.report (.strayFlow h) else s

/-- A pulse at a hose (R57). While its step is in WAITING_COUPLE the pulse is stray and adds nothing to the step, as R57 says and
R47 bears out; R71 would count one taken just before an end from WAITING_COUPLE to the step (DESIGN CHOICE, log entry 32). -/
def State.pulse (s : State) (h : HoseNo) : State :=
  match s.hoseStep h with
  | none => s.strayPulse h
  | some (r, st) => if st.isMetered then s.meteredPulse r st else s.strayPulse h

/-! ## Timers of a channel (R37, R39, R41, R52) -/

/-- The stall timer expires (R37). -/
def State.stall (s : State) (h : HoseNo) : State :=
  match s.hoseStep h with
  | none => s
  | some (r, st) =>
    if (s.hoses.get h).stallTimer.isSome ∧ st.isRunning then
      s.settle r st (if StepKindPreset st.kind then .stalled else .full) none
    else s

/-- The rate window expires (R39, R70). -/
def State.rateWindow (s : State) (h : HoseNo) : State :=
  match s.hoseStep h with
  | none => s
  | some (_, st) =>
    let c := s.hoses.get h
    if c.rateTimer.isSome ∧ st.isRunning then
      let s := if st.ctx.maxPulses < c.windowCount then s.report (.hoseBreak h) else s
      s.modHose h fun c =>
        { c with
          flow := flowReading c.windowCount st.ctx.factor
          windowCount := 0
          rateTimer := Timer.startTenths Config.rateWindow }
    else s

/-- The settle timer expires: the step ends with the status set on its entry to SETTLING (R41). -/
def State.settleEnd (s : State) (h : HoseNo) : State :=
  match s.hoseStep h with
  | none => s
  | some (r, st) =>
    if (s.hoses.get h).settleTimer.isSome ∧ st.state = .settling then
      s.sendEnd st (endReport r st (st.endStatus.getD .complete) (meteredFigures st) st.cause)
    else s

/-- The stray quiet timer expires (R52, R69). -/
def State.strayQuiet (s : State) (h : HoseNo) : State :=
  if (s.hoses.get h).strayTimer.isSome then s.modHose h Channel.strayReset else s

/-! ## Suspension and resumption (R43 to R46) -/

/-- A RUNNING step is suspended (R43, R45). -/
def State.suspend (s : State) (r : StepRef) (st : Step) (reason : SuspendReason) : State :=
  let s := s.modHose st.hose Channel.closeValve
  s.modStep r fun st => { st with state := .suspended, netAtClose := some st.net, suspension := some reason }

/-- The island has entered LEAVING (R43). -/
def State.leavingAt (s : State) (h : HoseNo) : State :=
  match s.hoseStep h with
  | none => s
  | some (r, st) => if st.isRunning then s.suspend r st .presence else s

/-- The island has entered PRESENT (R44). -/
def State.presentAt (s : State) (h : HoseNo) : State :=
  match s.hoseStep h with
  | none => s
  | some (r, st) =>
    if st.state = .waitingCouple then s.tryClaim h
    else if st.state = .suspended ∧ st.suspension = some .presence then
      match st.endStatus with
      | some e => s.settle r st e none
      | none => if (s.hoses.get h).coupled then s.enterRunning r st else s.settle r st .uncoupled none
    else s

/-- The power-fail warning at a channel (R45). -/
def State.warnedAt (s : State) (h : HoseNo) : State :=
  match s.hoseStep h with
  | none => s
  | some (r, st) =>
    if st.isRunning then s.suspend r st .power
    else if st.state = .suspended then s.modStep r fun st => { st with suspension := some .power }
    else if st.state = .waitingCouple then
      State.modStep (s.modHose h fun c => { c with coupleTimer := none }) r fun st => { st with suspension := some .power }
    else s

/-- A step enters WAITING_COUPLE again, or has its power pause lifted: its reason is discarded and its couple-wait timer
starts afresh (R46). -/
def State.rewait (s : State) (r : StepRef) (st : Step) : State :=
  let s := s.modHose st.hose fun c => { c with coupleTimer := Timer.startSeconds st.ctx.coupleWait }
  s.modStep r fun st => { st with state := .waitingCouple, suspension := none }

/-- The resume instruction at a step held for power (R46). -/
def State.resumeStep (s : State) (r : StepRef) (st : Step) : State :=
  if st.state = .waitingCouple then State.tryClaim (s.rewait r st) st.hose
  else match st.endStatus with
  | some e => s.settle r st e none
  | none =>
    if !s.isPresent r.island then s.modStep r fun st => { st with suspension := some .presence }
    else if (s.hoses.get st.hose).coupled then s.enterRunning r st
    else s.rewait r st

/-! ## Stop, cancel, departure and trip at the hose (R40, R47, R48) -/

/-- An instruction that brings a started step to its end with a status: from WAITING_COUPLE it ends at once, from RUNNING
and SUSPENDED it settles, and a SETTLING step is unchanged (R40, R47). -/
def State.closeStep (s : State) (r : StepRef) (st : Step) (status : StepEnd) : State :=
  if st.state = .waitingCouple then s.endWaiting r st status none
  else if st.isRunning || decide (st.state = .suspended) then s.settle r st status none
  else s

/-- A trip order at the hose's step (R48). -/
def State.tripStep (s : State) (r : StepRef) (st : Step) (cause : Cause) : State :=
  if st.state = .waitingCouple then s.endWaiting r st .shutdown (some cause)
  else if st.isRunning || decide (st.state = .suspended) then s.settle r st .shutdown (some cause)
  else if st.state = .settling then s.modStep r fun st => { st with cause := st.cause.orElse fun _ => some cause }
  else s

/-- A step ends RESET with the quantities metered so far (R28, R47). -/
def State.resetStep (s : State) (r : StepRef) (st : Step) : State :=
  s.sendEnd st (endReport r st .reset (meteredFigures st) st.cause)

/-! ## Outputs (R159, R160) -/

/-- A hose whose step has the tank as its captured tank has its valve open. -/
def State.drives (s : State) (t : TankNo) (h : HoseNo) : Bool :=
  decide ((s.hoses.get h).valve ≠ .closed) &&
    match s.hoseStep h with
    | some (_, st) => decide (st.ctx.tank = t)
    | none => false

/-- A tank's pump enable (R159). -/
def State.pumpDue (s : State) (t : TankNo) : Bool := allHoses.any (s.drives t) && !s.tankShut t

/-- The outputs are brought into line with the map and the valves (R159, R160). -/
def State.alignOutputs (s : State) : State :=
  s.modShut fun u => { u with relay := !s.isLatched .bay, pumps := Vector.ofFn fun t => s.pumpDue t }

/-! ## Hose read and hose configuration (R54, R55) -/

/-- The hose's step as HOSE_READ carries it. -/
def hoseStepView (p : StepRef × Step) : HoseStepView :=
  { island := p.1.island, index := p.1.idx + 1, state := p.2.state, suspension := p.2.suspension, target := p.2.target,
    limitedBy := p.2.limitedBy, gross := p.2.gross, net := p.2.net }

/-- HOSE_READ (R54). -/
def hoseRead (n : Nat) (s : State) : Answer :=
  match hoseOf n with
  | none => refuse .outOfRange
  | some h =>
    let c := s.hoses.get h
    (.ok, .hose
      { cfg := s.cfg.hoses.get h, coupled := c.coupled, valve := c.valve, step := (s.hoseStep h).map hoseStepView,
        flow := c.flow, strayCount := c.strayCount, strayCondition := c.strayTimer.isSome })

/-- HOSE_SET (R55, R69). -/
def hoseSet (f : HoseSetFields) (s : State) : Answer × State :=
  match hoseSetOf f with
  | none => (refuse .outOfRange, s)
  | some (h, c) =>
    if s.hoseInUse h then (refuse .inUse, s)
    else
      let s := s.configure fun g => { g with hoses := g.hoses.put h c }
      (accepted, s.modHose h fun k => { k with strayAcc := 0, strayCharged := 0 })

end Sys2Proof.Machine
end

