-- ==== Sys2Proof/Machine/Orders.lean ====
section
/-! DEFINITION. The order unit (Chapter 1): admission, groups and gaps, step ends, hold, continue, cancel and stop,
supply hold, departure and trips at order level, order end and hand-off, order read. -/

namespace Sys2Proof.Machine

/-! ## What an order still holds -/

def Order.hasPending (o : Order) : Bool := o.steps.any fun st => decide (st.state = .pending)
def Order.hasStarted (o : Order) : Bool := o.steps.any Step.isStarted
def Order.hasSettling (o : Order) : Bool := o.steps.any fun st => decide (st.state = .settling)

/-- Every PENDING step becomes NOT_RUN (R13, R18, R22, R23). -/
def Order.dropPending (o : Order) : Order :=
  { o with steps := o.steps.map fun st => if st.state = .pending then { st with state := .notRun } else st }

/-- The order goes to ENDING with an end status, unless one is recorded, which stands (for R13: DEDUCED, log entry 18); its
hold reason is discarded and its PENDING steps become NOT_RUN (R13, R18, R22, R23). -/
def Order.toEnding (status : OrderEnd) (o : Order) : Order :=
  { o.dropPending with state := .ending, hold := none, endStatus := some (o.endStatus.getD status) }

/-- The order goes to HELD with a reason (R10, R15, R16, R20). -/
def Order.toHeld (reason : HoldReason) (o : Order) : Order := { o with state := .held, hold := some reason }

/-! ## Order end and hand-off (R24, R25) -/

/-- The end status an order takes from its steps, or the one recorded (R24). -/
def Order.finalStatus (o : Order) : OrderEnd :=
  o.endStatus.getD (if o.steps.any Step.endedInError then .completeWithErrors else .complete)

/-- The final reported net of an ENDED step. -/
def finalNet (st : Step) : Nat := match st.final with | some f => f.net | none => 0

/-- An ENDED draw step that has drawn; one of net 0 drew nothing (R25, R119). -/
def hasDrawn (st : Step) : Bool := decide (st.state = .ended) && StepKindDraws st.kind && decide (0 < finalNet st)

/-- The order end summary of an island's order (R25). -/
def Order.summary (i : IslandNo) (o : Order) : Summary :=
  let draws := o.steps.filter hasDrawn
  { machine := o.machine, island := i, hour := o.hour,
    fuelNet := ((draws.filter fun st => decide (st.ctx.fluidKind = .fuel)).map finalNet).sum,
    fluids := (allFluids.filter fun f => draws.any fun st => decide (st.ctx.fluid = f)).map fun f =>
      (f, ((draws.filter fun st => decide (st.ctx.fluid = f)).map finalNet).sum) }

/-- The step record of a SERVICE record (R137). -/
def stepRecord (st : Step) : StepRecord :=
  let ended := decide (st.state = .ended)
  let f := st.final.getD { gross := 0, net := 0, overrun := 0, residue := 0 }
  { hose := st.hose, tank := st.ctx.tank, fluid := st.ctx.fluid, kind := st.kind, preset := st.preset,
    target := if ended then st.target else 0, limitedBy := if ended then st.limitedBy else .unbounded,
    gross := if ended then f.gross else 0, net := if ended then f.net else 0,
    overrun := if ended then f.overrun else 0, residue := if ended then f.residue else 0,
    status := if ended then st.endStatus.getD .notRun else .notRun,
    isParallel := st.isParallel, holdBefore := st.holdBefore, stopOnError := st.stopOnError,
    tempHeld := ended && st.tempHeld, tempClamped := ended && st.tempClamped,
    cause := if ended then st.cause else none }

/-- The SERVICE record of an order that ends now (R137). -/
def serviceRecord (s : State) (i : IslandNo) (o : Order) (status : OrderEnd) : RecordBody :=
  .service
    { island := i, machine := o.machine, hour := o.hour, admissionClock := o.admissionClock,
      endClock := s.supply.clock, status, steps := o.steps.map stepRecord }

/-- The hand-off of an ended order: summary, SERVICE record with its number stored in the order, last-order sequence
number, slot freed, ORDER_ENDED (R25). -/
def State.handOff (s : State) (i : IslandNo) (o : Order) (status : OrderEnd) : State :=
  let s := s.takeSummary (o.summary i)
  let w := s.writeReserved (o.clockNotSet || !s.supply.clockSet) (serviceRecord s i o status)
  let s := w.2.setOrder i (some { o with endStatus := some status, seq := some w.1 })
  let s := s.modIsland i fun k => { k with lastSeq := some w.1 }
  (s.setOrder i none).raiseAt .orderEnded i

/-- The island's order ends (R24). -/
def State.endOrder (s : State) (i : IslandNo) : State :=
  match s.orders.get i with
  | none => s
  | some o => s.handOff i o o.finalStatus

/-- An order in ENDING with no started step ends (R12, R13, R18, R22, R23). -/
def State.endIfDone (s : State) (i : IslandNo) : State :=
  match s.orders.get i with
  | none => s
  | some o => if o.state = .ending ∧ !o.hasStarted ∧ !o.hasPending then s.endOrder i else s

/-! ## Groups (R9 to R11) -/

/-- A covered step at its group's start: ENDED with status SHUTDOWN, target 0 and all quantities 0 (R11). -/
def Step.coveredEnd (cause : Cause) (st : Step) : Step :=
  { st with
    state := .ended
    endStatus := some .shutdown
    target := 0
    limitedBy := (requestedTarget st).2
    cause := some cause
    final := some { gross := 0, net := 0, overrun := 0, residue := 0 } }

/-- One step of a group that starts: ended when it is covered, else passed to its hose (R11). -/
def State.startOne (s : State) (p : StepRef × Step) : State :=
  match s.stepCover p.1 p.2 with
  | some c => (s.modStep p.1 (Step.coveredEnd c)).raiseAt .stepEnded p.1.island
  | none => s.startStep p.1 p.2

/-- STOP_ON_ERROR is taken (R13). -/
def State.stopOnError (s : State) (i : IslandNo) : State :=
  (s.modOrder i (Order.toEnding .stopped)).endIfDone i

/-- A group is started; when every step of it is covered, or a covered step carries STOP_ON_ERROR, the step ends are
acted on after the whole group has been taken (R11, R12; DEDUCED, log entry 7). The answer also says whether every step of the
group was covered with nothing started. -/
def State.startGroup (s : State) (i : IslandNo) (g : Nat) (members : List (StepRef × Step)) : State × Bool :=
  let covered := members.filter fun p => (s.stepCover p.1 p.2).isSome
  let s := s.modOrder i fun o => { o with group := g }
  let s := members.foldl State.startOne s
  if covered.any fun p => p.2.stopOnError then (s.stopOnError i, false)
  else (s, decide (covered.length = members.length))

/-- The steps of an island's order that are in group `g`. -/
def State.groupMembers (s : State) (i : IslandNo) (o : Order) (g : Nat) : List (StepRef × Step) :=
  (s.stepsOf i).filter fun p => decide (groupOf o.steps p.1.idx = g)

/-- The order unit tries to start the next group, the group of the first PENDING step (R9), or holds at its gap (R10). A
group that ends at once is followed by the next; an order whose last group ends so ends. While the island is not PRESENT a group
whose gap is still to be taken is deferred like any other, with the order ACTIVE, and its gap is entered when its turn comes
again on the return to PRESENT (DESIGN CHOICE, log entry 33). `fuel` bounds the number of groups, of which an order has at most
8. -/
def State.tryStart : Nat → State → IslandNo → State
  | 0, s, _ => s
  | fuel + 1, s, i =>
    match s.orders.get i with
    | none => s
    | some o =>
      match o.steps.findIdx? fun st => decide (st.state = .pending) with
      | none => s
      | some k =>
        let g := groupOf o.steps k
        if o.state = .active ∧ (o.steps.take k).all (fun st => !st.isLive) ∧ s.isPresent i then
          if (o.steps[k]?.map (·.holdBefore)).getD false ∧ o.gapTaken ≠ some g then
            (s.modOrder i fun o => { o.toHeld .gap with gapTaken := some g }).raiseAt .orderHeld i
          else
            let r := s.startGroup i g (s.groupMembers i o g)
            if r.2 then
              match r.1.orders.get i with
              | none => r.1
              | some o => if o.hasPending then State.tryStart fuel r.1 i else r.1.endOrder i
            else r.1
        else s

/-- An attempt to start the next group (R9). -/
def State.nextGroup (s : State) (i : IslandNo) : State := State.tryStart 8 s i

/-! ## Step ends (R12, R13, R16) -/

/-- A hold completes (R16). -/
def State.completeHold (s : State) (i : IslandNo) : State :=
  match s.orders.get i with
  | none => s
  | some o =>
    if o.hasPending || o.hasStarted then (s.modOrder i fun o => { o with state := .held }).raiseAt .orderHeld i
    else (s.modOrder i fun o => { o with hold := none }).endOrder i

/-- A pending hold is to complete (R12, item 2). -/
def Order.holdDone (o : Order) : Bool :=
  decide (o.state = .holdPending) &&
    match o.hold with
    | some .request => !o.hasStarted
    | some .power => !o.hasSettling
    | _ => false

/-- Every step of the current group is ENDED or NOT_RUN. -/
def Order.groupDone (o : Order) : Bool :=
  o.steps.zipIdx.all fun p => decide (groupOf o.steps p.2 ≠ o.group) || !p.1.isLive

/-- The order's course after a step end (R12); `stops` is whether the end is an error of a step that carries
STOP_ON_ERROR. -/
def State.course (s : State) (i : IslandNo) (stops : Bool) : State :=
  match s.orders.get i with
  | none => s
  | some o =>
    if stops ∧ o.state ≠ .ending then s.stopOnError i
    else if o.holdDone then s.completeHold i
    else if o.state = .ending then s.endIfDone i
    else if o.groupDone then (if o.hasPending then s.nextGroup i else s.endOrder i)
    else s

/-- A step record with its end report entered (R12). That the suspension reason of a power-paused step, or of one that external
reset ends, is discarded here is DESIGN CHOICE, log entry 34. -/
def Step.ended (e : EndReport) (st : Step) : Step :=
  { st with
    state := .ended
    endStatus := some e.status
    target := e.target
    limitedBy := e.limitedBy
    final := some e.figures
    tempHeld := e.tempHeld
    tempClamped := e.tempClamped
    cause := e.cause
    suspension := none }

/-- The order unit takes a step end report (R12). -/
def State.takeEnd (s : State) (e : EndReport) : State :=
  match s.stepAt e.ref with
  | none => s
  | some st =>
    let s := (s.modStep e.ref (Step.ended e)).raiseAt .stepEnded e.ref.island
    s.course e.ref.island (st.stopOnError && isError st.kind e.status)

/-- The reports handed over within a command are taken in turn, with those that taking them gives (R49). `fuel` bounds
their number: each step of the four orders ends once, so there are at most 32; none is left on its way (DEDUCED, log
entry 8). -/
def State.takeEnds : Nat → State → State
  | 0, s => { s with ends := [] }
  | fuel + 1, s =>
    match s.ends with
    | [] => s
    | e :: rest => State.takeEnds fuel (State.takeEnd { s with ends := rest } e)

/-- The order unit has taken every report on its way to it. -/
def State.drain (s : State) : State := State.takeEnds 64 s

/-- A command that can move valves ends: the reports on their way to the order unit are taken and the outputs follow
(R49, R159). -/
def State.settleAll (s : State) : State := s.drain.alignOutputs

/-! ## Admission (R3 to R6) -/

/-- The step flags of Table 11-3; a flags byte with any of bits 3 to 7 set is ill formed (R203). -/
def flagsOk (b : Byte) : Bool := decide (b.toNat < 8)

/-- The context captured for a step at a hose (R2, R5). -/
def captureContext (s : State) (h : HoseNo) (t : TankNo) (kind : StepKind) (capacity : Nat) : StepContext :=
  let c := s.cfg.hoses.get h
  let fluid := (s.cfg.tanks.get t).fluid
  let e := s.cfg.fluids.get fluid
  { tank := t, fluid, fluidKind := e.kind, beta := e.beta, factor := c.factor, slowDown := c.slowDown,
    stallTime := c.stallTime, settleTime := c.settleTime, maxPulses := c.maxPulses, runOnLimit := c.runOnLimit,
    coupleWait := c.coupleWait, stepLimit := c.stepLimit,
    capacityBound :=
      if StepKindDraws kind && decide (e.kind = .fuel) && decide (capacity ≠ 0) then some capacity else none }

/-- A new step record, PENDING. -/
def newStep (a : AdmitStep) (kind : StepKind) (h : HoseNo) (ctx : StepContext) : Step :=
  { kind, hose := h, preset := if a.preset = 0 then none else some a.preset, isParallel := a.flags.getLsbD 0,
    holdBefore := a.flags.getLsbD 1, stopOnError := a.flags.getLsbD 2, ctx, state := .pending, target := 0,
    limitedBy := .unbounded, grossAcc := 0, netAcc := 0, netAtClose := none, suspension := none, endStatus := none,
    tempHeld := false, tempClamped := false, cause := none, runOnReported := false, temp := Config.tempStandard,
    tempSource := .standard, clampedNow := false, c7 := correction ctx.beta Config.tempStandard, final := none }

/-- A preset that suits a kind of step (R4). -/
def presetOk (kind : StepKind) (preset : Nat) : Bool :=
  if StepKindPreset kind then within 1 Config.maxVolume preset else decide (preset = 0)

/-- The PENDING step of a well-formed step of the body, none when it is ill formed on its own (R4, R203). -/
def stepOf (s : State) (i : IslandNo) (capacity : Nat) (a : AdmitStep) : Option Step :=
  match a.kind, hoseOf a.hose with
  | some kind, some h =>
    let c := s.cfg.hoses.get h
    match c.tank with
    | some t =>
      let k := s.cfg.tanks.get t
      let rightRole := decide (k.role = if StepKindDraws kind then .supply else .waste)
      if c.enabled && decide (c.island = i) && (s.cfg.fluids.get k.fluid).isDefined && rightRole && presetOk kind a.preset
          && flagsOk a.flags && !(a.flags.getLsbD 0 && a.flags.getLsbD 1) then
        some (newStep a kind h (captureContext s h t kind capacity))
      else none
    | none => none
  | _, _ => none

/-- No two steps of one group name the same hose (R4). -/
def hosesDistinct (steps : List Step) : Bool :=
  steps.zipIdx.all fun p => steps.zipIdx.all fun q =>
    decide (p.2 = q.2) || decide (p.1.hose ≠ q.1.hose) || decide (groupOf steps p.2 ≠ groupOf steps q.2)

/-- The step list of a body that check 10 of R3 accepts: 1 to 8 steps, each well formed, the first not PARALLEL (R4). -/
def stepsOfBody (s : State) (i : IslandNo) (capacity : Nat) (l : List AdmitStep) : Option (List Step) :=
  if within 1 8 l.length then
    match allSome (l.map (stepOf s i capacity)) with
    | some steps =>
      if (steps.head?.map (·.isParallel)).getD true then none else if hosesDistinct steps then some steps else none
    | none => none
  else none

/-- An entry exists for a hose named or for its configured tank (R3, check 11). -/
def stepShut (s : State) (st : Step) : Bool := s.isLatched (.hose st.hose) || s.isLatched (.tank st.ctx.tank)

/-- A draw step's fluid is permitted; recoveries are not tested (R3, check 12; R118). -/
def fluidPermitted (a : Account) (st : Step) : Bool := !StepKindDraws st.kind || a.fluids.getLsbD st.ctx.fluid.val

/-- An hour reading is not behind the account's last (R3, check 9). -/
def hourOk (h last : Option Nat) : Bool :=
  match h, last with
  | some h, some l => decide (l ≤ h)
  | _, _ => true

/-- The thirteen checks of R3, in order: the refusal of the first that fails, or the island and the step list. -/
def admissionChecks (f : AdmitFields) (s : State) : Except Code (IslandNo × List Step) :=
  match islandOf f.island with
  | none => .error .islandDisabled
  | some i =>
    match firstFail
      [ ((s.cfg.islands.get i).enabled, .islandDisabled),
        (s.supplyNormal, .supplyHold),
        (s.isPresent i, .notPresent),
        ((s.orders.get i).isNone, .islandBusy),
        (!s.islandShut i, .shut) ] with
    | some c => .error c
    | none =>
      match s.findAccount f.machine with
      | none => .error .noAccount
      | some a =>
        match firstFail
          [ (decide (a.state ≠ .blocked), .accountBlocked),
            (a.inUse.isNone, .accountInUse),
            (hourOk f.hour a.lastHours, .hourBehind) ] with
        | some c => .error c
        | none =>
          match stepsOfBody s i a.capacity f.steps with
          | none => .error .badStep
          | some steps =>
            match firstFail
              [ (!steps.any (stepShut s), .shut),
                (steps.all (fluidPermitted a), .fluidNotPermitted),
                (decide (1 ≤ s.journal.free), .journalFull) ] with
            | some c => .error c
            | none => .ok (i, steps)

/-- The order that an accepted ORDER_ADMIT creates (R6). -/
def newOrder (f : AdmitFields) (s : State) (steps : List Step) : Order :=
  { machine := f.machine, hour := f.hour, admissionClock := s.supply.clock, clockNotSet := !s.supply.clockSet,
    state := .active, hold := none, gapTaken := none, group := 1, endStatus := none, seq := none, steps }

/-- The order unit, the account unit and the journal after an acceptance, before the first group is started (R6). -/
def State.createOrder (s : State) (f : AdmitFields) (i : IslandNo) (steps : List Step) : State :=
  let s := s.setOrder i (some (newOrder f s steps))
  (s.openAccount i f.machine f.hour).journalReserve

/-- What the reply to an accepted ORDER_ADMIT carries: the lube-due list and the review flag (R6, R117). -/
def admittedResults (s : State) (f : AdmitFields) : Results :=
  match s.findAccount f.machine with
  | none => .admitted [] false
  | some a => .admitted (a.lubeDue f.hour) (decide (a.state = .review))

/-- ORDER_ADMIT (R3, R6). Check 3 has found the island PRESENT, so group 1 is started or held at its gap at acceptance (R6,
R9, R10); the last item of R7, by which an admission taken before a LEAVING has its group deferred, is read as of a group
that has not been started (DESIGN CHOICE, log entry 29). -/
def orderAdmit (f : AdmitFields) (s : State) : Answer × State :=
  match admissionChecks f s with
  | .error c => (refuse c, s)
  | .ok (i, steps) =>
    let s := s.createOrder f i steps
    ((.ok, admittedResults s f), (s.nextGroup i).settleAll)

/-! ## Hold, continue, cancel, stop (R14 to R19) -/

/-- The checks of R14 that every request on an order shares. -/
def withOrder (s : State) (n : Nat) (act : IslandNo → Order → Answer × State) : Answer × State :=
  match islandOf n with
  | none => (refuse .outOfRange, s)
  | some i =>
    match s.orders.get i with
    | none => (refuse .noOrder, s)
    | some o => act i o

/-- ORDER_HOLD (R15). -/
def orderHold (n : Nat) (s : State) : Answer × State :=
  withOrder s n fun i o =>
    if o.state = .active then
      if o.hasStarted then
        (accepted, s.modOrder i fun o => { o with state := .holdPending, hold := some .request })
      else (accepted, (s.modOrder i (Order.toHeld .request)).raiseAt .orderHeld i)
    else (refuse .state, s)

/-- The resume instruction goes to the channel of each step held for power (R46); in list order, since R46 gives none
(DESIGN CHOICE, log entry 30). -/
def State.resumeOrder (s : State) (i : IslandNo) : State :=
  (s.stepsOf i).foldl (fun s p => if p.2.heldForPower then s.resumeStep p.1 p.2 else s) s

/-- A held order is continued: its hold reason is discarded (R17). -/
def Order.continued (o : Order) : Order :=
  { o with state := if o.endStatus.isSome then .ending else .active, hold := none }

/-- The next group is tried when no step is started (R17). -/
def State.startIfIdle (s : State) (i : IslandNo) : State :=
  match s.orders.get i with
  | none => s
  | some o => if o.hasStarted then s else s.nextGroup i

/-- ORDER_CONTINUE (R17). -/
def orderContinue (n : Nat) (s : State) : Answer × State :=
  withOrder s n fun i o =>
    let forPower := o.steps.any Step.heldForPower
    match o.state, o.hold with
    | .held, some .power =>
      if s.supplyNormal then
        let s := (s.modOrder i Order.continued).resumeOrder i
        (accepted, ((s.startIfIdle i).drain.endIfDone i).alignOutputs)
      else (refuse .supplyHold, s)
    | .held, _ =>
      (accepted, ((s.modOrder i fun o => { o with state := .active, hold := none }).nextGroup i).settleAll)
    | .holdPending, some .power => (refuse .state, s)
    | .holdPending, _ => (accepted, s.modOrder i fun o => { o with state := .active, hold := none })
    | .ending, _ =>
      if forPower then
        if s.supplyNormal then (accepted, (s.resumeOrder i).settleAll) else (refuse .supplyHold, s)
      else (refuse .notHeld, s)
    | .active, _ => (refuse .notHeld, s)

/-- An instruction that closes every started step of an order (R18, R22); in list order (DESIGN CHOICE, log entry 30). -/
def State.closeSteps (s : State) (i : IslandNo) (status : Step → StepEnd) : State :=
  (s.stepsOf i).foldl (fun s p => if p.2.isStarted then s.closeStep p.1 p.2 (status p.2) else s) s

/-- ORDER_CANCEL (R18). -/
def orderCancel (n : Nat) (s : State) : Answer × State :=
  withOrder s n fun i o =>
    if o.state = .ending then (refuse .state, s)
    else
      let s := (s.modOrder i (Order.toEnding .cancelled)).closeSteps i fun _ => .cancelled
      (accepted, (s.drain.endIfDone i).alignOutputs)

/-- STEP_STOP (R14, R19, R40). -/
def stepStop (f : StopFields) (s : State) : Answer × State :=
  match islandOf f.island with
  | none => (refuse .outOfRange, s)
  | some i =>
    if !within 1 8 f.index then (refuse .outOfRange, s)
    else match s.orders.get i with
    | none => (refuse .noOrder, s)
    | some _ =>
      let r : StepRef := ⟨i, f.index - 1⟩
      match s.stepAt r with
      | none => (refuse .state, s)
      | some st =>
        if st.isRunning || decide (st.state = .suspended ∨ st.state = .waitingCouple) then
          (accepted, (s.closeStep r st .stopped).settleAll)
        else (refuse .state, s)

/-! ## Supply hold, departure, trips (R20, R22, R23) -/

/-- The power-fail warning at an order (R20). -/
def State.warnOrder (s : State) (i : IslandNo) : State :=
  match s.orders.get i with
  | none => s
  | some o =>
    if o.state = .ending then s
    else if o.hasSettling then s.modOrder i fun o => { o with state := .holdPending, hold := some .power }
    else
      let was := o.state
      let s := s.modOrder i (Order.toHeld .power)
      if was = .held then s else s.raiseAt .orderHeld i

/-- The departure is a drive-away: a step is RUNNING or SETTLING, or SUSPENDED with its hose coupled (R22). -/
def State.isDriveAway (s : State) (o : Order) : Bool :=
  o.steps.any fun st =>
    st.isRunning || decide (st.state = .settling) || (decide (st.state = .suspended) && (s.hoses.get st.hose).coupled)

/-- A departure at the order unit (R22). -/
def State.departure (s : State) (i : IslandNo) : State :=
  match s.orders.get i with
  | none => s
  | some o =>
    let s :=
      if s.isDriveAway o then
        let s := s.report (.driveAway i)
        (s.modOrder i (Order.toEnding .driveAway)).closeSteps i fun _ => .driveAway
      else (s.modOrder i (Order.toEnding .abandoned)).closeSteps i fun _ => .cancelled
    s.drain.endIfDone i

/-- An island or bay trip order at an order (R23). -/
def State.tripOrder (s : State) (i : IslandNo) : State :=
  s.modOrder i fun o => if o.state = .ending then o else o.toEnding .shutdown

/-! ## Resets (R27, R28) -/

/-- The temperature source of a restored step: PROBE becomes PROBE_HELD (R72). -/
def Step.restoredSource (st : Step) : TempSource :=
  if st.isStarted && decide (st.tempSource = .probe) then .probeHeld else st.tempSource

/-- A step of an order restored after a power-on with retention kept: every started step comes back SUSPENDED(POWER), or
WAITING_COUPLE power-paused; a RUNNING one takes its reported net as net at valve close (R27, R29, R72). -/
def Step.restored (st : Step) : Step :=
  if st.isStarted then
    { st with
      state := if st.state = .waitingCouple then .waitingCouple else .suspended
      suspension := some .power
      netAtClose := st.closingNet
      tempSource := st.restoredSource }
  else st

/-- An order restored in HELD(POWER) (R27). -/
def Order.restored (o : Order) : Order := { o.toHeld .power with steps := o.steps.map Step.restored }

/-- One started step of a resetting order ends RESET, and the order unit enters its end (R12, R28). -/
def State.resetOne (s : State) (p : StepRef × Step) : State :=
  if p.2.isStarted then
    let s := s.resetStep p.1 p.2
    let s := { s with ends := [] }
    (s.modStep p.1 (Step.ended (endReport p.1 p.2 .reset (meteredFigures p.2) p.2.cause))).raiseAt .stepEnded p.1.island
  else s

/-- The step a reference names ends RESET when it is started (R28). -/
def State.resetAt (s : State) (r : StepRef) : State :=
  match s.stepAt r with
  | none => s
  | some st => s.resetOne (r, st)

/-- An active order whose started steps have ended is handed off RESET, whatever end status it had recorded, its PENDING steps
NOT_RUN (R28). -/
def State.resetHandOff (s : State) (i : IslandNo) : State :=
  let s := s.modOrder i Order.dropPending
  match s.orders.get i with
  | none => s
  | some o => s.handOff i o .reset

/-! ## ORDER_READ (R26) -/

/-- A step of the read-back (R26, section 11.5). -/
def stepView (st : Step) : StepView :=
  { kind := st.kind, hose := st.hose, isParallel := st.isParallel, holdBefore := st.holdBefore,
    stopOnError := st.stopOnError, tempHeld := st.tempHeld, tempClamped := st.tempClamped, preset := st.preset,
    state := st.state, endStatus := st.endStatus, target := st.target,
    limitedBy := if st.state = .pending ∨ st.state = .notRun then none else some st.limitedBy,
    suspension := st.suspension, cause := st.cause, gross := st.shown.1, net := st.shown.2 }

/-- The order read-back (R26). -/
def orderView (i : IslandNo) (o : Order) : OrderView :=
  { island := i, machine := o.machine, hour := o.hour, admissionClock := o.admissionClock, clockNotSet := o.clockNotSet,
    state := o.state, hold := o.hold, gapTaken := o.gapTaken, group := o.group, endStatus := o.endStatus, seq := o.seq,
    steps := o.steps.map stepView }

/-- ORDER_READ (R26). -/
def orderRead (n : Nat) (s : State) : Answer :=
  match islandOf n with
  | none => refuse .outOfRange
  | some i =>
    match s.orders.get i with
    | none => refuse .noOrder
    | some o => (.ok, .order (orderView i o))

end Sys2Proof.Machine
end

