-- ==== Sys2Proof/Machine/ShutdownUnit.lean ====
section
/-! DEFINITION. The shutdown unit (Chapter 8): reports, the map, trips, outputs, warning records, trip requests, clears
and reads. -/

namespace Sys2Proof.Machine

/-! ## Reports (R149, R150) -/

def reportCause : Report → Cause
  | .bayStop _ => .bayStop
  | .storeLost => .storeLost
  | .sumpHigh _ => .sumpHigh
  | .driveAway _ => .driveAway
  | .overfill _ => .overfill
  | .leak _ => .leak
  | .gaugeFault _ => .gaugeFault
  | .hoseBreak _ => .hoseBreak
  | .strayFlow _ => .strayFlow
  | .runOn _ => .runOn
  | .linkTrip _ _ => .linkTrip

/-- The scope object of a report (R149). -/
def reportObject : Report → Scope
  | .bayStop _ | .storeLost => .bay
  | .sumpHigh i | .driveAway i => .island i
  | .overfill t | .leak t | .gaugeFault t => .tank t
  | .hoseBreak h | .strayFlow h | .runOn h => .hose h
  | .linkTrip o _ => o

/-- The origin of the entry that a report creates (R153). -/
def reportOrigin : Report → Origin
  | .bayStop none => .field
  | .bayStop (some l) | .linkTrip _ l => .link l
  | .storeLost => .startUp
  | .sumpHigh _ => .presenceMonitor
  | .driveAway _ => .orderUnit
  | .overfill _ | .leak _ | .gaugeFault _ => .stockUnit
  | .hoseBreak _ | .strayFlow _ | .runOn _ => .hoseChannel

/-- The action in force for a cause; BAY_STOP, STORE_LOST and LINK_TRIP are fixed to TRIP (R149). -/
def State.actionOf (s : State) (c : Cause) : CauseAction :=
  match c with
  | .bayStop | .storeLost | .linkTrip => .trip
  | c => s.cfg.actions.get c.index

/-! ## The capture (R153) -/

/-- The capture of a step of an island's order. -/
def captureOf (s : State) (p : StepRef × Step) : Option Capture :=
  (s.orders.get p.1.island).map fun o =>
    { island := p.1.island, machine := o.machine, index := p.1.idx + 1, hose := p.2.hose }

/-- The step in flight that an entry for an object captures: the first by island and list order among those it covers
(R153). -/
def State.capture (s : State) (o : Scope) : Option Capture :=
  (s.allSteps.find? fun p => p.2.isStarted && coversStep o p.1 p.2).bind (captureOf s)

/-! ## Trips (R150, R155, R156) -/

/-- A new entry for a report (R153). -/
def newEntry (s : State) (r : Report) : Entry :=
  { firstCause := reportCause r, origin := reportOrigin r, clock := s.supply.clock, clockNotSet := !s.supply.clockSet,
    capture := s.capture (reportObject r), repeats := 0 }

/-- A place of the map is written. -/
def State.setEntry (s : State) (o : Scope) (e : Option Entry) : State :=
  s.modShut fun u => { u with map := u.map.put o.code e }

/-- Part 2 of R155: an island or bay entry's trip order at the order unit (R23, R156). -/
def State.tripOrders (s : State) (o : Scope) : State :=
  match o with
  | .bay => allIslands.foldl State.tripOrder s
  | .island i => s.tripOrder i
  | _ => s

/-- Part 3 of R155 at one hose channel (R48). -/
def State.tripHoseAt (o : Scope) (c : Cause) (s : State) (h : HoseNo) : State :=
  match s.hoseStep h with
  | none => s
  | some (r, st) => if coversStep o r st then s.tripStep r st c else s

/-- An order in ENDING that no step keeps alive ends, at every island, in ascending order (R23; its place within a trip is
DESIGN CHOICE, log entry 30). -/
def State.endDone (s : State) : State := allIslands.foldl State.endIfDone s

/-- A trip is carried out (R155): the entry, the trip orders, the outputs, TRIP; then the end reports of the steps it
ended are taken, and the outputs follow what those start. The covered channels take the trip order in ascending hose number,
and the reports of the steps it ends follow in that order; an order that has no started step ends after TRIP and after the orders
that those reports end, in ascending island order, which fixes the numbers of the SERVICE records (DESIGN CHOICE, log entry
30). -/
def State.trip (s : State) (r : Report) : State :=
  let o := reportObject r
  let s := s.setEntry o (some (newEntry s r))
  let s := allHoses.foldl (State.tripHoseAt o (reportCause r)) (s.tripOrders o)
  let s := s.alignOutputs.raiseKind .trip
  s.drain.endDone.alignOutputs

/-- A repeat of a latched entry (R150). -/
def Entry.repeated (e : Entry) : Entry := { e with repeats := satAdd Config.max8 e.repeats 1 }

/-- A warning record after a WARN report (R162). -/
def WarnRecord.warned (o : Scope) (clock : Nat) (notSet : Bool) (w : WarnRecord) : WarnRecord :=
  { count := satAdd Config.max16 w.count 1, last := some o, lastClock := some clock, clockNotSet := notSet }

/-- The shutdown unit takes a report (R150). Which reports wait for a SHUTDOWN_REPORT command is log entry 10. -/
def State.applyReport (s : State) (r : Report) : State :=
  let o := reportObject r
  match s.actionOf (reportCause r) with
  | .off => s
  | .warn =>
    (s.modShut fun u =>
      { u with warnings :=
          u.warnings.modify (reportCause r).index (WarnRecord.warned o s.supply.clock (!s.supply.clockSet)) }).raiseKind
      .warning
  | .trip =>
    match s.entryAt o with
    | some e => s.setEntry o (some e.repeated)
    | none => s.trip r

/-! ## Trip requests and clears (R163 to R166) -/

/-- A trip request: LINK_TRIP, or BAY_STOP for the bay, with the link as origin (R163, R164). -/
def tripRequest (r : Report) (s : State) : Answer × State :=
  let result : TripResult := if s.isLatched (reportObject r) then .again else .new
  let s := s.applyReport r
  match s.entryAt (reportObject r) with
  | some e => ((.ok, .trip result e.firstCause e.repeats), s)
  | none => ((.ok, .trip result (reportCause r) 0), s)

/-- TRIP_BAY (R164). -/
def tripBay (l : Link) (_ : Unit) (s : State) : Answer × State := tripRequest (.bayStop (some l)) s

/-- TRIP_ISLAND (R163). -/
def tripIsland (l : Link) (n : Nat) (s : State) : Answer × State :=
  match islandOf n with
  | none => (refuse .outOfRange, s)
  | some i => tripRequest (.linkTrip (.island i) l) s

/-- TRIP_TANK (R163). -/
def tripTank (l : Link) (n : Nat) (s : State) : Answer × State :=
  match tankOf n with
  | none => (refuse .outOfRange, s)
  | some t => tripRequest (.linkTrip (.tank t) l) s

/-- TRIP_HOSE (R163). -/
def tripHose (l : Link) (n : Nat) (s : State) : Answer × State :=
  match hoseOf n with
  | none => (refuse .outOfRange, s)
  | some h => tripRequest (.linkTrip (.hose h) l) s

/-- Check 3 of R165: the first cause's condition is present, or the object is the bay and the stop input is asserted. -/
def State.clearBarred (s : State) (o : Scope) (e : Entry) : Bool :=
  s.conditionPresent e.firstCause o || (decide (o = .bay) && s.shut.stop)

/-- SHUTDOWN_CLEAR (R165, R166). -/
def shutdownClear (o : Scope) (s : State) : Answer × State :=
  match s.entryAt o with
  | none => (refuse .notLatched, s)
  | some e =>
    if s.clearBarred o e then (refuse .conditionPresent, s)
    else ((.ok, .cleared e.firstCause e.capture e.repeats), (s.setEntry o none).alignOutputs)

/-- CAUSE_SET (R152). -/
def causeSet (f : CauseSetFields) (s : State) : Answer × State :=
  if actionAllowed f.cause f.action then
    ((.ok, .action f.action), s.configure fun g => { g with actions := g.actions.put f.cause.index f.action })
  else (refuse .outOfRange, s)

/-! ## Reads (R168, R169) -/

/-- An entry as SHUTDOWN_READ lists it. -/
def entryView (s : State) (o : Scope) : Option EntryView :=
  (s.entryAt o).map fun e =>
    { object := o, entry := e, conditionPresent := s.conditionPresent e.firstCause o,
      stop := if o = .bay then some s.shut.stop else none }

/-- The objects that a SHUTDOWN_READ of ALL looks at, from a starting object, in scope order. -/
def scopesFrom (o : Scope) : List Scope := Scope.codes.drop o.code.val

/-- The reply of SHUTDOWN_READ with a list of entries. -/
def shutdownView (s : State) (entries : List EntryView) (next : Option Scope) : Answer :=
  (.ok, .shutdown { entries, next, stop := s.shut.stop, relay := s.shut.relay, pumps := s.shut.pumps })

/-- The scope object that follows another in scope order (R168; DEDUCED, log entry 26). -/
def scopeAfter (o : Scope) : Option Scope := Scope.codes[o.code.val + 1]?

/-- SHUTDOWN_READ (R168). -/
def shutdownRead (sel : ShutdownSelect) (s : State) : Answer :=
  match sel with
  | .one o => shutdownView s (entryView s o).toList none
  | .all start =>
    let found := (scopesFrom start).filterMap (entryView s)
    let listed := found.take Config.entriesPerRead
    let next := if found.length ≤ Config.entriesPerRead then none else (listed.getLast?.bind fun v => scopeAfter v.object)
    shutdownView s listed next

/-- WARN_READ (R169). -/
def warnRead (s : State) : Answer := (.ok, .warnings s.shut.warnings s.cfg.actions)

end Sys2Proof.Machine
end

