-- ==== Sys2Proof/Machine/Presence.lean ====
section
/-! DEFINITION. The presence monitor (Chapter 4): presence debounce, leaving, return and departure, the sump float, and
the configuration and read of islands. -/

namespace Sys2Proof.Machine

/-- The hoses configured to an island (R77), in ascending number: the order in which their channels take a report of the
presence monitor (DESIGN CHOICE, log entry 30). -/
def State.islandHoses (s : State) (i : IslandNo) : List HoseNo :=
  allHoses.filter fun h => decide ((s.cfg.hoses.get h).island = i)

/-- The presence state and the debounce timer of an island. -/
def State.setPresence (s : State) (i : IslandNo) (p : Presence) (t : Timer) : State :=
  s.modIsland i fun k => { k with presence := p, timer := t }

/-- Entry to LEAVING: the state first, then the report to the island's channels (R77). -/
def State.enterLeaving (s : State) (i : IslandNo) : State :=
  let s := s.setPresence i .leaving (Timer.startTenths (s.cfg.islands.get i).leaving)
  (s.islandHoses i).foldl State.leavingAt s

/-- Entry to PRESENT: the state first, then the channels, then the order unit (R78). The channels act in ascending hose
number, so of two steps that wait for one tank the one at the lower hose claims first (DESIGN CHOICE, log entry 30). -/
def State.enterPresent (s : State) (i : IslandNo) : State :=
  let s := s.setPresence i .present none
  ((s.islandHoses i).foldl State.presentAt s).drain.nextGroup i

/-- The detector is asserted (R75). -/
def State.detectorOn (s : State) (i : IslandNo) : State :=
  let s := s.modIsland i fun k => { k with level := true }
  match (s.islands.get i).presence with
  | .absent => s.setPresence i .arriving (Timer.startTenths (s.cfg.islands.get i).arrival)
  | .leaving => s.enterPresent i
  | .arriving | .present => s

/-- The detector is negated (R75). -/
def State.detectorOff (s : State) (i : IslandNo) : State :=
  let s := s.modIsland i fun k => { k with level := false }
  match (s.islands.get i).presence with
  | .arriving => s.setPresence i .absent none
  | .present => s.enterLeaving i
  | .absent | .leaving => s

/-- The arrival debounce expires (R76). -/
def State.arrivalExpiry (s : State) (i : IslandNo) : State :=
  let k := s.islands.get i
  if k.presence = .arriving ∧ k.timer.isSome then s.enterPresent i else s

/-- The leaving debounce expires: the state first, then the departure report (R76, R79). -/
def State.leavingExpiry (s : State) (i : IslandNo) : State :=
  let k := s.islands.get i
  if k.presence = .leaving ∧ k.timer.isSome then (s.setPresence i .absent none).departure i else s

/-- The sump float's level follows its input; an assertion reports SUMP_HIGH (R81). -/
def State.floatLevel (s : State) (i : IslandNo) (level : Bool) : State :=
  let s := s.modIsland i fun k => { k with float := level }
  if level then s.report (.sumpHigh i) else s

/-- ISLAND_SET (R82). -/
def islandSetRequest (f : IslandSetFields) (s : State) : Answer × State :=
  match islandSetOf f with
  | none => (refuse .outOfRange, s)
  | some (i, c) =>
    if (s.orders.get i).isSome then (refuse .inUse, s)
    else (accepted, s.configure fun g => { g with islands := g.islands.put i c })

/-- What ISLAND_READ carries (R83). -/
def islandView (s : State) (i : IslandNo) : IslandView :=
  let k := s.islands.get i
  { cfg := s.cfg.islands.get i, presence := k.presence, level := k.level, remaining := k.timer.left, float := k.float,
    order := (s.orders.get i).map fun o => (o.machine, o.state), lastSeq := k.lastSeq, latched := s.islandShut i }

/-- ISLAND_READ (R83). -/
def islandRead (n : Nat) (s : State) : Answer :=
  match islandOf n with
  | none => refuse .outOfRange
  | some i => (.ok, .island (islandView s i))

end Sys2Proof.Machine
end

