-- ==== Sys2Proof/Machine/Wire.lean ====
section
/-! DEFINITION. The bytes that a link partner sees (Chapter 11): the encodings of fields, replies, the order read-back and
the journal records, the frame around a reply, and the content over which the check word of a settings image is computed
(R188). The layouts of section 11.5 and section 11.6 are the book's; a reply that the book does not lay out is its rule's
fields in the order listed (section 11.2), a list being sent as a count byte and its entries, and a group that may be
absent as a flag and, when it is present, its fields (DESIGN CHOICE, log entry 15). -/

namespace Sys2Proof.Machine

/-! ## Fields (section 11.2) -/

/-- An unsigned number in `size` bytes, high byte first. -/
def toBytes : Nat → Nat → List Byte
  | 0, _ => []
  | size + 1, n => BitVec.ofNat 8 (n / 256 ^ size) :: toBytes size n

def u8 (n : Nat) : List Byte := toBytes 1 n
def u16 (n : Nat) : List Byte := toBytes 2 n
def u32 (n : Nat) : List Byte := toBytes 4 n
def u64 (n : Nat) : List Byte := toBytes 8 n

/-- A signed field of `size` bytes, two's complement. -/
def signedBytes (size : Nat) (x : Int) : List Byte := toBytes size (x % (256 ^ size : Nat)).toNat

/-- A signed 32-bit field; a figure beyond the signed range is written at the nearer limit (section 11.6). -/
def s32 (x : Int) : List Byte := signedBytes 4 (max Config.bookMin (min Config.bookMax x))

def temperatureBytes (x : Int) : List Byte := signedBytes 2 x
def flagByte (b : Bool) : List Byte := u8 (if b then 1 else 0)
def halfBytes (m : Half) : List Byte := u16 m.toNat

/-- An optional one-byte field: 0xFF when absent. -/
def optional8 : Option Nat → List Byte
  | none => u8 255
  | some n => u8 n

/-- An hour field: 0xFFFFFFFF when absent. -/
def hourBytes : Option Nat → List Byte
  | none => u32 Config.max32
  | some n => u32 n

/-- A sequence number, or another figure whose absent value is 0. -/
def orZero : Option Nat → List Byte
  | none => u32 0
  | some n => u32 n

/-- An enumeration: its code (Table 11-4). -/
def enumByte {α : Type} [DecidableEq α] (codes : List α) (a : α) : List Byte := u8 (codeIn codes a)

/-- An optional enumeration: 0xFF when absent. -/
def enumOptional {α : Type} [DecidableEq α] (codes : List α) : Option α → List Byte
  | none => u8 255
  | some a => enumByte codes a

def scopeByte (o : Scope) : List Byte := u8 o.code.val
def scopeOptional : Option Scope → List Byte
  | none => u8 255
  | some o => scopeByte o

/-- A list: a count byte and its entries. -/
def listBytes {α : Type} (f : α → List Byte) (l : List α) : List Byte := u8 l.length ++ l.flatMap f

/-- A group that may be absent: a flag and, when present, its fields. -/
def groupBytes {α : Type} (f : α → List Byte) : Option α → List Byte
  | none => flagByte false
  | some a => flagByte true ++ f a

/-- A byte whose bits are flags, bit 0 first. -/
def bitsByte (bits : List Bool) : List Byte := u8 (bits.foldr (fun b n => (if b then 1 else 0) + 2 * n) 0)

/-- The step flags byte (Table 11-3). -/
def stepFlags (isParallel holdBefore stopOnError tempHeld tempClamped : Bool) : List Byte :=
  bitsByte [isParallel, holdBefore, stopOnError, tempHeld, tempClamped]

/-! ## Configuration fields, in the order of their requests -/

def HoseCfg.bytes (c : HoseCfg) : List Byte :=
  u8 c.island.val ++ optional8 (c.tank.map (·.val)) ++ u32 c.factor ++ u32 c.slowDown ++ u16 c.stallTime
    ++ u16 c.settleTime ++ u16 c.maxPulses ++ u32 c.runOnLimit ++ u16 c.coupleWait ++ u32 c.stepLimit
    ++ u16 c.strayThreshold ++ flagByte c.enabled

def IslandCfg.bytes (c : IslandCfg) : List Byte := flagByte c.enabled ++ u16 c.arrival ++ u16 c.leaving

def TankCfg.bytes (c : TankCfg) : List Byte :=
  enumByte TankRole.codes c.role ++ u8 c.fluid.val ++ u32 c.capacity ++ u32 c.lowLimit ++ u32 c.highLimit
    ++ u32 c.reorder ++ u32 c.minStart ++ u32 c.tolerance ++ u32 c.leakThreshold ++ u16 c.quietTime
    ++ u16 c.staleTime

def pointBytes (p : StrapPoint) : List Byte := u16 p.level ++ u32 p.volume
def FluidEntry.bytes (e : FluidEntry) : List Byte :=
  flagByte e.isDefined ++ enumByte FluidKind.codes e.kind ++ u16 e.beta
def LinkCfg.bytes (c : LinkCfg) : List Byte :=
  enumByte Role.codes c.role ++ halfBytes c.record ++ halfBytes c.attention

/-- The items of a settings image in the order listed (R188; the field sizes are those of section 11.2, log
entry 11). -/
def Settings.bytes (c : Settings) : List Byte :=
  allHoses.flatMap (fun h => (c.hoses.get h).bytes) ++ allIslands.flatMap (fun i => (c.islands.get i).bytes)
    ++ allTanks.flatMap (fun t => (c.tanks.get t).bytes)
    ++ allTanks.flatMap (fun t => listBytes pointBytes (c.straps.get t))
    ++ allFluids.flatMap (fun f => (c.fluids.get f).bytes)
    ++ Cause.codes.flatMap (fun k => enumByte CauseAction.codes (c.actions.get k.index))
    ++ allLinks.flatMap (fun l => (c.links.get l).bytes) ++ u32 c.jumpLimit ++ u32 c.minSpan

/-- The check word of an image: the CRC over the format version and every item (R188; the bytes of an item are DESIGN CHOICE,
log entry 11). -/
def checkWord (version : Nat) (c : Settings) : Nat := crc16 (u8 version ++ c.bytes)

/-! ## The order read-back (section 11.5) -/

def StepView.bytes (v : StepView) : List Byte :=
  enumByte StepKind.codes v.kind ++ u8 v.hose.val
    ++ stepFlags v.isParallel v.holdBefore v.stopOnError v.tempHeld v.tempClamped ++ orZero v.preset
    ++ enumByte StepState.codes v.state ++ enumOptional StepEnd.codes v.endStatus ++ u32 v.target
    ++ enumOptional LimitedBy.codes v.limitedBy ++ enumOptional SuspendReason.codes v.suspension
    ++ enumOptional Cause.codes v.cause ++ u32 v.gross ++ u32 v.net

def OrderView.bytes (v : OrderView) : List Byte :=
  u8 v.island.val ++ u16 v.machine ++ hourBytes v.hour ++ u32 v.admissionClock ++ flagByte v.clockNotSet
    ++ enumByte OrderState.codes v.state ++ enumOptional HoldReason.codes v.hold ++ u8 (v.gapTaken.getD 0) ++ u8 v.group
    ++ enumOptional OrderEnd.codes v.endStatus ++ orZero v.seq ++ listBytes StepView.bytes v.steps

/-! ## Journal records (section 11.6) -/

/-- Two codes in one byte, the first in the high four bits. -/
def nibbles (a b : Nat) : List Byte := u8 (a * 16 + b)

def StepRecord.bytes (r : StepRecord) : List Byte :=
  nibbles r.hose.val r.tank.val ++ nibbles r.fluid.val (codeIn StepKind.codes r.kind)
    ++ stepFlags r.isParallel r.holdBefore r.stopOnError r.tempHeld r.tempClamped
    ++ nibbles (codeIn StepEnd.codes r.status) (codeIn LimitedBy.codes r.limitedBy) ++ enumOptional Cause.codes r.cause
    ++ orZero r.preset ++ u32 r.target ++ u32 r.gross ++ u32 r.net ++ s32 ((r.net : Int) - (r.target : Int))

def ServiceRecord.bytes (r : ServiceRecord) : List Byte :=
  u8 r.island.val ++ u16 r.machine ++ hourBytes r.hour ++ u32 r.admissionClock ++ u32 r.endClock
    ++ enumByte OrderEnd.codes r.status ++ listBytes StepRecord.bytes r.steps

def ReceiptRecord.bytes (r : ReceiptRecord) : List Byte :=
  u8 r.tank.val ++ enumByte ReceiptStatus.codes r.status ++ bitsByte [r.docket.isSome, r.variance.isSome]
    ++ u32 r.openClock ++ u32 r.closeClock ++ s32 r.rise ++ orZero r.docket ++ s32 (r.variance.getD 0)
    ++ s32 r.bookBefore ++ s32 r.bookAfter

def StockRecord.bytes (r : StockRecord) : List Byte :=
  u8 r.tank.val ++ enumByte StockReason.codes r.reason ++ s32 r.oldBook ++ s32 r.newBook ++ u32 r.clock

/-- The kind of a record (R136). -/
def RecordBody.kind : RecordBody → RecordKind
  | .service _ => .service
  | .receipt _ => .receipt
  | .stockAdjust _ => .stockAdjust

def RecordBody.bytes : RecordBody → List Byte
  | .service r => r.bytes
  | .receipt r => r.bytes
  | .stockAdjust r => r.bytes

def Record.bytes (r : Record) : List Byte :=
  u32 r.seq ++ enumByte RecordKind.codes r.body.kind ++ flagByte r.clockNotSet ++ r.body.bytes

/-! ## The other results, in the order of their rules -/

def LubeDue.bytes (d : LubeDue) : List Byte := u8 d.fluid ++ u32 d.dueHours ++ u32 d.past ++ u32 d.minQuantity

def IslandView.bytes (v : IslandView) : List Byte :=
  v.cfg.bytes ++ enumByte Presence.codes v.presence ++ flagByte v.level ++ u16 v.remaining ++ flagByte v.float
    ++ groupBytes (fun p => u16 p.1 ++ enumByte OrderState.codes p.2) v.order ++ orZero v.lastSeq ++ flagByte v.latched

def Gauge.bytes (g : Gauge) : List Byte :=
  u16 g.level ++ temperatureBytes g.temp ++ u32 g.gross ++ u32 g.net ++ flagByte g.range ++ flagByte g.valid
    ++ u8 g.faults ++ flagByte g.faultCondition

/-- The results of TANK_READ (R108). The drawn-during-receipt figure has no range in the book: it is sent in four bytes, one
beyond them as 4,294,967,295 (DESIGN CHOICE, log entry 15). -/
def TankView.bytes (v : TankView) : List Byte :=
  v.cfg.bytes ++ u8 v.points ++ enumByte TankState.codes v.state ++ s32 v.book ++ flagByte v.bookLimit ++ u32 v.reserved
    ++ u32 v.quantity ++ flagByte v.low ++ u32 v.unassigned ++ v.gauge.bytes ++ u16 v.staleSeconds ++ flagByte v.probe
    ++ enumByte LeakState.codes v.leak ++ groupBytes u32 v.baseline ++ u16 v.quietMinutes
    ++ groupBytes (fun r => u32 r.1 ++ u32 r.2.1 ++ u32 (min Config.max32 r.2.2)) v.receipt ++ flagByte v.latched

def HoseStepView.bytes (v : HoseStepView) : List Byte :=
  u8 v.island.val ++ u8 v.index ++ enumByte StepState.codes v.state ++ enumOptional SuspendReason.codes v.suspension
    ++ u32 v.target ++ enumByte LimitedBy.codes v.limitedBy ++ u32 v.gross ++ u32 v.net

def HoseView.bytes (v : HoseView) : List Byte :=
  v.cfg.bytes ++ flagByte v.coupled ++ enumByte ValveStage.codes v.valve ++ groupBytes HoseStepView.bytes v.step
    ++ u32 v.flow ++ u8 v.strayCount ++ flagByte v.strayCondition

def Capture.bytes (c : Capture) : List Byte := u8 c.island.val ++ u16 c.machine ++ u8 c.index ++ u8 c.hose.val

def Entry.bytes (e : Entry) : List Byte :=
  enumByte Cause.codes e.firstCause ++ enumByte Origin.codes e.origin ++ u32 e.clock ++ flagByte e.clockNotSet
    ++ groupBytes Capture.bytes e.capture ++ u8 e.repeats

/-- An entry as SHUTDOWN_READ lists it: the code of its scope object, which R168 does not list, comes first (DESIGN CHOICE, log
entry 15). -/
def EntryView.bytes (v : EntryView) : List Byte :=
  scopeByte v.object ++ v.entry.bytes ++ flagByte v.conditionPresent
    ++ (match v.stop with | none => [] | some b => flagByte b)

/-- The results of SHUTDOWN_READ (R168). The reply for a single object has the form of the one for ALL: a list of no entry or
one, and a next object that is absent (DESIGN CHOICE, log entry 15). -/
def ShutdownView.bytes (v : ShutdownView) : List Byte :=
  listBytes EntryView.bytes v.entries ++ scopeOptional v.next ++ flagByte v.stop ++ flagByte v.relay
    ++ v.pumps.toList.flatMap flagByte

/-- A warning record of WARN_READ (R169); its count, 0 to 65,535, is sent in two bytes (DESIGN CHOICE, log entry 15). -/
def WarnRecord.bytes (w : WarnRecord) : List Byte :=
  u16 w.count ++ scopeOptional w.last ++ groupBytes u32 w.lastClock ++ flagByte w.clockNotSet

def JournalStatusView.bytes (v : JournalStatusView) : List Byte :=
  u8 v.count ++ u8 v.reserved ++ u8 v.byOrders ++ u8 v.byReceipts ++ u8 v.free ++ orZero v.oldest ++ orZero v.newest
    ++ u32 v.next

/-- A lube entry of ACCOUNT_READ (R133). Absent due hours are sent as 0xFFFFFFFF, the absent code of an hour reading (DESIGN
CHOICE, log entry 15). -/
def lubeEntryBytes (p : LubeEntry × (Option Nat × Bool)) : List Byte :=
  u8 p.1.fluid ++ u32 p.1.interval ++ hourBytes p.1.lastService ++ u32 p.1.minQuantity ++ hourBytes p.2.1
    ++ flagByte p.2.2

def AccountView.bytes (v : AccountView) : List Byte :=
  let a := v.account
  u16 a.machine ++ enumByte AccountClass.codes a.cls ++ enumByte AccountState.codes a.state ++ halfBytes a.fluids
    ++ u32 a.capacity ++ hourBytes a.lastHours ++ hourBytes a.reviewHours ++ hourBytes a.markHours ++ u64 a.carry
    ++ u32 a.rate ++ u16 a.margin ++ groupBytes (fun h => u32 h.clock ++ u32 h.sample ++ u32 h.before) a.highUse
    ++ u64 a.lifetimeFuel ++ u64 a.lifetimeOther ++ optional8 (a.inUse.map (·.val))
    ++ listBytes lubeEntryBytes (a.lube.zip v.due)

def SupplyView.bytes (v : SupplyView) : List Byte :=
  enumByte SupplyState.codes v.state ++ flagByte v.warning ++ enumByte Retention.codes v.retention
    ++ enumByte RestartReason.codes v.reason ++ flagByte v.defaulted ++ flagByte v.answered ++ flagByte v.saving
    ++ enumOptional SaveOutcome.codes v.lastSave ++ flagByte v.unsaved ++ u8 v.heldForPower

/-- IDENTIFY's results (R186): the vendor and part codes and the count of account places are two bytes each, the revision, the
format version and the link number one (DESIGN CHOICE, log entry 15). -/
def IdentifyView.bytes (v : IdentifyView) : List Byte :=
  u16 v.vendor ++ u16 v.part ++ u8 v.revision ++ u8 v.imageVersion ++ u8 v.islands ++ u8 v.hoses ++ u8 v.tanks
    ++ u16 v.accounts ++ u8 (v.link.val + 1) ++ enumByte Role.codes v.role

/-- The results of LINK_STATUS (R184): the kinds pending are sent as a list of their codes, the link number in one byte and
the frame error count in two (DESIGN CHOICE, log entry 15). -/
def LinkStatusView.bytes (v : LinkStatusView) : List Byte :=
  u8 (v.link.val + 1) ++ enumByte Role.codes v.role ++ halfBytes v.record ++ halfBytes v.attentionMask
    ++ flagByte v.attention ++ listBytes (enumByte NoticeKind.codes) v.kinds ++ u8 v.behind ++ u16 v.frameErrors

/-- The island set of an island kind (R182); a set of islands is sent as one byte, bit n for island n (DESIGN CHOICE, log
entry 15). -/
def noticeIslands (k : NoticeKind) (e : NoticeEntry) : List Byte :=
  if k = .orderEnded ∨ k = .stepEnded ∨ k = .orderHeld then bitsByte e.islands.toList else []

def noticeBytes (p : NoticeKind × NoticeEntry) : List Byte :=
  enumByte NoticeKind.codes p.1 ++ u8 p.2.count ++ noticeIslands p.1 p.2
    ++ (match p.2.saved with | none => [] | some o => enumByte SaveOutcome.codes o)
    ++ (match p.2.restart with | none => [] | some r => enumByte RestartReason.codes r.1 ++ flagByte r.2)

/-- The bytes of the results of a reply. In RECEIPT_CLOSE's an absent variance is a clear flag and a present one a set flag and
the figure, and LINK_RESET's frame error count is two bytes (DESIGN CHOICE, log entry 15). -/
def Results.bytes : Results → List Byte
  | .nothing => []
  | .admitted lube review => listBytes LubeDue.bytes lube ++ flagByte review
  | .order v => v.bytes
  | .island v => v.bytes
  | .tank v => v.bytes
  | .hose v => v.bytes
  | .shutdown v => v.bytes
  | .warnings w a => w.toList.flatMap WarnRecord.bytes ++ a.toList.flatMap (enumByte CauseAction.codes)
  | .journal count newest r => u8 count ++ u32 newest ++ r.bytes
  | .journalStatus v => v.bytes
  | .account v => v.bytes
  | .clock value isSet => u32 value ++ flagByte isSet
  | .supply v => v.bytes
  | .identify v => v.bytes
  | .action a => enumByte CauseAction.codes a
  | .limits j m => u32 j ++ u32 m
  | .receiptOpened g => u32 g
  | .receiptClosed rise variance book seq =>
    s32 rise ++ groupBytes s32 variance ++ s32 book ++ u32 seq
  | .written seq => u32 seq
  | .accountState st => enumByte AccountState.codes st
  | .hours n => u32 n
  | .released count old => u8 count ++ orZero old
  | .oldest seq => u32 seq
  | .trip r c n => enumByte TripResult.codes r ++ enumByte Cause.codes c ++ u8 n
  | .cleared c capture n => enumByte Cause.codes c ++ groupBytes Capture.bytes capture ++ u8 n
  | .notices entries => listBytes noticeBytes entries
  | .linkStatus v => v.bytes
  | .linkReset n withOwner errors => u8 n ++ flagByte withOwner ++ u16 errors

/-! ## Replies and frames (section 11.1, section 11.3) -/

/-- The body of a reply: tag and kind echoed, outcome, results (section 11.3). -/
def Reply.body (r : Reply) : List Byte := halfBytes r.tag ++ [r.kind] ++ u8 r.code.code ++ r.results.bytes

/-- The frame of a body: start byte, length, body, CRC over length and body (section 11.1). -/
def frameOf (body : List Byte) : List Byte :=
  let checked := u8 body.length ++ body
  [Config.startByte] ++ checked ++ u16 (crc16 checked)

/-- The frame that a port is sending (R177). -/
def Port.outgoing (p : Port) : Option (List Byte) := p.sending.map fun r => frameOf r.body

/-- The valve outputs of a hose: full-flow and low-flow (R35). -/
def Channel.valveOutputs (c : Channel) : Bool × Bool :=
  match c.valve with
  | .full => (true, true)
  | .low => (false, true)
  | .closed => (false, false)

end Sys2Proof.Machine
end

