-- ==== Sys2Proof/Machine/SupplyUnit.lean ====
section
/-! DEFINITION. Settings, supply and restarts (Chapter 10): the image and its load, saves, supply states, start-up,
external reset, the bay clock, and the passing of time while no command waits. -/

namespace Sys2Proof.Machine

/-! ## The settings image (R188, R189, R192) -/

/-- The loader accepts an image that was read: version 2, matching check word, ranges and relations (R188). -/
def Image.accepted (m : Image) : Bool :=
  decide (m.version = Config.imageVersion) && decide (m.check = some (checkWord m.version m.items)) && m.items.inRange

/-- The image of a snapshot whose check word has been written (R192). -/
def Image.written (c : Settings) : Image :=
  { version := Config.imageVersion, items := c, check := some (checkWord Config.imageVersion c) }

/-- The image whose stored check word cannot match (R192, stage 1). -/
def Image.spoilt (m : Image) : Image := { m with check := none }

/-- SETTINGS_SAVE (R191). -/
def settingsSave (_ : Unit) (s : State) : Answer × State :=
  match firstFail [(s.supply.snapshot.isNone, .busy), (s.supplyNormal, .supplyHold)] with
  | some c => (refuse c, s)
  | none => (accepted, s.modSupply fun u => { u with snapshot := some s.cfg, unsaved := false })

/-- SAVE_ENDED, with its outcome (R192). -/
def State.raiseSaveEnded (s : State) (o : SaveOutcome) : State := s.raise ⟨.saveEnded, none, some o, none⟩

/-- A save of a snapshot ends (R192, R201). -/
def Supply.saved (c : Settings) (e : SaveEnd) (u : Supply) : Supply :=
  match e with
  | .written => { u with snapshot := none, lastSave := some .ok, answered := true, image := Image.written c }
  | .noAnswer =>
    { u with snapshot := none, lastSave := some .failed, answered := false, unsaved := true, image := u.image.spoilt }
  | .differed =>
    { u with snapshot := none, lastSave := some .failed, answered := true, unsaved := true, image := u.image.spoilt }

/-- The outcome of a save's end. -/
def saveOutcome : SaveEnd → SaveOutcome
  | .written => .ok
  | .noAnswer | .differed => .failed

/-- A running save comes to its end; with no save running the event does not arise (R192). -/
def State.endSave (s : State) (e : SaveEnd) : State :=
  match s.supply.snapshot with
  | none => s
  | some c => (s.modSupply (Supply.saved c e)).raiseSaveEnded (saveOutcome e)

/-- A running save is cut off: past stage 1 the image can no longer be accepted, before it the image stands (R192; how far the
save had come is the command's operand, log entry 13). -/
def Supply.cutSave (cut : SaveCut) (u : Supply) : Supply :=
  match u.snapshot with
  | none => u
  | some _ =>
    { u with
      snapshot := none
      image := match cut with | .beforeMark => u.image | .afterMark => u.image.spoilt }

/-! ## Supply states (R194, R195) -/

/-- The power-fail warning is asserted: the supply state first, then the channels, then the order unit (R194); hoses and
islands in ascending number (DESIGN CHOICE, log entry 30). -/
def State.warnOn (s : State) : State :=
  let s := s.modSupply fun u => { u with state := .hold, warning := true }
  let s := allHoses.foldl State.warnedAt s
  allIslands.foldl State.warnOrder s

/-- The warning is negated (R195). -/
def State.warnOff (s : State) : State := s.modSupply fun u => { u with state := .normal, warning := false }

/-! ## The part stops (R195, R199) -/

/-- The channel with its outputs negated and no timer running. -/
def Channel.stopped (c : Channel) : Channel :=
  { c with
    valve := .closed
    coupleTimer := none
    stallTimer := none
    rateTimer := none
    settleTimer := none
    strayTimer := none
    windowCount := 0
    flow := 0 }

/-- The part stops taking events: valves closed, pump enables and relay off, notices emptied, attention negated, a reply
being sent, a running save and a start-up under way cut off, and reports not yet taken lost (R172, R192, R196, R199). -/
def State.stop (s : State) (cut : SaveCut) : State :=
  { s with
    hoses := s.hoses.map Channel.stopped
    islands := s.islands.map fun k => { k with timer := none }
    tanks := s.tanks.map fun k => { k with staleTimer := none, quietTimer := none }
    ports := s.ports.map fun p => { Port.initial with frameErrors := p.frameErrors }
    shut := { s.shut with relay := false, pumps := Vector.replicate 10 false }
    supply := { s.supply.cutSave cut with starting := false }
    reports := []
    ends := [] }

/-! ## Start-up (R196) -/

/-- Stage 1: outputs negated, relay de-energised, notices emptied, attention lines negated. -/
def State.stageOne (s : State) : State := s.stop .beforeMark

/-- Stage 3: the settings image is loaded, or the defaults are applied (R189), and the attention lines follow the masks loaded
(R181; DEDUCED, log entry 31). -/
def State.loadSettings (s : State) (answers : Bool) : State :=
  let ok := answers && s.supply.image.accepted
  let cfg := if ok then s.supply.image.items else Settings.default
  { s with
    cfg := cfg
    ports := Vector.ofFn fun l => (s.ports.get l).aligned (cfg.links.get l).attention
    supply := { s.supply with
      defaulted := !ok
      unsaved := !ok
      answered := answers
      snapshot := none
      lastSave := none } }

/-- Stage 4 with retention lost: the table of R193, and the bay clock at 0 and unset (R197). -/
def State.loseRetained (s : State) : State :=
  { s with
    orders := Vector.replicate 4 none
    hoses := s.hoses.map fun c => { c with step := none }
    islands := s.islands.map fun k => { k with lastSeq := none }
    tanks := s.tanks.map fun k => { Tank.initial with probe := k.probe }
    accounts := []
    journal := Journal.initial
    shut := { s.shut with
      map := Vector.replicate 31 none
      warnings := Vector.replicate 11 WarnRecord.initial }
    supply := { s.supply with clock := 0, clockSet := false } }

/-- The restored step that a hose takes: the started step of an order that names it (R29). -/
def State.restoredRef (s : State) (h : HoseNo) : Option StepRef :=
  (s.allSteps.find? fun p => p.2.isStarted && decide (p.2.hose = h)).map (·.1)

/-- The hose configuration that a restored step gives its hose (R189). -/
def HoseCfg.forStep (i : IslandNo) (x : StepContext) (c : HoseCfg) : HoseCfg :=
  { c with
    island := i
    tank := some x.tank
    factor := x.factor
    slowDown := x.slowDown
    stallTime := x.stallTime
    settleTime := x.settleTime
    maxPulses := x.maxPulses
    runOnLimit := x.runOnLimit
    coupleWait := x.coupleWait
    stepLimit := x.stepLimit }

/-- A hose named by a live step of a restored order takes the values of its context; the unsaved flag is set when any
value changes (R189). -/
def State.adoptStep (s : State) (p : StepRef × Step) : State :=
  if p.2.isLive then
    let old := s.cfg.hoses.get p.2.hose
    let new := old.forStep p.1.island p.2.ctx
    if new = old then s else s.configure fun g => { g with hoses := g.hoses.put p.2.hose new }
  else s

/-- Stage 4 with retention kept: the orders are restored, the channels take the restored steps, and the hoses in use take
their values (R27, R29, R189). -/
def State.restoreOrders (s : State) : State :=
  let s := { s with orders := s.orders.map (Option.map Order.restored) }
  let s := { s with hoses := Vector.ofFn fun h => { s.hoses.get h with step := s.restoredRef h } }
  s.allSteps.foldl State.adoptStep s

/-- Stage 5 at one tank, when the defaults were applied: OUT_OF_SERVICE, and its open receipt cancelled (R110). R189 lists the
state among the defaults that stage 3 applies and R196 names only the receipts at stage 5; that the state changes here, with the
receipt, is DESIGN CHOICE, log entry 31. -/
def State.defaultTank (s : State) (t : TankNo) : State :=
  if s.supply.defaulted then
    let s := match (s.tanks.get t).receipt with
      | some r => (s.cancelReceipt t r).2
      | none => s
    s.modTank t fun k => { k with state := .outOfService }
  else s

/-- A tank's field state at stage 7 (R110): the last reading's values kept and not valid, the stale timer started at a
strapped tank, the leak watch. -/
def Tank.restarted (strapped : Bool) (c : TankCfg) (k : Tank) : Tank :=
  let k := { k with
    gauge := { k.gauge with valid := false, faults := 0, faultCondition := false }
    staleTimer := if strapped then Timer.startSeconds c.staleTime else none
    probe := false }
  if k.isWorking then k.leakBusy else k.leakWaiting c.quietTime

/-- Stage 7: field state begins (R29, R72, R84, R110, R172). -/
def State.stageSeven (s : State) : State :=
  { s with
    hoses := s.hoses.map fun c => { Channel.initial with step := c.step }
    islands := s.islands.map fun k => { Island.initial with lastSeq := k.lastSeq }
    tanks := Vector.ofFn fun t => (s.tanks.get t).restarted (s.isStrapped t) (s.cfg.tanks.get t)
    ports := Vector.replicate 3 Port.initial
    shut := { s.shut with stop := false }
    reports := []
    ends := [] }

/-- A report made by start-up is taken at once (R171). -/
def State.startUpReport (s : State) (asserted : Bool) (r : Report) : State := if asserted then s.applyReport r else s

/-- Stage 8 at one island: the detector and the float are sampled (R84). -/
def State.sampleIsland (s : State) (i : IslandNo) : State :=
  let s := if s.pins.detectors.get i then s.detectorOn i else s
  let s := s.modIsland i fun k => { k with float := s.pins.floats.get i }
  s.startUpReport (s.pins.floats.get i) (.sumpHigh i)

/-- Stage 8 at one tank: the overfill probe is sampled (R110). -/
def State.sampleTank (s : State) (t : TankNo) : State :=
  let s := s.modTank t fun k => { k with probe := s.pins.probes.get t }
  s.startUpReport (s.pins.probes.get t) (.overfill t)

/-- Stage 8 at the coupling switches (R29, R196). -/
def State.sampleCouplings (s : State) : State :=
  { s with hoses := Vector.ofFn fun h => { s.hoses.get h with coupled := s.pins.coupling.get h } }

/-- Stage 8 at the emergency stop input (R161, R171). -/
def State.sampleStop (s : State) : State :=
  let s := s.modShut fun u => { u with stop := s.pins.stop }
  s.startUpReport s.pins.stop (.bayStop none)

/-- Stage 8 at the supply warning (R194, R195, R196). -/
def State.sampleWarning (s : State) : State := if s.pins.warning then s.warnOn else s.warnOff

/-- The notice sets are emptied, and the attention lines are brought into line (R196, stage 9). -/
def State.emptyNotices (s : State) : State :=
  allLinks.foldl (fun s l => s.modPort l fun p => p.withNotices (s.cfg.links.get l).attention Port.noNotices) s

/-- Stages 9 and 10, which complete the start-up: every end report has been taken, the notice sets are emptied, the outputs
follow, and RESTART is raised with its reason (R196, R198). -/
def State.finishStartUp (s : State) (reason : RestartReason) : State :=
  let s := s.drain.emptyNotices.alignOutputs
  let s := s.modSupply fun u => { u with reason := reason }
  s.raise ⟨.restart, none, none, some (reason, s.supply.defaulted)⟩

/-! ### The actions of a start-up

Stage 1 comes first. Each action after it is taken whole, so a start-up can be stopped after any of them, with the retained store
as it then stands (R193, R196, R199; log entry 31). -/

/-- An action of a start-up: a stage of R196, or the part of one that concerns one step, order, tank, island or input. -/
inductive StartAction where
  | endStep (r : StepRef)
  | endOrder (i : IslandNo)
  | load (answers : Bool)
  | restore
  | lose
  | defaultTank (t : TankNo)
  | reportLost
  | fieldState
  | sampleCouplings
  | sampleIsland (i : IslandNo)
  | sampleTank (t : TankNo)
  | sampleStop
  | sampleWarning
  | finish (reason : RestartReason)
  deriving DecidableEq, Repr

/-- One action of a start-up is taken. -/
def State.startAction (s : State) : StartAction → State
  | .endStep r => s.resetAt r
  | .endOrder i => s.resetHandOff i
  | .load answers => s.loadSettings answers
  | .restore => s.restoreOrders
  | .lose => s.loseRetained
  | .defaultTank t => s.defaultTank t
  | .reportLost => s.applyReport .storeLost
  | .fieldState => s.stageSeven
  | .sampleCouplings => s.sampleCouplings
  | .sampleIsland i => s.sampleIsland i
  | .sampleTank t => s.sampleTank t
  | .sampleStop => s.sampleStop
  | .sampleWarning => s.sampleWarning
  | .finish reason => s.finishStartUp reason

/-- Stage 2: every active order ends RESET, in ascending island order, each with its step ends and its hand-off (R28). -/
def State.resetActions (s : State) : List StartAction :=
  allIslands.flatMap fun i => (s.stepsOf i).map (fun p => .endStep p.1) ++ [.endOrder i]

/-- Stages 5 to 10 (R196). Stage 8 samples the inputs in the order of log entry 9 (DESIGN CHOICE). -/
def laterActions (reason : RestartReason) : List StartAction :=
  allTanks.map .defaultTank ++ (if reason = .powerOnLost then [.reportLost] else []) ++ [.fieldState, .sampleCouplings]
    ++ allIslands.map .sampleIsland ++ allTanks.map .sampleTank ++ [.sampleStop, .sampleWarning, .finish reason]

/-- The actions after stage 1 of a start-up after power-on (R196, R197). -/
def powerActions (r : Retention) (answers : Bool) : List StartAction :=
  match r with
  | .kept => [.load answers, .restore] ++ laterActions .powerOnKept
  | .lost => [.load answers, .lose] ++ laterActions .powerOnLost

/-- The relay is de-energised and the pump enables are negated, as they are until stage 9 (R160, R196). -/
def State.outputsOff (s : State) : State :=
  s.modShut fun u => { u with relay := false, pumps := Vector.replicate 10 false }

/-- A start-up takes its actions, to the end or as far as it goes; one that is stopped takes no event from there on, and its last
action, which completes it, is not taken (R196, R199). -/
def State.startUp (s : State) (plan : List StartAction) : StartReach → State
  | .whole => plan.foldl State.startAction s
  | .actions n =>
    ((plan.dropLast.take n).foldl State.startAction s).outputsOff.modSupply fun u => { u with starting := true }

/-- Start-up after power-on; stage 1 reads the retention report (R196, R197). With retention kept it does not report STORE_LOST,
even where the start-up before it was one after retention lost that was stopped before its stage 6 (DESIGN CHOICE, log entry
31). -/
def State.startPower (s : State) (r : Retention) (answers : Bool) (reach : StartReach) : State :=
  (s.stageOne.modSupply fun u => { u with retention := r }).startUp (powerActions r answers) reach

/-- Start-up after the negation of the external reset input (R196, R199). It does not read the retention report, so one that
follows a start-up after retention lost which was stopped before its stage 6 does not report STORE_LOST (DESIGN CHOICE, log
entry 31). -/
def State.startReset (s : State) (answers : Bool) (reach : StartReach) : State :=
  s.stageOne.startUp (s.resetActions ++ [.load answers] ++ laterActions .externalReset) reach

/-! ## Power and external reset as events (R193, R196, R199) -/

/-- The supply is lost: the part stops and is off (R193, R195). -/
def State.lose (s : State) (cut : SaveCut) : State :=
  if s.powered then { s.stop cut with powered := false } else s

/-- Power comes on. At a part that has supply, the supply is lost first, a running save being cut off before its stage 1 was
complete (DESIGN CHOICE, log entry 12). A part held in external reset starts up at the negation of the input, with what the supervisor
reports read now: with retention lost the bay entry of R170 is latched at once (R196, R199; DESIGN CHOICE, log entry 12). -/
def State.power (s : State) (r : Retention) (answers : Bool) (reach : StartReach) : State :=
  let s := { s.lose .beforeMark with powered := true }
  if s.pins.reset then
    let s := s.stageOne.modSupply fun u => { u with retention := r }
    match r with
    | .kept => s
    | .lost => s.loseRetained.setEntry .bay (some Entry.storeLost)
  else s.startPower r answers reach

/-- The external reset input is asserted: a part that runs or starts up stops (R199). -/
def State.resetOn (s : State) (cut : SaveCut) : State :=
  let t := s.modPins fun p => { p with reset := true }
  if s.powered && !s.pins.reset then t.stop cut else t

/-- The external reset input is negated, and start-up begins (R199). -/
def State.resetOff (s : State) (answers : Bool) (reach : StartReach) : State :=
  let t := s.modPins fun p => { p with reset := false }
  if s.pins.reset && s.powered then t.startReset answers reach else t

/-! ## The bay clock (R200) and time -/

/-- The bay clock a second later (R200; ticks while off, log entry 23). -/
def clockAfter (n : Nat) : Nat := if n = Config.max32 then 0 else n + 1

/-- CLOCK_SET (R200). -/
def clockSet (n : Nat) (s : State) : Answer × State :=
  if n ≤ Config.max32 then (accepted, s.modSupply fun u => { u with clock := n, clockSet := true })
  else (refuse .outOfRange, s)

/-- CLOCK_READ (R200). -/
def clockRead (s : State) : Answer := (.ok, .clock s.supply.clock s.supply.clockSet)

/-- An active order held for power (R201). -/
def Order.isHeldForPower (o : Order) : Bool :=
  match o.state with
  | .held | .holdPending => decide (o.hold = some .power)
  | .ending => o.steps.any Step.heldForPower
  | .active => false

/-- SUPPLY_READ (R201). -/
def supplyRead (s : State) : Answer :=
  let u := s.supply
  (.ok, .supply
    { state := u.state, warning := u.warning, retention := u.retention, reason := u.reason, defaulted := u.defaulted,
      answered := u.answered, saving := u.snapshot.isSome, lastSave := u.lastSave, unsaved := u.unsaved,
      heldForPower := (allIslands.filter fun i => ((s.orders.get i).map Order.isHeldForPower).getD false).length })

/-- Every timer of a channel a tenth of a second later. -/
def Channel.elapse (c : Channel) : Channel :=
  { c with
    coupleTimer := c.coupleTimer.elapse
    stallTimer := c.stallTimer.elapse
    rateTimer := c.rateTimer.elapse
    settleTimer := c.settleTimer.elapse
    strayTimer := c.strayTimer.elapse }

/-- A tenth of a second passes for every timer of a part that runs; the expiries are commands of their own and so is the
tick of the bay clock (DESIGN CHOICE, log entry 4). -/
def State.idle (s : State) : State :=
  s.whileRunning fun s =>
    { s with
      hoses := s.hoses.map Channel.elapse
      islands := s.islands.map fun k => { k with timer := k.timer.elapse }
      tanks := s.tanks.map fun k => { k with staleTimer := k.staleTimer.elapse, quietTimer := k.quietTimer.elapse }
      ports := s.ports.map fun p => { p with frameTimer := p.frameTimer.elapse } }

end Sys2Proof.Machine
end

