-- ==== Sys2Proof/Machine/EventCommands.lean ====
section
/-! DEFINITION. The meanings of the event commands. A change of an input reaches its block as an event while the part
runs (R196, R199); the pin keeps its level in any case. A change to the level that the block already holds does not
arise, and leaves the block as it is (R75; DESIGN CHOICE, log entry 5). -/

namespace Sys2Proof.Machine

/-! ## Links -/

/-- LINK_BYTE_RECEIVED (R173). -/
def execLinkByteReceived (l : Link) (b : Byte) (s : State) : Result := .next (s.whileRunning fun s => s.receive l b)

/-- FRAME_TIMER_EXPIRY (R173). -/
def execFrameTimerExpiry (l : Link) (s : State) : Result := .next (s.whileRunning fun s => s.frameExpiry l)

/-- REPLY_SENT (R177). -/
def execReplySent (l : Link) (s : State) : Result := .next (s.whileRunning fun s => s.modPort l Port.sent)

/-! ## Meters and hoses -/

/-- METER_PULSE (R57). -/
def execMeterPulse (h : HoseNo) (s : State) : Result := .next (s.whileRunning fun s => (s.pulse h).settleAll)

/-- PROBE_READING (R61). -/
def execProbeReading (h : HoseNo) (r : ProbeReading) (s : State) : Result := .next (s.whileRunning fun s => s.probe h r)

/-- HOSE_COUPLED (R32). -/
def execHoseCoupled (h : HoseNo) (s : State) : Result :=
  .next <| (s.modPins fun p => { p with coupling := p.coupling.put h true }).whileRunning fun s =>
    if (s.hoses.get h).coupled then s else (s.couple h).settleAll

/-- HOSE_UNCOUPLED (R38). -/
def execHoseUncoupled (h : HoseNo) (s : State) : Result :=
  .next <| (s.modPins fun p => { p with coupling := p.coupling.put h false }).whileRunning fun s =>
    if (s.hoses.get h).coupled then (s.uncouple h).settleAll else s

/-- COUPLE_WAIT_EXPIRY (R34). -/
def execCoupleWaitExpiry (h : HoseNo) (s : State) : Result := .next (s.whileRunning fun s => (s.coupleWait h).settleAll)

/-- STALL_TIMER_EXPIRY (R37). -/
def execStallTimerExpiry (h : HoseNo) (s : State) : Result := .next (s.whileRunning fun s => (s.stall h).settleAll)

/-- RATE_WINDOW_EXPIRY (R39). -/
def execRateWindowExpiry (h : HoseNo) (s : State) : Result := .next (s.whileRunning fun s => s.rateWindow h)

/-- SETTLE_TIMER_EXPIRY (R41). -/
def execSettleTimerExpiry (h : HoseNo) (s : State) : Result :=
  .next (s.whileRunning fun s => (s.settleEnd h).settleAll)

/-- STRAY_QUIET_EXPIRY (R52). -/
def execStrayQuietExpiry (h : HoseNo) (s : State) : Result := .next (s.whileRunning fun s => s.strayQuiet h)

/-! ## Islands -/

/-- DETECTOR_ASSERTED (R75). -/
def execDetectorAsserted (i : IslandNo) (s : State) : Result :=
  .next <| (s.modPins fun p => { p with detectors := p.detectors.put i true }).whileRunning fun s =>
    if (s.islands.get i).level then s else (s.detectorOn i).settleAll

/-- DETECTOR_NEGATED (R75). -/
def execDetectorNegated (i : IslandNo) (s : State) : Result :=
  .next <| (s.modPins fun p => { p with detectors := p.detectors.put i false }).whileRunning fun s =>
    if (s.islands.get i).level then (s.detectorOff i).settleAll else s

/-- ARRIVAL_DEBOUNCE_EXPIRY (R76). -/
def execArrivalDebounceExpiry (i : IslandNo) (s : State) : Result :=
  .next (s.whileRunning fun s => (s.arrivalExpiry i).settleAll)

/-- LEAVING_DEBOUNCE_EXPIRY (R76). -/
def execLeavingDebounceExpiry (i : IslandNo) (s : State) : Result :=
  .next (s.whileRunning fun s => (s.leavingExpiry i).settleAll)

/-- SUMP_FLOAT_CHANGE (R81). -/
def execSumpFloatChange (i : IslandNo) (level : Bool) (s : State) : Result :=
  .next <| (s.modPins fun p => { p with floats := p.floats.put i level }).whileRunning fun s =>
    if (s.islands.get i).float = level then s else s.floatLevel i level

/-! ## Tanks -/

/-- GAUGE_READING_VALID (R96). -/
def execGaugeReadingValid (t : TankNo) (level : Nat) (tenths : Int) (s : State) : Result :=
  .next (s.whileRunning fun s => s.gaugeValid t level tenths)

/-- GAUGE_READING_FAULTY (R97). -/
def execGaugeReadingFaulty (t : TankNo) (s : State) : Result := .next (s.whileRunning fun s => s.gaugeFaulty t)

/-- GAUGE_STALE_EXPIRY (R97). -/
def execGaugeStaleExpiry (t : TankNo) (s : State) : Result := .next (s.whileRunning fun s => s.gaugeStale t)

/-- OVERFILL_PROBE_CHANGE (R98). -/
def execOverfillProbeChange (t : TankNo) (level : Bool) (s : State) : Result :=
  .next <| (s.modPins fun p => { p with probes := p.probes.put t level }).whileRunning fun s =>
    if (s.tanks.get t).probe = level then s else s.probeLevel t level

/-- LEAK_QUIET_EXPIRY (R99). -/
def execLeakQuietExpiry (t : TankNo) (s : State) : Result := .next (s.whileRunning fun s => s.leakQuiet t)

/-! ## The shutdown unit -/

/-- The emergency stop input takes a level; an assertion is a report of BAY_STOP (R161). -/
def State.stopLevel (s : State) (level : Bool) : State :=
  let s := s.modShut fun u => { u with stop := level }
  if level then s.applyReport (.bayStop none) else s

/-- EMERGENCY_STOP_CHANGE (R161). -/
def execEmergencyStopChange (level : Bool) (s : State) : Result :=
  .next <| (s.modPins fun p => { p with stop := level }).whileRunning fun s =>
    if s.shut.stop = level then s else s.stopLevel level

/-- SHUTDOWN_REPORT: a report is taken, and is no longer on its way (R150, R151). -/
def execShutdownReport (r : Report) (s : State) : Result :=
  .next (s.whileRunning fun s => State.applyReport { s with reports := s.reports.erase r } r)

/-! ## Settings, supply and clock -/

/-- SAVE_COMPLETION (R192). -/
def execSaveCompletion (e : SaveEnd) (s : State) : Result := .next (s.whileRunning fun s => s.endSave e)

/-- POWER_FAIL_WARNING_ASSERTED (R194). -/
def execPowerFailWarningAsserted (s : State) : Result :=
  .next <| (s.modPins fun p => { p with warning := true }).whileRunning fun s =>
    if s.supply.warning then s else s.warnOn.settleAll

/-- POWER_FAIL_WARNING_NEGATED (R195). -/
def execPowerFailWarningNegated (s : State) : Result :=
  .next <| (s.modPins fun p => { p with warning := false }).whileRunning fun s =>
    if s.supply.warning then s.warnOff else s

/-- SUPPLY_LOSS (R193, R195). -/
def execSupplyLoss (cut : SaveCut) (s : State) : Result := .next (s.lose cut)

/-- POWER_ON (R196). -/
def execPowerOn (r : Retention) (run : StartRun) (s : State) : Result := .next (s.power r run.answers run.reach)

/-- EXTERNAL_RESET_ASSERTED (R199). -/
def execExternalResetAsserted (cut : SaveCut) (s : State) : Result := .next (s.resetOn cut)

/-- EXTERNAL_RESET_NEGATED (R196, R199). -/
def execExternalResetNegated (run : StartRun) (s : State) : Result := .next (s.resetOff run.answers run.reach)

/-- BAY_CLOCK_TICK, in every supply state, during reset and while the part is off (R200). -/
def execBayClockTick (s : State) : Result := .next (s.modSupply fun u => { u with clock := clockAfter u.clock })

end Sys2Proof.Machine
end

