-- ==== Sys2Proof/Machine/RequestCommands.lean ====
section
/-! DEFINITION. The meanings of the request commands: each is taken by the link unit (R176) and handed to the owner that
its rule names. -/

namespace Sys2Proof.Machine

/-- The request of R3, R6. -/
def execOrderAdmit (l : Link) (tag : Half) (b : Sent AdmitFields) (s : State) : Result :=
  .next (s.serve (.orderAdmit l tag b) l tag .orderAdmit b orderAdmit)

/-- The request of R15. -/
def execOrderHold (l : Link) (tag : Half) (b : Sent Nat) (s : State) : Result :=
  .next (s.serve (.orderHold l tag b) l tag .orderHold b orderHold)

/-- The request of R17. -/
def execOrderContinue (l : Link) (tag : Half) (b : Sent Nat) (s : State) : Result :=
  .next (s.serve (.orderContinue l tag b) l tag .orderContinue b orderContinue)

/-- The request of R18. -/
def execOrderCancel (l : Link) (tag : Half) (b : Sent Nat) (s : State) : Result :=
  .next (s.serve (.orderCancel l tag b) l tag .orderCancel b orderCancel)

/-- The request of R19. -/
def execStepStop (l : Link) (tag : Half) (b : Sent StopFields) (s : State) : Result :=
  .next (s.serve (.stepStop l tag b) l tag .stepStop b stepStop)

/-- The request of R26. -/
def execOrderRead (l : Link) (tag : Half) (b : Sent Nat) (s : State) : Result :=
  .next (s.serve (.orderRead l tag b) l tag .orderRead b (reading orderRead))

/-- The request of R83. -/
def execIslandRead (l : Link) (tag : Half) (b : Sent Nat) (s : State) : Result :=
  .next (s.serve (.islandRead l tag b) l tag .islandRead b (reading islandRead))

/-- The request of R108. -/
def execTankRead (l : Link) (tag : Half) (b : Sent Nat) (s : State) : Result :=
  .next (s.serve (.tankRead l tag b) l tag .tankRead b (reading tankRead))

/-- The request of R54. -/
def execHoseRead (l : Link) (tag : Half) (b : Sent Nat) (s : State) : Result :=
  .next (s.serve (.hoseRead l tag b) l tag .hoseRead b (reading hoseRead))

/-- The request of R168. -/
def execShutdownRead (l : Link) (tag : Half) (b : Sent ShutdownSelect) (s : State) : Result :=
  .next (s.serve (.shutdownRead l tag b) l tag .shutdownRead b (reading shutdownRead))

/-- The request of R169. -/
def execWarnRead (l : Link) (tag : Half) (b : Sent Unit) (s : State) : Result :=
  .next (s.serve (.warnRead l tag b) l tag .warnRead b (reading fun _ => warnRead))

/-- The request of R144. -/
def execJournalRead (l : Link) (tag : Half) (b : Sent JournalSelect) (s : State) : Result :=
  .next (s.serve (.journalRead l tag b) l tag .journalRead b (reading journalRead))

/-- The request of R146. -/
def execJournalStatus (l : Link) (tag : Half) (b : Sent Unit) (s : State) : Result :=
  .next (s.serve (.journalStatus l tag b) l tag .journalStatus b (reading fun _ => journalStatus))

/-- The request of R133. -/
def execAccountRead (l : Link) (tag : Half) (b : Sent Nat) (s : State) : Result :=
  .next (s.serve (.accountRead l tag b) l tag .accountRead b (reading accountRead))

/-- The request of R133. -/
def execAccountNext (l : Link) (tag : Half) (b : Sent NextFields) (s : State) : Result :=
  .next (s.serve (.accountNext l tag b) l tag .accountNext b (reading accountNext))

/-- The request of R200. -/
def execClockRead (l : Link) (tag : Half) (b : Sent Unit) (s : State) : Result :=
  .next (s.serve (.clockRead l tag b) l tag .clockRead b (reading fun _ => clockRead))

/-- The request of R201. -/
def execSupplyRead (l : Link) (tag : Half) (b : Sent Unit) (s : State) : Result :=
  .next (s.serve (.supplyRead l tag b) l tag .supplyRead b (reading fun _ => supplyRead))

/-- The request of R186. -/
def execIdentify (l : Link) (tag : Half) (b : Sent Unit) (s : State) : Result :=
  .next (s.serve (.identify l tag b) l tag .identify b (reading fun _ => identify l))

/-- The request of R55. -/
def execHoseSet (l : Link) (tag : Half) (b : Sent HoseSetFields) (s : State) : Result :=
  .next (s.serve (.hoseSet l tag b) l tag .hoseSet b hoseSet)

/-- The request of R82. -/
def execIslandSet (l : Link) (tag : Half) (b : Sent IslandSetFields) (s : State) : Result :=
  .next (s.serve (.islandSet l tag b) l tag .islandSet b islandSetRequest)

/-- The request of R107. -/
def execTankSet (l : Link) (tag : Half) (b : Sent TankSetFields) (s : State) : Result :=
  .next (s.serve (.tankSet l tag b) l tag .tankSet b tankSet)

/-- The request of R86. -/
def execFluidSet (l : Link) (tag : Half) (b : Sent FluidSetFields) (s : State) : Result :=
  .next (s.serve (.fluidSet l tag b) l tag .fluidSet b fluidSet)

/-- The request of R95. -/
def execStrapLoad (l : Link) (tag : Half) (b : Sent StrapFields) (s : State) : Result :=
  .next (s.serve (.strapLoad l tag b) l tag .strapLoad b strapLoad)

/-- The request of R152. -/
def execCauseSet (l : Link) (tag : Half) (b : Sent CauseSetFields) (s : State) : Result :=
  .next (s.serve (.causeSet l tag b) l tag .causeSet b causeSet)

/-- The request of R115. -/
def execAccountLimitsSet (l : Link) (tag : Half) (b : Sent LimitsFields) (s : State) : Result :=
  .next (s.serve (.accountLimitsSet l tag b) l tag .accountLimitsSet b accountLimitsSet)

/-- The request of R179. -/
def execLinkSet (l : Link) (tag : Half) (b : Sent LinkSetFields) (s : State) : Result :=
  .next (s.serve (.linkSet l tag b) l tag .linkSet b linkSet)

/-- The request of R200. -/
def execClockSet (l : Link) (tag : Half) (b : Sent Nat) (s : State) : Result :=
  .next (s.serve (.clockSet l tag b) l tag .clockSet b clockSet)

/-- The request of R191. -/
def execSettingsSave (l : Link) (tag : Half) (b : Sent Unit) (s : State) : Result :=
  .next (s.serve (.settingsSave l tag b) l tag .settingsSave b settingsSave)

/-- The request of R101. -/
def execReceiptOpen (l : Link) (tag : Half) (b : Sent Nat) (s : State) : Result :=
  .next (s.serve (.receiptOpen l tag b) l tag .receiptOpen b receiptOpen)

/-- The request of R103. -/
def execReceiptClose (l : Link) (tag : Half) (b : Sent CloseFields) (s : State) : Result :=
  .next (s.serve (.receiptClose l tag b) l tag .receiptClose b receiptClose)

/-- The request of R104. -/
def execReceiptCancel (l : Link) (tag : Half) (b : Sent Nat) (s : State) : Result :=
  .next (s.serve (.receiptCancel l tag b) l tag .receiptCancel b receiptCancel)

/-- The request of R106. -/
def execStockSet (l : Link) (tag : Half) (b : Sent StockSetFields) (s : State) : Result :=
  .next (s.serve (.stockSet l tag b) l tag .stockSet b stockSet)

/-- The request of R126. -/
def execAccountCreate (l : Link) (tag : Half) (b : Sent AccountFields) (s : State) : Result :=
  .next (s.serve (.accountCreate l tag b) l tag .accountCreate b accountCreate)

/-- The request of R127. -/
def execAccountEdit (l : Link) (tag : Half) (b : Sent AccountFields) (s : State) : Result :=
  .next (s.serve (.accountEdit l tag b) l tag .accountEdit b accountEdit)

/-- The request of R128. -/
def execAccountBlock (l : Link) (tag : Half) (b : Sent Nat) (s : State) : Result :=
  .next (s.serve (.accountBlock l tag b) l tag .accountBlock b accountBlock)

/-- The request of R128. -/
def execAccountUnblock (l : Link) (tag : Half) (b : Sent Nat) (s : State) : Result :=
  .next (s.serve (.accountUnblock l tag b) l tag .accountUnblock b accountUnblock)

/-- The request of R129. -/
def execAccountDelete (l : Link) (tag : Half) (b : Sent Nat) (s : State) : Result :=
  .next (s.serve (.accountDelete l tag b) l tag .accountDelete b accountDelete)

/-- The request of R130. -/
def execHoursConfirm (l : Link) (tag : Half) (b : Sent Nat) (s : State) : Result :=
  .next (s.serve (.hoursConfirm l tag b) l tag .hoursConfirm b hoursConfirm)

/-- The request of R131. -/
def execHoursRebase (l : Link) (tag : Half) (b : Sent RebaseFields) (s : State) : Result :=
  .next (s.serve (.hoursRebase l tag b) l tag .hoursRebase b hoursRebase)

/-- The request of R132. -/
def execLubeSet (l : Link) (tag : Half) (b : Sent LubeFields) (s : State) : Result :=
  .next (s.serve (.lubeSet l tag b) l tag .lubeSet b lubeSet)

/-- The request of R145. -/
def execJournalRelease (l : Link) (tag : Half) (b : Sent Nat) (s : State) : Result :=
  .next (s.serve (.journalRelease l tag b) l tag .journalRelease b journalRelease)

/-- The request of R165, R166. -/
def execShutdownClear (l : Link) (tag : Half) (b : Sent Scope) (s : State) : Result :=
  .next (s.serve (.shutdownClear l tag b) l tag .shutdownClear b shutdownClear)

/-- The request of R164. -/
def execTripBay (l : Link) (tag : Half) (b : Sent Unit) (s : State) : Result :=
  .next (s.serve (.tripBay l tag b) l tag .tripBay b (tripBay l))

/-- The request of R163. -/
def execTripIsland (l : Link) (tag : Half) (b : Sent Nat) (s : State) : Result :=
  .next (s.serve (.tripIsland l tag b) l tag .tripIsland b (tripIsland l))

/-- The request of R163. -/
def execTripTank (l : Link) (tag : Half) (b : Sent Nat) (s : State) : Result :=
  .next (s.serve (.tripTank l tag b) l tag .tripTank b (tripTank l))

/-- The request of R163. -/
def execTripHose (l : Link) (tag : Half) (b : Sent Nat) (s : State) : Result :=
  .next (s.serve (.tripHose l tag b) l tag .tripHose b (tripHose l))

/-- The request of R182. -/
def execNoticeFetch (l : Link) (tag : Half) (b : Sent Unit) (s : State) : Result :=
  .next (s.serve (.noticeFetch l tag b) l tag .noticeFetch b (noticeFetch l))

/-- The request of R183. -/
def execNoticeMaskSet (l : Link) (tag : Half) (b : Sent MaskFields) (s : State) : Result :=
  .next (s.serve (.noticeMaskSet l tag b) l tag .noticeMaskSet b (noticeMaskSet l))

/-- The request of R184. -/
def execLinkStatus (l : Link) (tag : Half) (b : Sent Unit) (s : State) : Result :=
  .next (s.serve (.linkStatus l tag b) l tag .linkStatus b (reading fun _ => linkStatus l))

/-- LINK_RESET, taken at its arrival whatever the queue holds (R175, R185). -/
def execLinkReset (l : Link) (tag : Half) (b : Sent Unit) (s : State) : Result :=
  .next (s.whileRunning fun s => s.arriveReset l tag b)

/-- A request whose kind byte is not in Table 11-1 is answered UNKNOWN_KIND (R202); one whose kind the table has is not
this command, and nothing is taken (DESIGN CHOICE, log entry 6). -/
def execUnknownKindRequest (l : Link) (tag : Half) (kind : Byte) (s : State) : Result :=
  .next <|
    if s.canTake l (.unknownKindRequest l tag kind) && (Kind.ofCode kind.toNat).isNone then
      s.answer l tag kind (refuse .unknownKind)
    else s

end Sys2Proof.Machine
end

