-- ==== Sys2Proof/Machine/Dispatch.lean ====
section
/-! DEFINITION. The dispatch: one arm for each command. -/

namespace Sys2Proof.Machine

def exec (i : Instr) (s : State) : Host.Outcome State Fault Refusal :=
  match i with
  | .orderAdmit l tag b => Sys2Proof.Machine.execOrderAdmit l tag b s
  | .orderHold l tag b => Sys2Proof.Machine.execOrderHold l tag b s
  | .orderContinue l tag b => Sys2Proof.Machine.execOrderContinue l tag b s
  | .orderCancel l tag b => Sys2Proof.Machine.execOrderCancel l tag b s
  | .stepStop l tag b => Sys2Proof.Machine.execStepStop l tag b s
  | .orderRead l tag b => Sys2Proof.Machine.execOrderRead l tag b s
  | .islandRead l tag b => Sys2Proof.Machine.execIslandRead l tag b s
  | .tankRead l tag b => Sys2Proof.Machine.execTankRead l tag b s
  | .hoseRead l tag b => Sys2Proof.Machine.execHoseRead l tag b s
  | .shutdownRead l tag b => Sys2Proof.Machine.execShutdownRead l tag b s
  | .warnRead l tag b => Sys2Proof.Machine.execWarnRead l tag b s
  | .journalRead l tag b => Sys2Proof.Machine.execJournalRead l tag b s
  | .journalStatus l tag b => Sys2Proof.Machine.execJournalStatus l tag b s
  | .accountRead l tag b => Sys2Proof.Machine.execAccountRead l tag b s
  | .accountNext l tag b => Sys2Proof.Machine.execAccountNext l tag b s
  | .clockRead l tag b => Sys2Proof.Machine.execClockRead l tag b s
  | .supplyRead l tag b => Sys2Proof.Machine.execSupplyRead l tag b s
  | .identify l tag b => Sys2Proof.Machine.execIdentify l tag b s
  | .hoseSet l tag b => Sys2Proof.Machine.execHoseSet l tag b s
  | .islandSet l tag b => Sys2Proof.Machine.execIslandSet l tag b s
  | .tankSet l tag b => Sys2Proof.Machine.execTankSet l tag b s
  | .fluidSet l tag b => Sys2Proof.Machine.execFluidSet l tag b s
  | .strapLoad l tag b => Sys2Proof.Machine.execStrapLoad l tag b s
  | .causeSet l tag b => Sys2Proof.Machine.execCauseSet l tag b s
  | .accountLimitsSet l tag b => Sys2Proof.Machine.execAccountLimitsSet l tag b s
  | .linkSet l tag b => Sys2Proof.Machine.execLinkSet l tag b s
  | .clockSet l tag b => Sys2Proof.Machine.execClockSet l tag b s
  | .settingsSave l tag b => Sys2Proof.Machine.execSettingsSave l tag b s
  | .receiptOpen l tag b => Sys2Proof.Machine.execReceiptOpen l tag b s
  | .receiptClose l tag b => Sys2Proof.Machine.execReceiptClose l tag b s
  | .receiptCancel l tag b => Sys2Proof.Machine.execReceiptCancel l tag b s
  | .stockSet l tag b => Sys2Proof.Machine.execStockSet l tag b s
  | .accountCreate l tag b => Sys2Proof.Machine.execAccountCreate l tag b s
  | .accountEdit l tag b => Sys2Proof.Machine.execAccountEdit l tag b s
  | .accountBlock l tag b => Sys2Proof.Machine.execAccountBlock l tag b s
  | .accountUnblock l tag b => Sys2Proof.Machine.execAccountUnblock l tag b s
  | .accountDelete l tag b => Sys2Proof.Machine.execAccountDelete l tag b s
  | .hoursConfirm l tag b => Sys2Proof.Machine.execHoursConfirm l tag b s
  | .hoursRebase l tag b => Sys2Proof.Machine.execHoursRebase l tag b s
  | .lubeSet l tag b => Sys2Proof.Machine.execLubeSet l tag b s
  | .journalRelease l tag b => Sys2Proof.Machine.execJournalRelease l tag b s
  | .shutdownClear l tag b => Sys2Proof.Machine.execShutdownClear l tag b s
  | .tripBay l tag b => Sys2Proof.Machine.execTripBay l tag b s
  | .tripIsland l tag b => Sys2Proof.Machine.execTripIsland l tag b s
  | .tripTank l tag b => Sys2Proof.Machine.execTripTank l tag b s
  | .tripHose l tag b => Sys2Proof.Machine.execTripHose l tag b s
  | .noticeFetch l tag b => Sys2Proof.Machine.execNoticeFetch l tag b s
  | .noticeMaskSet l tag b => Sys2Proof.Machine.execNoticeMaskSet l tag b s
  | .linkStatus l tag b => Sys2Proof.Machine.execLinkStatus l tag b s
  | .linkReset l tag b => Sys2Proof.Machine.execLinkReset l tag b s
  | .unknownKindRequest l tag kind => Sys2Proof.Machine.execUnknownKindRequest l tag kind s
  | .linkByteReceived l b => Sys2Proof.Machine.execLinkByteReceived l b s
  | .frameTimerExpiry l => Sys2Proof.Machine.execFrameTimerExpiry l s
  | .replySent l => Sys2Proof.Machine.execReplySent l s
  | .meterPulse h => Sys2Proof.Machine.execMeterPulse h s
  | .probeReading h r => Sys2Proof.Machine.execProbeReading h r s
  | .hoseCoupled h => Sys2Proof.Machine.execHoseCoupled h s
  | .hoseUncoupled h => Sys2Proof.Machine.execHoseUncoupled h s
  | .detectorAsserted k => Sys2Proof.Machine.execDetectorAsserted k s
  | .detectorNegated k => Sys2Proof.Machine.execDetectorNegated k s
  | .arrivalDebounceExpiry k => Sys2Proof.Machine.execArrivalDebounceExpiry k s
  | .leavingDebounceExpiry k => Sys2Proof.Machine.execLeavingDebounceExpiry k s
  | .sumpFloatChange k level => Sys2Proof.Machine.execSumpFloatChange k level s
  | .gaugeReadingValid t level tenths => Sys2Proof.Machine.execGaugeReadingValid t level tenths s
  | .gaugeReadingFaulty t => Sys2Proof.Machine.execGaugeReadingFaulty t s
  | .gaugeStaleExpiry t => Sys2Proof.Machine.execGaugeStaleExpiry t s
  | .overfillProbeChange t level => Sys2Proof.Machine.execOverfillProbeChange t level s
  | .leakQuietExpiry t => Sys2Proof.Machine.execLeakQuietExpiry t s
  | .emergencyStopChange level => Sys2Proof.Machine.execEmergencyStopChange level s
  | .coupleWaitExpiry h => Sys2Proof.Machine.execCoupleWaitExpiry h s
  | .stallTimerExpiry h => Sys2Proof.Machine.execStallTimerExpiry h s
  | .rateWindowExpiry h => Sys2Proof.Machine.execRateWindowExpiry h s
  | .settleTimerExpiry h => Sys2Proof.Machine.execSettleTimerExpiry h s
  | .strayQuietExpiry h => Sys2Proof.Machine.execStrayQuietExpiry h s
  | .shutdownReport r => Sys2Proof.Machine.execShutdownReport r s
  | .saveCompletion e => Sys2Proof.Machine.execSaveCompletion e s
  | .powerFailWarningAsserted => Sys2Proof.Machine.execPowerFailWarningAsserted s
  | .powerFailWarningNegated => Sys2Proof.Machine.execPowerFailWarningNegated s
  | .supplyLoss cut => Sys2Proof.Machine.execSupplyLoss cut s
  | .powerOn r run => Sys2Proof.Machine.execPowerOn r run s
  | .externalResetAsserted cut => Sys2Proof.Machine.execExternalResetAsserted cut s
  | .externalResetNegated run => Sys2Proof.Machine.execExternalResetNegated run s
  | .bayClockTick => Sys2Proof.Machine.execBayClockTick s

end Sys2Proof.Machine
end

