-- ==== Sys2Proof/Safety.lean ====
section
/-! DEFINITION. What counts as a sound state of the part, and the words in which statements speak of a command's effect:
the laws of the book as predicates of the state, what a request is, and what a reply is. -/

namespace Sys2Proof.Safety

open Sys2Proof.Machine

/-! ## Requests and replies -/

/-- The transmit list of a port with a reply placed on it: begun at once when nothing is being sent, else after those
that wait (R176, R177). -/
def listWith (r : Reply) (p : Port) : Option Reply × List Reply :=
  match p.sending with
  | none => (some r, p.waiting)
  | some x => (some x, p.waiting ++ [r])

/-- Where the oldest request of a queue stands when the link unit comes to it: handed to its owner exactly when its body
decodes and its kind is one that the role may request (R176; that this is at once is log entry 27). -/
def TakenUp (role : Role) (l : Link) (queue : List (List Byte)) (c : Custody) : Prop :=
  (c = .handed ↔ ∃ body rest q, queue = body :: rest ∧ requestInfo (decodeBody l body) = some q
    ∧ q.undecodable = none ∧ permitted role q.kind = true)
  ∧ c ≠ .silenced

/-- Between two states, a link's oldest request has left the queue, the next is taken up, and a reply stands on the
transmit list, or has been discarded when a LINK_RESET found the request with its owner; receiver, frame timer and frame
error count are as they were (R176, R185). -/
def Answered (s t : State) (l : Link) (r : Reply) : Prop :=
  (t.ports.get l).queue = (s.ports.get l).queue.drop 1
    ∧ TakenUp (t.cfg.links.get l).role l (t.ports.get l).queue (t.ports.get l).custody
    ∧ ((t.ports.get l).sending, (t.ports.get l).waiting)
        = (if (s.ports.get l).custody = .silenced then ((s.ports.get l).sending, (s.ports.get l).waiting)
          else listWith r (s.ports.get l))
    ∧ (t.ports.get l).receiver = (s.ports.get l).receiver
    ∧ (t.ports.get l).frameTimer = (s.ports.get l).frameTimer
    ∧ (t.ports.get l).frameErrors = (s.ports.get l).frameErrors

/-- The other ports are as they were. -/
def OtherPortsKept (s t : State) (l : Link) : Prop := ∀ k, k ≠ l → t.ports.get k = s.ports.get k

/-- Between two states nothing has changed but that a link's request has been answered: the other ports, and the notices
and the attention line of this one, are as they were. -/
def OnlyAnswered (s t : State) (l : Link) (r : Reply) : Prop :=
  Answered s t l r ∧ OtherPortsKept s t l
    ∧ (t.ports.get l).notices = (s.ports.get l).notices
    ∧ (t.ports.get l).attention = (s.ports.get l).attention
    ∧ t = { s with ports := t.ports }

/-- A link's request has been answered, and no port has changed in any other way. -/
def PortsAnswered (s t : State) (l : Link) (r : Reply) : Prop :=
  Answered s t l r ∧ OtherPortsKept s t l
    ∧ (t.ports.get l).notices = (s.ports.get l).notices
    ∧ (t.ports.get l).attention = (s.ports.get l).attention

/-- The reply to a request of a kind: tag and kind echoed, outcome and results (section 11.3). -/
def reply (tag : Half) (k : Kind) (c : Code) (r : Results) : Reply :=
  { tag, kind := kindByte k, code := c, results := r, atArrival := false }

/-- A decoded request can be taken now, and its port's role may make it or it is with its owner already (R176, R178, R179;
when it can be taken is log entry 3). -/
def Admissible (s : State) (l : Link) (k : Kind) (c : Instr) : Prop :=
  s.canTake l c = true ∧ ((s.ports.get l).custody ≠ .untaken ∨ permitted (s.cfg.links.get l).role k = true)

/-! ## Laws of the part -/

/-- Law 11: a link's attention line is asserted exactly while its notice set holds a pending kind that is in its attention
mask (R181). -/
def AttentionLaw (s : State) : Prop :=
  ∀ l : Link, (s.ports.get l).attention = true
    ↔ ∃ k : NoticeKind, ((s.ports.get l).notices.get k.index).isSome ∧ inMask (s.cfg.links.get l).attention k = true

/-- The account table (R111): at most 512 accounts, of machine numbers 1 to 65,534, in ascending order, no two the same. -/
def AccountsLaw (s : State) : Prop :=
  s.accounts.length ≤ 512
    ∧ s.accounts.Pairwise (fun a b => a.machine < b.machine)
    ∧ ∀ a ∈ s.accounts, 1 ≤ a.machine ∧ a.machine ≤ 65534

/-- Law 4 of the part (R140), with what it rests on: a tank is RECEIVING exactly while it has an open receipt, the reserved
count is the number of active orders and open receipts, and records and promises together never exceed 64. -/
def JournalLaw (s : State) : Prop :=
  (∀ t : TankNo, (s.tanks.get t).receipt.isSome = true ↔ (s.tanks.get t).state = .receiving)
    ∧ s.journal.reserved = s.activeOrders + s.openReceipts
    ∧ s.journal.records.length + s.journal.reserved ≤ 64

/-- The outputs follow the map and the valves (R159, R160): while the part runs, the relay is energised exactly while the
map holds no bay entry, and a tank's pump enable is asserted exactly while a hose whose step has the tank as captured tank
has its valve open and no entry holds the tank or the bay. While the part does not run, all of them are off. -/
def OutputsLaw (s : State) : Prop :=
  (s.running = true →
      (s.shut.relay = true ↔ s.entryAt .bay = none)
      ∧ ∀ t : TankNo, s.shut.pumps.get t = true
          ↔ (∃ h : HoseNo, s.drives t h = true) ∧ s.entryAt (.tank t) = none ∧ s.entryAt .bay = none)
    ∧ (s.running = false → s.shut.relay = false ∧ ∀ t : TankNo, s.shut.pumps.get t = false)

/-- No step end report is left on its way to the order unit: each is taken within the command that gives it (R49). -/
def EndsTaken (s : State) : Prop := s.ends = []

/-- Every tank's book lies within its limits (R94). -/
def BooksLaw (s : State) : Prop := ∀ k : TankNo, -2147483648 ≤ (s.tanks.get k).book ∧ (s.tanks.get k).book ≤ 2147483647

/-- At least one link holds the role OFFICE (R179, R188). -/
def OfficeLaw (s : State) : Prop := ∃ l : Link, (s.cfg.links.get l).role = .office

/-! ## What the rules say in words of their own -/

/-- A step of an active order: the order of an island and the step's record at its place in the list. -/
def HasStep (s : State) (r : StepRef) (st : Step) : Prop :=
  ∃ o, s.orders.get r.island = some o ∧ o.steps[r.idx]? = some st

/-- A hose is in use while a step of an active order names it and is neither ENDED nor NOT_RUN (R55). -/
def HoseInUse (s : State) (h : HoseNo) : Prop :=
  ∃ r st, HasStep s r st ∧ st.hose = h ∧ st.state ≠ .ended ∧ st.state ≠ .notRun

/-- A tank is in use while its reserved is above 0, a receipt is open on it, or a step of an active order that is neither
ENDED nor NOT_RUN has it as captured tank (R85). -/
def TankInUse (s : State) (t : TankNo) : Prop :=
  0 < (s.tanks.get t).reserved ∨ (s.tanks.get t).receipt.isSome = true
    ∨ ∃ r st, HasStep s r st ∧ st.ctx.tank = t ∧ st.state ≠ .ended ∧ st.state ≠ .notRun

/-- The ranges of HOSE_SET but those of the hose number (R55, check 1). -/
def HoseFieldsInRange (f : HoseSetFields) : Prop :=
  f.island ≤ 3 ∧ (∀ k, f.tank = some k → k ≤ 9) ∧ (50 ≤ f.factor ∧ f.factor ≤ 500000) ∧ f.slowDown ≤ 1000000
    ∧ (1 ≤ f.stallTime ∧ f.stallTime ≤ 120) ∧ (5 ≤ f.settleTime ∧ f.settleTime ≤ 100)
    ∧ (1 ≤ f.maxPulses ∧ f.maxPulses ≤ 20000) ∧ f.runOnLimit ≤ 50000 ∧ (10 ≤ f.coupleWait ∧ f.coupleWait ≤ 600)
    ∧ (1000 ≤ f.stepLimit ∧ f.stepLimit ≤ 2000000000) ∧ (1 ≤ f.strayThreshold ∧ f.strayThreshold ≤ 255)
    ∧ f.enabled ≤ 1

/-- A hose configuration holds exactly what a HOSE_SET carries (R55). -/
def HoseCfgHolds (c : HoseCfg) (f : HoseSetFields) : Prop :=
  c.island.val = f.island ∧ c.tank.map (·.val) = f.tank ∧ c.factor = f.factor ∧ c.slowDown = f.slowDown
    ∧ c.stallTime = f.stallTime ∧ c.settleTime = f.settleTime ∧ c.maxPulses = f.maxPulses ∧ c.runOnLimit = f.runOnLimit
    ∧ c.coupleWait = f.coupleWait ∧ c.stepLimit = f.stepLimit ∧ c.strayThreshold = f.strayThreshold
    ∧ (c.enabled = true ↔ f.enabled = 1)

/-- The ranges of TANK_SET but those of the tank number, with the cases in which it is refused OUT_OF_RANGE (R85, R107). -/
def TankFieldsInRange (f : TankSetFields) : Prop :=
  f.fluid ≤ 15 ∧ f.capacity ≤ 2000000000 ∧ f.lowLimit ≤ f.highLimit ∧ f.highLimit ≤ f.capacity
    ∧ f.reorder ≤ 2000000000 ∧ f.minStart ≤ 100000 ∧ f.tolerance ≤ 10000000
    ∧ (1000 ≤ f.leakThreshold ∧ f.leakThreshold ≤ 10000000) ∧ (10 ≤ f.quietTime ∧ f.quietTime ≤ 240)
    ∧ (10 ≤ f.staleTime ∧ f.staleTime ≤ 600) ∧ f.state ≠ .receiving

/-- A tank configuration holds exactly what a TANK_SET carries (R107). -/
def TankCfgHolds (c : TankCfg) (f : TankSetFields) : Prop :=
  c.role = f.role ∧ c.fluid.val = f.fluid ∧ c.capacity = f.capacity ∧ c.lowLimit = f.lowLimit
    ∧ c.highLimit = f.highLimit ∧ c.reorder = f.reorder ∧ c.minStart = f.minStart ∧ c.tolerance = f.tolerance
    ∧ c.leakThreshold = f.leakThreshold ∧ c.quietTime = f.quietTime ∧ c.staleTime = f.staleTime

/-- A list of points that STRAP_LOAD accepts: 2 to 16 points, levels of 0 to 20,000 mm strictly increasing, volumes of 0 to
2,000,000,000 mL not decreasing (R95). -/
def GoodStrapping (points : List StrapPoint) : Prop :=
  2 ≤ points.length ∧ points.length ≤ 16 ∧ (∀ p ∈ points, p.level ≤ 20000 ∧ p.volume ≤ 2000000000)
    ∧ points.Pairwise (fun p q => p.level < q.level ∧ p.volume ≤ q.volume)

/-- A leak watch that is not BUSY restarts at WAITING with the quiet time, in minutes, and no baseline; one that is BUSY stays
as it is (R99). -/
def watchRestarted (minutes : Nat) (k : Tank) : Tank :=
  match k.leak with
  | .busy => k
  | .waiting | .quiet => { k with leak := .waiting, quietTimer := some (minutes * 600), baseline := none }

/-- A state with a new working configuration that is not yet in the settings image: the unsaved flag is set (R190). -/
def withConfig (s : State) (c : Settings) : State := { s with cfg := c, supply := { s.supply with unsaved := true } }

/-- A command that is a request runs: it gives `u` with the request answered. -/
def Replies (c : Instr) (s u : State) (l : Link) (tag : Half) (k : Kind) (code : Code) (results : Results) : Prop :=
  ∃ t, exec c s = .next t ∧ OnlyAnswered u t l (reply tag k code results)

/-- A notice that carries nothing. -/
def notice (k : NoticeKind) : Notice := ⟨k, none, none, none⟩

/-- A notice that carries an island. -/
def noticeAt (k : NoticeKind) (i : IslandNo) : Notice := ⟨k, some i, none, none⟩

/-- A notice raised when a condition holds. -/
def noticeIf (p : Prop) [Decidable p] (n : Notice) : List Notice := if p then [n] else []

/-- The ports of a state after notices have been raised in turn. -/
def raised (s : State) (ns : List Notice) : Table Port 3 := (ns.foldl State.raise s).ports

/-- The TANK_LOW test between a tank's figures before and after a change: the available quantity or the room passes from at
least the reorder level to below it (R93). -/
abbrev lowPassed (c : TankCfg) (before after : Tank) : Prop :=
  c.reorder ≤ stockQuantity c before ∧ stockQuantity c after < c.reorder

/-- The sequence number after another (R139). -/
def numberAfter (n : Nat) : Nat := if n = 4294967295 then 1 else n + 1

/-- The journal with a record appended under the next sequence number and its reserved count lowered by `places` (R139,
R141). -/
def withRecord (j : Journal) (clockNotSet : Bool) (body : RecordBody) (places : Nat) : Journal :=
  { records := j.records ++ [{ seq := j.next, clockNotSet, body }], reserved := j.reserved - places,
    next := numberAfter j.next }

/-- A leak watch at the close of a receipt: BUSY goes to WAITING when reserved is 0 (R99, R103). -/
def watchRested (minutes : Nat) (k : Tank) : Tank :=
  if k.leak = .busy ∧ k.reserved = 0 then
    { k with leak := .waiting, quietTimer := some (minutes * 600), baseline := none }
  else k

/-- The ranges of ACCOUNT_CREATE and ACCOUNT_EDIT (R125). -/
def AccountFieldsInRange (f : AccountFields) : Prop :=
  (1 ≤ f.machine ∧ f.machine ≤ 65534) ∧ f.capacity ≤ 2000000000 ∧ f.margin ≤ 100

/-- The accounts with one account changed. -/
def withAccountChanged (s : State) (m : Nat) (f : Account → Account) : State :=
  { s with accounts := s.accounts.map fun a => if a.machine = m then f a else a }

/-! ## Steps and channels -/

/-- The orders with one step record replaced. -/
def putStep (s : State) (r : StepRef) (st : Step) : Table (Option Order) 4 :=
  s.orders.modify r.island (Option.map fun o => { o with steps := o.steps.set r.idx st })

/-- The orders with one order replaced. -/
def putOrder (s : State) (i : IslandNo) (o : Order) : Table (Option Order) 4 := s.orders.put i (some o)

/-- A hose's step: the channel holds the reference, the reference names the step, and the step names the hose (R29). -/
def StepOfHose (s : State) (h : HoseNo) (r : StepRef) (st : Step) : Prop :=
  (s.hoses.get h).step = some r ∧ HasStep s r st ∧ st.hose = h

/-- RUNNING_FAST or RUNNING_SLOW (R2). -/
abbrev Running (st : Step) : Prop := st.state = .runningFast ∨ st.state = .runningSlow

/-- Reported net (R67). -/
def netOf (st : Step) : Nat := (st.netAcc + 5000000000) / 10000000000

/-- Reported gross (R67). -/
def grossOf (st : Step) : Nat := (st.grossAcc + 500) / 1000

/-- A RUNNING step with no end status after the closing of its valve: SETTLING, with the status of the closing and its reported
net as net at valve close (R36 to R41). -/
def settlingStep (status : StepEnd) (st : Step) : Step :=
  { st with state := .settling, netAtClose := some (netOf st), endStatus := some status, suspension := none }

/-- A channel after a closing: valve CLOSED, every timer of a RUNNING step stopped, the rate window discarded, and the settle
timer started (R39, R41). -/
def settlingChannel (settleTime : Nat) (k : Channel) : Channel :=
  { k with
    valve := .closed, coupleTimer := none, stallTimer := none, rateTimer := none, strayTimer := none
    settleTimer := some settleTime, windowCount := 0, flow := 0 }

/-- Only the outputs of the shutdown unit follow: its map, its warning records and its copy of the stop level are as they were,
and the relay and the pump enables are as R159 and R160 have them. -/
def OutputsFollow (s t : State) : Prop :=
  t.shut = { s.shut with relay := t.shut.relay, pumps := t.shut.pumps }
    ∧ (t.shut.relay = true ↔ t.entryAt .bay = none)
    ∧ ∀ k : TankNo, t.shut.pumps.get k = true
        ↔ (∃ h : HoseNo, t.drives k h = true) ∧ t.entryAt (.tank k) = none ∧ t.entryAt .bay = none

/-- A part that runs and whose order unit has taken every end report (R49, R195, R199). -/
def Steady (s : State) : Prop := s.running = true ∧ s.ends = []

/-- The covering cause of a step: the first cause of its hose's entry, else of its island's, its captured tank's, the bay's
(R154). -/
def Covered (s : State) (r : StepRef) (st : Step) : Prop :=
  s.entryAt (.hose st.hose) ≠ none ∨ s.entryAt (.island r.island) ≠ none ∨ s.entryAt (.tank st.ctx.tank) ≠ none
    ∨ s.entryAt .bay ≠ none

/-- The condition of a cause is present at an object: the table of R149. -/
def ConditionHolds (s : State) (c : Cause) (o : Scope) : Prop :=
  (c = .bayStop ∧ s.shut.stop = true)
    ∨ (c = .sumpHigh ∧ ∃ i, o = .island i ∧ (s.islands.get i).float = true)
    ∨ (c = .overfill ∧ ∃ t, o = .tank t ∧ (s.tanks.get t).probe = true)
    ∨ (c = .gaugeFault ∧ ∃ t, o = .tank t ∧ (s.tanks.get t).gauge.faultCondition = true)
    ∨ (c = .strayFlow ∧ ∃ h, o = .hose h ∧ (s.hoses.get h).strayTimer ≠ none)

/-! ## Admission -/

/-- A step of an ORDER_ADMIT body names a known kind, a hose and the tank the hose is configured against (R4). -/
def StepNames (s : State) (a : AdmitStep) (kind : StepKind) (h : HoseNo) (k : TankNo) : Prop :=
  a.kind = some kind ∧ a.hose = h.val ∧ (s.cfg.hoses.get h).tank = some k

/-- A step of an ORDER_ADMIT body is well formed on its own at an island (R4, R203). -/
def GoodStep (s : State) (i : IslandNo) (a : AdmitStep) : Prop :=
  ∃ kind h k, StepNames s a kind h k
    ∧ (s.cfg.hoses.get h).enabled = true ∧ (s.cfg.hoses.get h).island = i
    ∧ (s.cfg.fluids.get (s.cfg.tanks.get k).fluid).isDefined = true
    ∧ (s.cfg.tanks.get k).role = (if kind = .preset ∨ kind = .openFill then .supply else .waste)
    ∧ (if kind = .preset ∨ kind = .presetRecover then 1 ≤ a.preset ∧ a.preset ≤ 2000000000 else a.preset = 0)
    ∧ a.flags.toNat < 8 ∧ ¬ (a.flags.getLsbD 0 = true ∧ a.flags.getLsbD 1 = true)

/-- The number of the group of the body's step at place `k`: one more at each step that is not PARALLEL (R8). -/
def bodyGroup (l : List AdmitStep) (k : Nat) : Nat := ((l.take (k + 1)).filter fun a => !a.flags.getLsbD 0).length

/-- A step list that check 10 accepts: 1 to 8 steps, each well formed, the first not PARALLEL, no two of one group at the same
hose (R4). -/
def GoodSteps (s : State) (i : IslandNo) (l : List AdmitStep) : Prop :=
  1 ≤ l.length ∧ l.length ≤ 8 ∧ (∀ a ∈ l, GoodStep s i a) ∧ (∀ a, l.head? = some a → a.flags.getLsbD 0 = false)
    ∧ ∀ (j k : Nat) (a b : AdmitStep), j ≠ k → l[j]? = some a → l[k]? = some b → bodyGroup l j = bodyGroup l k →
        a.hose ≠ b.hose

/-- Some step of the body names a latched hose, or one whose configured tank is latched (R3, check 11). -/
def NamesLatched (s : State) (l : List AdmitStep) : Prop :=
  ∃ a ∈ l, ∃ kind h k, StepNames s a kind h k ∧ (s.entryAt (.hose h) ≠ none ∨ s.entryAt (.tank k) ≠ none)

/-- Some draw step of the body names a fluid that the account is not permitted (R3, check 12). -/
def NamesForbiddenFluid (s : State) (a : Account) (l : List AdmitStep) : Prop :=
  ∃ x ∈ l, ∃ kind h k, StepNames s x kind h k ∧ (kind = .preset ∨ kind = .openFill)
    ∧ a.fluids.getLsbD (s.cfg.tanks.get k).fluid.val = false

/-! ## Order ends -/

/-- The final net of a step's end report, 0 without one. -/
def finalNetOf (st : Step) : Nat := match st.final with | some f => f.net | none => 0

/-- The sum of the final nets of the ENDED draw steps that are of a sort (R25). -/
def drawnBy (sort : Step → Bool) (steps : List Step) : Nat :=
  ((steps.filter fun st => decide (st.state = .ended ∧ (st.kind = .preset ∨ st.kind = .openFill)) && sort st).map
    finalNetOf).sum

/-- The fuel net of an order's steps (R25). -/
def fuelDrawn (steps : List Step) : Nat := drawnBy (fun st => decide (st.ctx.fluidKind = .fuel)) steps

/-- The net of one fluid code in an order's steps (R122). -/
def fluidDrawn (code : Nat) (steps : List Step) : Nat := drawnBy (fun st => decide (st.ctx.fluid.val = code)) steps

/-- A consumption sample of fuel carry over a span (R120). -/
def sampleOf (carry span : Nat) : Nat := min 4294967295 (carry * 10 / span)

/-- The consumption computation of an order end, from the account `a` with the fuel carry as raised, to `b`; `high` is whether
HIGH_USE is raised (R120, R121). -/
def ConsumptionTaken (s : State) (hour : Option Nat) (fuel carry : Nat) (a b : Account) (high : Bool) : Prop :=
  let unchanged := b.markHours = a.markHours ∧ b.carry = carry ∧ b.rate = a.rate ∧ b.highUse = a.highUse ∧ high = false
  ((a.state ≠ .active ∨ hour = none ∨ fuel = 0) → unchanged)
    ∧ ∀ h, a.state = .active → hour = some h → 0 < fuel →
      (a.markHours = none →
        b.markHours = some h ∧ b.carry = 0 ∧ b.rate = a.rate ∧ b.highUse = a.highUse ∧ high = false)
      ∧ ∀ m, a.markHours = some m →
        (h - m < s.cfg.minSpan → unchanged)
        ∧ (s.cfg.minSpan ≤ h - m →
          let sample := sampleOf carry (h - m)
          let threshold := a.rate * (100 + a.margin) / 100
          b.markHours = some h ∧ b.carry = 0
          ∧ (a.rate = 0 → b.rate = sample ∧ b.highUse = a.highUse ∧ high = false)
          ∧ (a.rate ≠ 0 → b.rate = (3 * a.rate + sample + 2) / 4
              ∧ (threshold < sample →
                  high = true ∧ b.highUse = some { clock := s.supply.clock, sample, before := a.rate })
              ∧ (sample ≤ threshold → high = false ∧ b.highUse = none)))

/-- An account before and after the end of an order with an hour reading and its steps (R119 to R122): the lifetime totals and
the fuel carry rise by what was drawn, the consumption computation is made, a lube entry serviced in at least its minimum
quantity takes the reading, and the account is no longer in use. -/
def AccountSettled (s : State) (hour : Option Nat) (steps : List Step) (a b : Account) (high : Bool) : Prop :=
  let fuel := fuelDrawn steps
  b = { a with
      lifetimeFuel := min 18446744073709551615 (a.lifetimeFuel + fuel)
      lifetimeOther := min 18446744073709551615 (a.lifetimeOther + (drawnBy (fun _ => true) steps - fuel))
      inUse := none
      carry := b.carry, rate := b.rate, markHours := b.markHours, highUse := b.highUse, lube := b.lube }
    ∧ ConsumptionTaken s hour fuel (min 18446744073709551615 (a.carry + fuel)) a b high
    ∧ b.lube = a.lube.map fun e =>
        if a.state = .active ∧ hour ≠ none ∧ e.minQuantity ≤ fluidDrawn e.fluid steps then
          { e with lastService := hour }
        else e

/-- A SERVICE record of an island's order with an end status and the step records at the end; a step that did not run is
recorded NOT_RUN with zero quantities (R25, R137). -/
def ServiceRecordOf (s : State) (i : IslandNo) (o : Order) (status : OrderEnd) (steps : List Step) (rec : ServiceRecord) :
    Prop :=
  rec.island = i ∧ rec.machine = o.machine ∧ rec.hour = o.hour ∧ rec.admissionClock = o.admissionClock
    ∧ rec.endClock = s.supply.clock ∧ rec.status = status ∧ rec.steps.length = steps.length
    ∧ ∀ (k : Nat) (st : Step) (w : StepRecord), steps[k]? = some st → rec.steps[k]? = some w →
        w.hose = st.hose ∧ w.tank = st.ctx.tank ∧ w.fluid = st.ctx.fluid ∧ w.kind = st.kind
        ∧ (st.state ≠ .ended → w.status = .notRun ∧ w.target = 0 ∧ w.gross = 0 ∧ w.net = 0)
        ∧ ∀ f e, st.state = .ended → st.final = some f → st.endStatus = some e →
            w.status = e ∧ w.target = st.target ∧ w.gross = f.gross ∧ w.net = f.net

/-- The hand-off of an ended order (R25): the island's slot is free, one SERVICE record of the order stands in its reserved
place, the island keeps its sequence number, the machine's account has taken the summary and the other accounts are as they
were, and the notices are those raised before it, HIGH_USE when the consumption gives it, JOURNAL_WAITING when the journal
held no record, and ORDER_ENDED for the island. `steps` are the step records at the end. -/
def HandedOff (s t : State) (i : IslandNo) (o : Order) (status : OrderEnd) (steps : List Step) (before : List Notice) :
    Prop :=
  t.orders = s.orders.put i none
    ∧ (∃ rec, t.journal = withRecord s.journal (o.clockNotSet || !s.supply.clockSet) (.service rec) 1
        ∧ ServiceRecordOf s i o status steps rec)
    ∧ t.islands = s.islands.modify i (fun k => { k with lastSeq := some s.journal.next })
    ∧ (∃ high : Bool,
        (∀ a, s.findAccount o.machine = some a → ∃ b, t.findAccount o.machine = some b
          ∧ AccountSettled s o.hour steps a b high)
        ∧ (s.findAccount o.machine = none → t.findAccount o.machine = none ∧ high = false)
        ∧ t.ports = raised s (before ++ noticeIf (high = true) (notice .highUse)
            ++ noticeIf (s.journal.records = []) (notice .journalWaiting) ++ [noticeAt .orderEnded i]))
    ∧ ∀ n, n ≠ o.machine → t.findAccount n = s.findAccount n

/-- An end status that is an error for a kind of step (R50). -/
abbrev ErrorFor (k : StepKind) (e : StepEnd) : Prop :=
  e = .notCoupled ∨ e = .noStock ∨ e = .noRoom ∨ e = .tankUnavailable ∨ e = .shutdown ∨ e = .driveAway ∨ e = .cancelled
    ∨ e = .reset ∨ ((e = .stopped ∨ e = .uncoupled ∨ e = .stalled) ∧ (k = .preset ∨ k = .presetRecover))

/-- An order that a stop, a cancel, a trip or a departure puts in ENDING: the status is recorded unless one is, the hold reason
is discarded, and its PENDING steps become NOT_RUN (R13, R18, R22, R23). -/
def endingOrder (status : OrderEnd) (o : Order) : Order :=
  { o with
    state := .ending, hold := none, endStatus := some (o.endStatus.getD status)
    steps := o.steps.map fun st => if st.state = .pending then { st with state := .notRun } else st }

/-! ## Steps in flight, closings and trips -/

/-- A step in flight: neither PENDING, ENDED nor NOT_RUN (R153). -/
abbrev InFlight (st : Step) : Prop := st.state ≠ .pending ∧ st.state ≠ .ended ∧ st.state ≠ .notRun

/-- A step lies on a scope object: the bay, its island, its captured tank or its hose (R153, R154). -/
abbrev OnObject (o : Scope) (r : StepRef) (st : Step) : Prop :=
  o = .bay ∨ o = .island r.island ∨ o = .tank st.ctx.tank ∨ o = .hose st.hose

/-- The capture of a new entry: the first step in flight on the object by island and list order, none when there is none
(R153). -/
def Captured (s : State) (o : Scope) (c : Option Capture) : Prop :=
  (c = none ↔ ¬ ∃ r st, HasStep s r st ∧ InFlight st ∧ OnObject o r st)
    ∧ ∀ x, c = some x → ∃ r st ord, s.orders.get r.island = some ord ∧ ord.steps[r.idx]? = some st
        ∧ InFlight st ∧ OnObject o r st
        ∧ x = { island := r.island, machine := ord.machine, index := r.idx + 1, hose := st.hose }
        ∧ ∀ q w, HasStep s q w → InFlight w → OnObject o q w →
            r.island < q.island ∨ (r.island = q.island ∧ r.idx ≤ q.idx)

/-- A pulse metered to a step: one factor more in the gross accumulator, one factor times C7 more in the net accumulator, each
saturating at its width, and the two temperature marks (R58, R59, R65). -/
def pulsed (st : Step) : Step :=
  { st with
    grossAcc := min 18446744073709551615 (st.grossAcc + st.ctx.factor)
    netAcc := min 4722366482869645213695 (st.netAcc + st.ctx.factor * st.c7)
    tempHeld := st.tempHeld || decide (st.tempSource ≠ .probe)
    tempClamped := st.tempClamped || st.clampedNow }

/-- A temperature clamped to -500 to +800 tenths of a degree (R61). -/
def clamped (x : Int) : Int := max (-500) (min 800 x)

/-- The correction factor C7 (R66). -/
def factorC7 (beta : Nat) (td : Int) : Nat := (10000000 - (beta : Int) * (td - 150)).toNat

/-- A step with a new temperature in force from a source (R62 to R66). -/
def withTemperature (src : TempSource) (x : Int) (st : Step) : Step :=
  { st with
    temp := clamped x, tempSource := src, clampedNow := decide (clamped x ≠ x), c7 := factorC7 st.ctx.beta (clamped x) }

/-- A leak watch after a fall of reserved: BUSY goes to WAITING when reserved is 0 and no receipt is open (R99). -/
def watchAtRest (minutes : Nat) (k : Tank) : Tank :=
  if k.leak = .busy ∧ k.reserved = 0 ∧ k.receipt = none then
    { k with leak := .waiting, quietTimer := some (minutes * 600), baseline := none }
  else k

/-- A channel whose step has ended (R49). -/
def freedChannel (k : Channel) : Channel :=
  { k with
    step := none, valve := .closed, coupleTimer := none, stallTimer := none, rateTimer := none, settleTimer := none
    windowCount := 0, flow := 0 }

/-- A charge to a tank's book: one that would carry it beyond a limit leaves it at that limit and sets the book-limit flag
(R94). -/
def bookCharged (x : Int) (k : Tank) : Tank :=
  if k.book + x < -2147483648 then { k with book := -2147483648, bookLimit := true }
  else if 2147483647 < k.book + x then { k with book := 2147483647, bookLimit := true }
  else { k with book := k.book + x }

/-- A tank after a step's end report: the target is no longer reserved, a draw lowers the book by the net and adds it to an open
receipt's drawn figure, a recovery raises the book by the net (R91). -/
def chargedTank (minutes : Nat) (st : Step) (net : Nat) (k : Tank) : Tank :=
  watchAtRest minutes
    (if st.kind = .preset ∨ st.kind = .openFill then
      { bookCharged (-(net : Int)) k with
        reserved := k.reserved - st.target, receipt := k.receipt.map fun r => { r with drawn := r.drawn + net } }
    else { bookCharged net k with reserved := k.reserved - st.target })

/-- A tank after steps have ended that charge nothing: their targets are no longer reserved (R47, R91). -/
def releasedTank (minutes : Nat) (steps : List Step) (k : Tank) : Tank :=
  steps.foldl (fun m st => chargedTank minutes st 0 m) k

/-- Another step of the order's current group is neither ENDED nor NOT_RUN: the end of this one does not end the group. -/
def GroupGoesOn (o : Order) (idx : Nat) : Prop :=
  ∃ k st, k ≠ idx ∧ o.steps[k]? = some st ∧ groupOf o.steps k = o.group ∧ st.state ≠ .ended ∧ st.state ≠ .notRun

/-- A gauge figure of a strapping table: the first volume below the first point and the last above the last, both with the range
flag; between two neighbouring points their volumes interpolated and truncated (R96, step 1). -/
def Gauged (points : List StrapPoint) (level gross : Nat) (range : Bool) : Prop :=
  (∀ p ∈ points.head?, level < p.level → gross = p.volume ∧ range = true)
    ∧ (∀ p ∈ points.getLast?, p.level < level → gross = p.volume ∧ range = true)
    ∧ ∀ (k : Nat) (p q : StrapPoint), points[k]? = some p → points[k + 1]? = some q → p.level ≤ level → level ≤ q.level →
        gross = p.volume + (q.volume - p.volume) * (level - p.level) / (q.level - p.level) ∧ range = false

/-! ## Starts, claims and entries to RUNNING -/

/-- A step of an accepted body as it is admitted: PENDING, with the kind, hose, tank, preset and flags the body gives and the
context captured from the configuration in force (R2, R5, R6). -/
def AdmittedStep (s : State) (a : Account) (x : AdmitStep) (st : Step) : Prop :=
  let c := s.cfg.hoses.get st.hose
  let e := s.cfg.fluids.get st.ctx.fluid
  StepNames s x st.kind st.hose st.ctx.tank ∧ st.state = .pending ∧ st.preset = (if x.preset = 0 then none else some x.preset)
    ∧ st.isParallel = x.flags.getLsbD 0 ∧ st.holdBefore = x.flags.getLsbD 1 ∧ st.stopOnError = x.flags.getLsbD 2
    ∧ st.ctx = { st.ctx with
        fluid := (s.cfg.tanks.get st.ctx.tank).fluid, fluidKind := e.kind, beta := e.beta, factor := c.factor
        slowDown := c.slowDown, stallTime := c.stallTime, settleTime := c.settleTime, maxPulses := c.maxPulses
        runOnLimit := c.runOnLimit, coupleWait := c.coupleWait, stepLimit := c.stepLimit
        capacityBound := if (st.kind = .preset ∨ st.kind = .openFill) ∧ e.kind = .fuel ∧ a.capacity ≠ 0 then some a.capacity
          else none }

/-- The account of an accepted admission, before and after: in use by the island, the hour reading taken by R116. -/
def ReadingTaken (s : State) (i : IslandNo) (hour : Option Nat) (a b : Account) : Prop :=
  b = { a with inUse := some i, state := b.state, lastHours := b.lastHours, reviewHours := b.reviewHours }
    ∧ match hour with
      | none => b.state = a.state ∧ b.lastHours = a.lastHours ∧ b.reviewHours = a.reviewHours
      | some x =>
        (a.state = .review →
          b.state = .review ∧ b.lastHours = a.lastHours ∧ b.reviewHours = some (max (a.reviewHours.getD 0) x))
        ∧ (a.state = .active → (∃ y, a.lastHours = some y ∧ s.cfg.jumpLimit < x - y) →
          b.state = .review ∧ b.lastHours = a.lastHours ∧ b.reviewHours = some x)
        ∧ (a.state = .active → (∀ y, a.lastHours = some y → x - y ≤ s.cfg.jumpLimit) →
          b.state = .active ∧ b.lastHours = some x ∧ b.reviewHours = a.reviewHours)

/-- A step as its start leaves it: WAITING_COUPLE with nothing metered, and its temperature in force from the captured tank's
valid gauge reading, 15.0 degrees without one (R11, R30, R59, R62). -/
def startedStep (s : State) (st : Step) : Step :=
  let g := (s.tanks.get st.ctx.tank).gauge
  let fresh := { st with
    state := .waitingCouple, suspension := none, target := 0, limitedBy := .unbounded, grossAcc := 0, netAcc := 0
    netAtClose := none, endStatus := none, tempHeld := false, tempClamped := false, cause := none, runOnReported := false }
  if g.valid then withTemperature .gauge g.temp fresh else withTemperature .standard 150 fresh

/-- A channel that takes a started step: the reference, the couple-wait timer, the stray reset (R30, R52, R69). -/
def startedChannel (r : StepRef) (st : Step) (k : Channel) : Channel :=
  { k with
    step := some r, coupleTimer := some (st.ctx.coupleWait * 10), strayCount := 0, strayReported := false, strayTimer := none
    strayAcc := 0, strayCharged := 0 }

/-- The steps of a group of an order stand at uncoupled hoses, one each, and no entry covers one (R11). -/
def GroupFree (s : State) (i : IslandNo) (o : Order) (g : Nat) : Prop :=
  ∀ (k : Nat) (st : Step), o.steps[k]? = some st → groupOf o.steps k = g →
    (s.hoses.get st.hose).coupled = false ∧ ¬ Covered s ⟨i, k⟩ st
    ∧ ∀ (j : Nat) (w : Step), j ≠ k → o.steps[j]? = some w → groupOf o.steps j = g → w.hose ≠ st.hose

/-- A group of an island's order has been started, each step at its hose and no other (R9, R11, R30). -/
def GroupStarted (s t : State) (i : IslandNo) (o : Order) (g : Nat) : Prop :=
  t.orders = putOrder s i { o with
      group := g, steps := o.steps.mapIdx fun k st => if groupOf o.steps k = g then startedStep s st else st }
    ∧ (∀ (k : Nat) (st : Step), o.steps[k]? = some st → groupOf o.steps k = g →
        t.hoses.get st.hose = startedChannel ⟨i, k⟩ st (s.hoses.get st.hose))
    ∧ ∀ h, (∀ (k : Nat) (st : Step), o.steps[k]? = some st → groupOf o.steps k = g → st.hose ≠ h) →
        t.hoses.get h = s.hoses.get h

/-- A step that enters RUNNING does so at low flow (R35). -/
abbrev RunsLow (st : Step) : Prop :=
  st.ctx.slowDown = 0 ∨ st.target ≤ st.ctx.slowDown ∨ st.target - st.ctx.slowDown ≤ netOf st

/-- A step of less than its target on entry to RUNNING (R35). -/
def enteredStep (st : Step) : Step :=
  { st with state := if RunsLow st then .runningSlow else .runningFast, suspension := none }

/-- The channel of a step on entry to RUNNING: the valve open, the stall timer and a new rate window (R35). -/
def enteredChannel (st : Step) (k : Channel) : Channel :=
  { k with
    valve := if RunsLow st then .low else .full
    coupleTimer := none, settleTimer := none, strayTimer := none
    stallTimer := some (st.ctx.stallTime * 10), rateTimer := some 10, windowCount := 0, flow := 0 }

/-- What a step wants of its tank: the least of the preset, the hose step limit and the capacity bound that apply, with the
first that gives it, the preset having no limit of its own (R31). -/
def Wants (st : Step) (amount : Nat) (limit : LimitedBy) : Prop :=
  amount ≤ st.ctx.stepLimit ∧ (∀ p, st.preset = some p → amount ≤ p) ∧ (∀ c, st.ctx.capacityBound = some c → amount ≤ c)
    ∧ ((st.preset = some amount ∧ limit = .unbounded)
      ∨ (st.preset ≠ some amount ∧ amount = st.ctx.stepLimit ∧ limit = .hoseLimit)
      ∨ (st.preset ≠ some amount ∧ amount ≠ st.ctx.stepLimit ∧ st.ctx.capacityBound = some amount
          ∧ limit = .machineCapacity))

/-- A step that ended with a status that is an error for its kind (R24, R50). -/
def endedInError (st : Step) : Bool :=
  decide (st.state = .ended) && match st.endStatus with
    | some e => decide (ErrorFor st.kind e)
    | none => false

/-- What a tank can give to a draw, or take from a recovery (R87). -/
def quantityFor (s : State) (st : Step) : Int :=
  let k := s.tanks.get st.ctx.tank
  let c := s.cfg.tanks.get st.ctx.tank
  if st.kind = .preset ∨ st.kind = .openFill then k.book - k.reserved - c.lowLimit else c.highLimit - k.book - k.reserved

/-- The entry that covers a step, looked for at its hose, its island, its captured tank and the bay in that order (R154). -/
def coveringEntry (s : State) (r : StepRef) (st : Step) : Option Entry :=
  ((s.entryAt (.hose st.hose)).or (s.entryAt (.island r.island))).or
    ((s.entryAt (.tank st.ctx.tank)).or (s.entryAt .bay))

/-! ## Resumption and departure -/

/-- A step SUSPENDED(POWER) that is told to resume: it waits for its island, runs on at its coupled hose, or waits for a
coupling (R46). -/
def resumedStep (s : State) (i : IslandNo) (st : Step) : Step :=
  if (s.islands.get i).presence ≠ .present then { st with suspension := some .presence }
  else if (s.hoses.get st.hose).coupled then enteredStep st
  else { st with state := .waitingCouple, suspension := none }

/-- The channel of such a step (R46). -/
def resumedChannel (s : State) (i : IslandNo) (st : Step) (k : Channel) : Channel :=
  if (s.islands.get i).presence ≠ .present then k
  else if k.coupled then enteredChannel st k
  else { k with coupleTimer := some (st.ctx.coupleWait * 10) }

/-! ## Closings and step ends -/

/-- The run-on of a step goes beyond its limit for the first time: its reported net less its net at valve close (R42). -/
def runsOn (st : Step) : Bool :=
  !st.runOnReported && decide (st.ctx.runOnLimit < netOf st - st.netAtClose.getD (netOf st))

/-- A step after its entry to SETTLING with its own end status, or with that of the closing, net at valve close kept and the
run-on checked (R40, R42, R44, R47); the suspension reason is log entry 34. -/
def settledFrom (status : StepEnd) (st : Step) : Step :=
  { st with
    state := .settling, endStatus := some (st.endStatus.getD status), suspension := none
    runOnReported := st.runOnReported || runsOn st }

/-- A RUNNING, SUSPENDED or SETTLING step that is closed with a status: the first two settle, the RUNNING one with its reported
net as net at valve close, the last is unchanged (R18, R22, R36, R40, R47). -/
def closedStep (status : StepEnd) (st : Step) : Step :=
  if Running st then settledFrom status { st with netAtClose := some (netOf st) }
  else if st.state = .suspended then settledFrom status st
  else st

/-- What limited a step that has ended: as at its claim, or, of a step without a target, the bound that gives what it wants (which
of the two is log entry 17). -/
def EndLimit (st : Step) (limit : LimitedBy) : Prop :=
  (st.target ≠ 0 → limit = st.limitedBy) ∧ (st.target = 0 → ∃ amount, Wants st amount limit)

/-- A step as its end from WAITING_COUPLE leaves it: ENDED with the status and the cause of the event, nothing metered, and its
target as residue (R47); the suspension reason is log entry 34. -/
def EndedWaiting (status : StepEnd) (cause : Option Cause) (st w : Step) : Prop :=
  EndLimit st w.limitedBy ∧ w = { st with
    state := .ended, endStatus := some status, limitedBy := w.limitedBy, suspension := none, cause := cause
    final := some { gross := 0, net := 0, overrun := 0, residue := st.target } }

/-- A step of an order that is closed with a status: one in WAITING_COUPLE ends at once (R18, R22, R47). -/
def Closed (status : StepEnd) (st w : Step) : Prop :=
  if st.state = .waitingCouple then EndedWaiting status none st w else w = closedStep status st

/-- The channel of a started step that is closed (R39, R41, R47, R49). -/
def closedChannel (st : Step) (k : Channel) : Channel :=
  if st.state = .waitingCouple then freedChannel k
  else if st.state = .settling then k
  else settlingChannel st.ctx.settleTime k

/-- The run-ons that the closing of steps reports, in their order (R42). -/
def runOnsOf (steps : List Step) : List Report :=
  (steps.filter fun st => decide (st.state = .suspended) && runsOn st).map fun st => .runOn st.hose

/-- Two lists of steps agree place by place in a relation. -/
def StepByStep (rel : Step → Step → Prop) (l m : List Step) : Prop :=
  m.length = l.length ∧ ∀ (k : Nat) (st w : Step), l[k]? = some st → m[k]? = some w → rel st w

/-- The steps in flight of an island's order stand each at its own hose (R29). -/
def AtTheirHoses (s : State) (i : IslandNo) : Prop :=
  ∀ k st, HasStep s ⟨i, k⟩ st → InFlight st → StepOfHose s st.hose ⟨i, k⟩ st

/-- A cancel or a departure at an island's order: it is put in ENDING with the status unless one is recorded, each of its started
steps is closed, those in WAITING_COUPLE end at once and give back what they have reserved, and an order without a started step
left is handed off (R18, R22, R24, R25, R47). -/
def OrderClosed (s t : State) (i : IslandNo) (o : Order) (status : OrderEnd) (e : StepEnd) : Prop :=
  let waiting := o.steps.filter fun st => decide (st.state = .waitingCouple)
  let ends := waiting.map fun _ => noticeAt .stepEnded i
  ∃ steps, StepByStep (Closed e) (endingOrder status o).steps steps
    ∧ (∀ k, t.tanks.get k = releasedTank (s.cfg.tanks.get k).quietTime
        (waiting.filter fun st => decide (st.ctx.tank = k)) (s.tanks.get k))
    ∧ (∀ k st, HasStep s ⟨i, k⟩ st → InFlight st → t.hoses.get st.hose = closedChannel st (s.hoses.get st.hose))
    ∧ (∀ h, (∀ k st, HasStep s ⟨i, k⟩ st → InFlight st → st.hose ≠ h) → t.hoses.get h = s.hoses.get h)
    ∧ OutputsFollow s t
    ∧ t = { s with
        orders := t.orders, hoses := t.hoses, tanks := t.tanks, journal := t.journal, islands := t.islands
        accounts := t.accounts, reports := s.reports ++ runOnsOf o.steps, ports := t.ports, shut := t.shut }
    ∧ ((∃ w ∈ steps, InFlight w) →
        t.orders = putOrder s i { endingOrder status o with steps } ∧ t.journal = s.journal ∧ t.islands = s.islands
          ∧ t.accounts = s.accounts ∧ t.ports = raised s ends)
    ∧ ((∀ w ∈ steps, ¬ InFlight w) → HandedOff s t i o (o.endStatus.getD status) steps ends)

/-- A SETTLING step as its end leaves it: ENDED with the status of its closing and its metered figures (R41, R49). -/
def endedStep (st : Step) : Step :=
  { st with
    state := .ended, suspension := none
    final := some { gross := grossOf st, net := netOf st, overrun := netOf st - st.target, residue := st.target - netOf st } }

/-- A request or an event gives `t`, a request with its answer beside. -/
def Gives (c : Instr) (s t : State) : Prop :=
  match c with
  | .stepStop l tag _ => Replies c s t l tag .stepStop .ok .nothing
  | .tripHose l tag _ => Replies c s t l tag .tripHose .ok (.trip .new .linkTrip 0)
  | .tripTank l tag _ => Replies c s t l tag .tripTank .ok (.trip .new .linkTrip 0)
  | _ => exec c s = .next t

/-- A command carries the trip of a report out, in the state `b`: a SHUTDOWN_REPORT whose cause has the action TRIP, or a TRIP_HOSE
or TRIP_TANK (R150, R163). -/
def TripCommand (s : State) (c : Instr) (r : Report) (b : State) : Prop :=
  (c = .shutdownReport r ∧ s.actionOf (reportCause r) = .trip ∧ b = { s with reports := s.reports.erase r })
    ∨ (∃ l tag, ∃ h : HoseNo, c = .tripHose l tag (.fields h.val) ∧ Admissible s l .tripHose c ∧ r = .linkTrip (.hose h) l
        ∧ b = s)
    ∨ ∃ l tag, ∃ k : TankNo, c = .tripTank l tag (.fields k.val) ∧ Admissible s l .tripTank c ∧ r = .linkTrip (.tank k) l
        ∧ b = s

/-- A hose or tank trip whose one step in flight is a hose's: no entry stands for the object, no other hose holds a step on it, and
at the other islands no order in ENDING is without a step in flight (R153 to R155). -/
def TripsOne (s : State) (h : HoseNo) (r : StepRef) (st : Step) (o : Scope) : Prop :=
  (o = .hose h ∨ o = .tank st.ctx.tank) ∧ s.entryAt o = none
    ∧ (∀ q w, HasStep s q w → InFlight w → OnObject o q w → q = r)
    ∧ (∀ x q w, (s.hoses.get x).step = some q → HasStep s q w → OnObject o q w → x = h)
    ∧ ∀ i p, i ≠ r.island → s.orders.get i = some p → p.state = .ending → ∃ w ∈ p.steps, InFlight w

/-- The map with the entry of such a trip (R153). -/
def tripEntered (s : State) (r : StepRef) (st : Step) (machine : Nat) (rep : Report) : State :=
  { s with shut := { s.shut with map := s.shut.map.put (reportObject rep).code (some
      { firstCause := reportCause rep, origin := reportOrigin rep, clock := s.supply.clock
        clockNotSet := !s.supply.clockSet, repeats := 0
        capture := some { island := r.island, machine := machine, index := r.idx + 1, hose := st.hose } }) } }

/-- A command ends a hose's step with a status, a net and a step record, in the state `b`, with the notices `first` raised before
STEP_ENDED: the couple-wait timer, STEP_STOP or a trip ends a waiting step, NOT_COUPLED, STOPPED or SHUTDOWN, with nothing
metered; the settle timer ends a SETTLING step (R34, R40, R41, R47, R48). -/
def EndsBy (s : State) (h : HoseNo) (r : StepRef) (st : Step) (machine : Nat) (c : Instr) (b : State) (first : List Notice)
    (e : StepEnd) (net : Nat) (u : Step) : Prop :=
  (c = .coupleWaitExpiry h ∧ st.state = .waitingCouple ∧ (s.hoses.get h).coupleTimer ≠ none ∧ b = s ∧ first = []
      ∧ e = .notCoupled ∧ net = 0 ∧ EndedWaiting e none st u)
    ∨ (c = .settleTimerExpiry h ∧ st.state = .settling ∧ (s.hoses.get h).settleTimer ≠ none ∧ b = s ∧ first = []
      ∧ st.endStatus = some e ∧ net = netOf st ∧ EndLimit st u.limitedBy
      ∧ u = { endedStep st with limitedBy := u.limitedBy })
    ∨ ((∃ l tag, c = .stepStop l tag (.fields ⟨r.island.val, r.idx + 1⟩) ∧ r.idx < 8 ∧ Admissible s l .stepStop c)
      ∧ st.state = .waitingCouple ∧ b = s ∧ first = [] ∧ e = .stopped ∧ net = 0 ∧ EndedWaiting e none st u)
    ∨ ∃ rep b', TripCommand s c rep b' ∧ TripsOne s h r st (reportObject rep) ∧ st.state = .waitingCouple
      ∧ b = tripEntered b' r st machine rep ∧ first = [notice .trip] ∧ e = .shutdown ∧ net = 0
      ∧ EndedWaiting e (some (reportCause rep)) st u

/-! ## Trips -/

/-- A step in flight as a trip of its object leaves it (R48). -/
def TrippedStep (cause : Cause) (st w : Step) : Prop :=
  if st.state = .waitingCouple then EndedWaiting .shutdown (some cause) st w
  else if Running st ∨ st.state = .suspended then
    w = { closedStep .shutdown st with cause := if st.endStatus = none then some cause else some (st.cause.getD cause) }
  else if st.state = .settling then w = { st with cause := some (st.cause.getD cause) }
  else w = st

/-- An order as the trip order of an island or the bay leaves it; another trip does not reach it (R23, R156). -/
def trippedOrder (o : Scope) (i : IslandNo) (ord : Order) : Order :=
  if (o = .bay ∨ o = .island i) ∧ ord.state ≠ .ending then endingOrder .shutdown ord else ord

/-- The steps on an object, by ascending hose. -/
def stepsOn (s : State) (o : Scope) : List (StepRef × Step) :=
  (List.finRange 16).filterMap fun h => (s.hoseStep h).filter fun p => decide (OnObject o p.1 p.2)

/-- Those of them that a trip ends at once. -/
def waitingOn (s : State) (o : Scope) : List (StepRef × Step) :=
  (stepsOn s o).filter fun p => decide (p.2.state = .waitingCouple)

/-- Each step in flight on an object stands at its own hose, and each hose that holds a step on it holds its own (R29). -/
def HosesAgree (s : State) (o : Scope) : Prop :=
  (∀ q st, HasStep s q st → InFlight st → OnObject o q st → StepOfHose s st.hose q st)
    ∧ ∀ h q st, (s.hoses.get h).step = some q → HasStep s q st → OnObject o q st → st.hose = h

/-- The channels and the tanks after a trip: the steps in flight on the object are closed, and the waiting ones give back what
they have reserved (R47, R48, R91). -/
def TripTaken (s t : State) (o : Scope) : Prop :=
  (∀ q st, HasStep s q st → InFlight st → OnObject o q st → t.hoses.get st.hose = closedChannel st (s.hoses.get st.hose))
    ∧ (∀ h, (∀ q st, HasStep s q st → InFlight st → OnObject o q st → st.hose ≠ h) → t.hoses.get h = s.hoses.get h)
    ∧ ∀ k, t.tanks.get k = releasedTank (s.cfg.tanks.get k).quietTime
        (((waitingOn s o).map (·.2)).filter fun st => decide (st.ctx.tank = k)) (s.tanks.get k)

/-- The steps of an order that a trip reaches (R48). -/
def OrderTripped (o : Scope) (cause : Cause) (i : IslandNo) (before after : List Step) : Prop :=
  after.length = before.length ∧ ∀ (k : Nat) (st w : Step), before[k]? = some st → after[k]? = some w →
    if OnObject o ⟨i, k⟩ st then TrippedStep cause st w else w = st

/-- No order ends with the trip of an object, and none starts a group: an order that is put in ENDING, or is there, keeps a started
step; another that loses a waiting step to the trip is ACTIVE or HELD, goes on with its group, and is not stopped (R12, R13,
R23). -/
def OrdersGoOn (s : State) (o : Scope) : Prop :=
  ∀ i ord, s.orders.get i = some ord →
    let stays (k : Nat) (st : Step) := ord.steps[k]? = some st ∧ ¬ (OnObject o ⟨i, k⟩ st ∧ st.state = .waitingCouple)
    ((ord.state = .ending ∨ o = .bay ∨ o = .island i) → ∃ k st, stays k st ∧ InFlight st)
    ∧ (ord.state ≠ .ending → o ≠ .bay → o ≠ .island i →
        ∀ (n : Nat) (w : Step), ord.steps[n]? = some w → OnObject o ⟨i, n⟩ w → w.state = .waitingCouple →
          (ord.state = .active ∨ ord.state = .held) ∧ w.stopOnError = false
          ∧ ∃ k st, stays k st ∧ groupOf ord.steps k = ord.group ∧ st.state ≠ .ended ∧ st.state ≠ .notRun)

/-- A trip of an object that was not latched (R155): the new entry with its capture, the other entries as they were, the outputs
following, nothing taken off the way to the shutdown unit. The steps in flight on the object are closed at their hoses: RUNNING
and SUSPENDED ones settle SHUTDOWN or with their own status, SETTLING ones take the cause, waiting ones end SHUTDOWN at once
(R48). Where no order ends with it, TRIP and the STEP_ENDED of the steps that ended are the notices, and nothing else changes. An
order of the tripped island, or the only one of the tripped bay, that no step in flight but waiting ones keeps alive, is handed
off SHUTDOWN, or with the status it has recorded (R23). -/
def Tripped (s t : State) (r : Report) : Prop :=
  let o := reportObject r
  (∃ e, t.entryAt o = some e ∧ Captured s o e.capture
      ∧ e = { firstCause := reportCause r, origin := reportOrigin r, clock := s.supply.clock,
              clockNotSet := !s.supply.clockSet, capture := e.capture, repeats := 0 })
    ∧ (∀ x, x ≠ o → t.entryAt x = s.entryAt x)
    ∧ OutputsFollow { s with shut := { s.shut with map := t.shut.map } } t
    ∧ t.cfg = s.cfg ∧ t.supply = s.supply ∧ t.pins = s.pins ∧ (∃ later, t.reports = s.reports ++ later)
    ∧ (s.ends = [] → BooksLaw s → HosesAgree s o →
        let reports := s.reports ++ runOnsOf ((stepsOn s o).map (·.2))
        (OrdersGoOn s o → TripTaken s t o
          ∧ t = { s with
              orders := t.orders, hoses := t.hoses, tanks := t.tanks, reports := reports, shut := t.shut
              ports := raised s (notice .trip :: (waitingOn s o).map fun p => noticeAt .stepEnded p.1.island) }
          ∧ ∀ i, (s.orders.get i = none → t.orders.get i = none)
            ∧ ∀ ord, s.orders.get i = some ord → ∃ steps,
                t.orders.get i = some { trippedOrder o i ord with steps }
                  ∧ OrderTripped o (reportCause r) i (trippedOrder o i ord).steps steps)
        ∧ ∀ i ord, (o = .island i ∨ o = .bay) → s.orders.get i = some ord →
            (ord.state = .ending → ord.endStatus ≠ none ∧ ∀ st ∈ ord.steps, st.state ≠ .pending) →
            (∀ st ∈ ord.steps, InFlight st → st.state = .waitingCouple) →
            (∀ j p, j ≠ i → s.orders.get j = some p →
              o = .island i ∧ (p.state = .ending → ∃ w ∈ p.steps, InFlight w)) →
            ∃ steps, OrderTripped o (reportCause r) i (trippedOrder o i ord).steps steps ∧ TripTaken s t o
              ∧ HandedOff s t i ord (ord.endStatus.getD .shutdown) steps
                  (notice .trip :: (waitingOn s o).map fun p => noticeAt .stepEnded p.1.island)
              ∧ t = { s with
                  orders := t.orders, hoses := t.hoses, tanks := t.tanks, journal := t.journal, islands := t.islands
                  accounts := t.accounts, ports := t.ports, shut := t.shut, reports := reports })

/-! ## Leaving, return and supply warning -/

/-- A hose holds a reference to a step (R29). -/
def Refers (s : State) (h : HoseNo) (r : StepRef) (st : Step) : Prop := (s.hoses.get h).step = some r ∧ HasStep s r st

/-- A RUNNING step that is suspended for a reason (R43, R45). -/
def suspendedStep (reason : SuspendReason) (st : Step) : Step :=
  { st with state := .suspended, netAtClose := some (netOf st), suspension := some reason }

/-- A channel whose RUNNING step is suspended (R39, R43, R45). -/
def suspendedChannel (k : Channel) : Channel :=
  { k with valve := .closed, stallTimer := none, rateTimer := none, windowCount := 0, flow := 0 }

/-- A started step that takes the power-fail warning (R45). -/
def warnedStep (st : Step) : Step :=
  if Running st then suspendedStep .power st
  else if st.state = .suspended ∨ st.state = .waitingCouple then { st with suspension := some .power }
  else st

/-- The orders after an event at the channels of some hoses: each step that one of them refers to has taken it, and nothing else
of the orders changes but what `p` does to each. -/
def OrdersTook (s t : State) (hoses : HoseNo → Prop) (took : Step → Step) (p : IslandNo → Order → Order) : Prop :=
  ∀ i, (s.orders.get i = none → t.orders.get i = none)
    ∧ ∀ o, s.orders.get i = some o → ∃ steps, t.orders.get i = some { p i o with steps } ∧ steps.length = o.steps.length
      ∧ ∀ (k : Nat) (st w : Step), o.steps[k]? = some st → steps[k]? = some w →
          ((∃ h, hoses h ∧ Refers s h ⟨i, k⟩ st) → w = took st) ∧ ((∀ h, hoses h → ¬ Refers s h ⟨i, k⟩ st) → w = st)

/-- The hose of a RUNNING step that one of some hoses refers to. -/
def RunsAt (s : State) (hoses : HoseNo → Prop) (h : HoseNo) : Prop :=
  ∃ x r st, hoses x ∧ Refers s x r st ∧ Running st ∧ st.hose = h

/-- An order that takes the power-fail warning (R20). -/
def warnedOrder (o : Order) : Order :=
  if o.state = .ending then o
  else { o with
    state := if o.steps.any (fun st => decide (st.state = .settling)) then .holdPending else .held, hold := some .power }

/-- The orders that go to HELD at the power-fail warning, and were not there (R20). -/
def newlyHeld (s : State) : List IslandNo :=
  (List.finRange 4).filter fun i => match s.orders.get i with
    | none => false
    | some o => decide (o.state ≠ .ending ∧ o.state ≠ .held) && !o.steps.any fun st => decide (st.state = .settling)

/-- An island enters PRESENT, from LEAVING by its detector or from ARRIVING by its debounce, in the state `b` (R75, R76, R78). -/
def Arrives (s : State) (i : IslandNo) (c : Instr) (b : State) : Prop :=
  (c = .detectorAsserted i ∧ (s.islands.get i).level = false ∧ (s.islands.get i).presence = .leaving
      ∧ b = { s with
          pins := { s.pins with detectors := s.pins.detectors.put i true }
          islands := s.islands.modify i fun k => { k with level := true, presence := .present, timer := none } })
    ∨ (c = .arrivalDebounceExpiry i ∧ (s.islands.get i).presence = .arriving ∧ (s.islands.get i).timer ≠ none
      ∧ b = { s with islands := s.islands.modify i fun k => { k with presence := .present, timer := none } })

/-- A step that enters RUNNING at its coupled hose, or settles COMPLETE when its reported net reaches its target (R35). -/
def arrivedStep (st : Step) : Step :=
  if st.target ≤ netOf st then settledFrom .complete { st with netAtClose := some (st.netAtClose.getD (netOf st)) }
  else enteredStep st

/-- A step that an entry to PRESENT moves: SUSPENDED(PRESENCE), or waiting at its coupled hose with a reservation while the supply
is NORMAL and no power pause holds it (R32, R44). -/
abbrev MovesAt (s : State) (st : Step) : Prop :=
  (st.state = .suspended ∧ st.suspension = some .presence)
    ∨ (st.state = .waitingCouple ∧ st.suspension ≠ some .power ∧ (s.hoses.get st.hose).coupled = true
        ∧ s.supply.state = .normal ∧ 0 < st.target)

/-- Such a step after the entry to PRESENT, and its channel (R44). -/
def returnedStep (s : State) (st : Step) : Step :=
  if st.state = .suspended ∧ (st.endStatus ≠ none ∨ (s.hoses.get st.hose).coupled = false) then settledFrom .uncoupled st
  else arrivedStep st

def returnedChannel (s : State) (st : Step) (k : Channel) : Channel :=
  if (returnedStep s st).state = .settling then settlingChannel st.ctx.settleTime k else enteredChannel st k

/-- A step at a hose of an island that claims on the entry to PRESENT (R32, R44). -/
def ClaimsAt (s : State) (i : IslandNo) (h : HoseNo) (r : StepRef) (st : Step) : Prop :=
  (s.cfg.hoses.get h).island = i ∧ Refers s h r st ∧ st.state = .waitingCouple ∧ st.suspension ≠ some .power
    ∧ (s.hoses.get h).coupled = true ∧ s.supply.state = .normal ∧ st.target = 0

/-- The hoses configured to an island that refer to a step refer each to a step of its own in that island's order (R29). -/
def IslandAgrees (s : State) (i : IslandNo) : Prop :=
  ∀ h r st, (s.cfg.hoses.get h).island = i → Refers s h r st → st.hose = h ∧ r.island = i

/-- The state with the island's steps returned, but for those that claim (R44). -/
def Returned (s t : State) (i : IslandNo) : Prop :=
  let moves (h : HoseNo) (r : StepRef) (st : Step) := (s.cfg.hoses.get h).island = i ∧ Refers s h r st ∧ MovesAt s st
  (∀ h r st, moves h r st → t.hoses.get h = returnedChannel s st (s.hoses.get h))
    ∧ (∀ h, (∀ r st, ¬ moves h r st) → t.hoses.get h = s.hoses.get h)
    ∧ (∀ j, j ≠ i → t.orders.get j = s.orders.get j)
    ∧ (s.orders.get i = none → t.orders.get i = none)
    ∧ (∀ o, s.orders.get i = some o → ∃ steps, t.orders.get i = some { o with steps } ∧ steps.length = o.steps.length
        ∧ ∀ (k : Nat) (st w : Step), o.steps[k]? = some st → steps[k]? = some w →
            ((∃ h, moves h ⟨i, k⟩ st) → w = returnedStep s st) ∧ ((∀ h, ¬ moves h ⟨i, k⟩ st) → w = st))
    ∧ t = { s with
        hoses := t.hoses, orders := t.orders
        reports := s.reports ++ (List.finRange 16).filterMap fun h => match s.hoseStep h with
          | some (_, st) =>
            if (s.cfg.hoses.get h).island = i ∧ MovesAt s st ∧ (returnedStep s st).state = .settling ∧ runsOn st = true then
              some (.runOn h)
            else none
          | none => none }

/-- A waiting step without a reservation claims in `s`, which gives `t`, the step wanting `amount` of its tank: the outcome by R32,
R33, R87 and R88. A step whose claim is refused ends at once; that is all where its order `goesOn`. -/
def ClaimTaken (s t : State) (h : HoseNo) (r : StepRef) (st : Step) (amount : Nat) (limit : LimitedBy)
    (goesOn : Order → Prop) : Prop :=
  let k := st.ctx.tank
  let c := s.cfg.tanks.get k
  let draw := st.kind = .preset ∨ st.kind = .openFill
  let quantity := quantityFor s st
  let enough : Prop := 1 ≤ quantity ∧ (c.minStart : Int) ≤ quantity
  let granted (q : Nat) (by' : LimitedBy) : Prop :=
    let w : Step := { st with target := q, limitedBy := by' }
    let reserved (x : Tank) : Tank :=
      { x with reserved := x.reserved + q, leak := .busy, quietTimer := none, baseline := none }
    t = { s with
      hoses := s.hoses.modify h (enteredChannel w)
      orders := putStep s r (enteredStep w)
      tanks := s.tanks.modify k reserved
      ports := raised s (noticeIf (lowPassed c (s.tanks.get k) (reserved (s.tanks.get k))) (notice .tankLow))
      shut := t.shut }
  let refused (e : StepEnd) (cause : Option Cause) : Prop :=
    let freed := chargedTank c.quietTime st 0
    ∀ o, s.orders.get r.island = some o → goesOn o →
    t = { s with
      hoses := s.hoses.modify h freedChannel
      orders := putStep s r { st with
        state := .ended, endStatus := some e, limitedBy := limit, suspension := none, cause := cause
        final := some { gross := 0, net := 0, overrun := 0, residue := 0 } }
      tanks := s.tanks.modify k freed
      ports := raised s
        (noticeIf (lowPassed c (s.tanks.get k) (freed (s.tanks.get k))) (notice .tankLow) ++ [noticeAt .stepEnded r.island])
      shut := t.shut }
  (∀ e, coveringEntry s r st = some e → refused .shutdown (some e.firstCause))
    ∧ (¬ Covered s r st →
        ((s.tanks.get k).state = .outOfService → refused .tankUnavailable none)
        ∧ ((s.tanks.get k).state ≠ .outOfService →
            ((amount : Int) ≤ quantity → granted amount limit)
            ∧ (quantity < amount → enough → granted quantity.toNat (if draw then .stock else .room))
            ∧ (quantity < amount → ¬ enough → refused (if draw then .noStock else .noRoom) none)))

/-! ## Start-up -/

/-- What a restored step becomes: a started one SUSPENDED(POWER), or WAITING_COUPLE and power-paused, its net at valve close
recorded and a probe temperature held (R27, R72). -/
def restoredStep (st : Step) : Step :=
  if InFlight st then
    { st with
      state := if st.state = .waitingCouple then .waitingCouple else .suspended
      suspension := some .power
      netAtClose := if Running st then some (netOf st) else st.netAtClose
      tempSource := if st.tempSource = .probe then .probeHeld else st.tempSource }
  else st

/-- A hose's configuration with the island of an order and the hose values of a step context (R189). -/
def adoptedCfg (i : IslandNo) (x : StepContext) (c : HoseCfg) : HoseCfg :=
  { c with
    island := i, tank := some x.tank, factor := x.factor, slowDown := x.slowDown, stallTime := x.stallTime
    settleTime := x.settleTime, maxPulses := x.maxPulses, runOnLimit := x.runOnLimit, coupleWait := x.coupleWait
    stepLimit := x.stepLimit }

/-- A step of an active order that is neither ENDED nor NOT_RUN (R55, R85). -/
def HasLive (s : State) (r : StepRef) (st : Step) : Prop := HasStep s r st ∧ st.state ≠ .ended ∧ st.state ≠ .notRun

/-- The hoses of the working configuration after the stages 3 and 4 of a start-up with retention kept: as loaded, but that a
hose named by a live step takes that step's values (R189). -/
def HosesAdopted (s : State) (loaded got : Settings) : Prop :=
  ∀ h, ((∀ r st, HasLive s r st → st.hose ≠ h) → got.hoses.get h = loaded.hoses.get h)
    ∧ ∀ r st, HasLive s r st → st.hose = h →
        (∀ q w, HasLive s q w → w.hose = h → q.island = r.island ∧ w.ctx = st.ctx) →
        got.hoses.get h = adoptedCfg r.island st.ctx (loaded.hoses.get h)

/-- A tank after a start-up that keeps its stock: the last reading's values kept and not valid, the stale timer started when it
is strapped, the watch BUSY or WAITING, and, when the defaults are in force, OUT_OF_SERVICE without its receipt (R110). -/
def tankRestarted (accepted strapped : Bool) (c : TankCfg) (probe : Bool) (k : Tank) : Tank :=
  let receipt := if accepted then k.receipt else none
  let busy : Bool := decide (0 < k.reserved) || receipt.isSome
  { k with
    state := if accepted then k.state else .outOfService
    receipt := receipt
    gauge := { k.gauge with valid := false, faults := 0, faultCondition := false }
    staleTimer := if strapped then some (c.staleTime * 10) else none
    probe := probe
    leak := if busy then .busy else .waiting
    baseline := none
    quietTimer := if busy then none else some (c.quietTime * 600) }

/-- The journal with the CANCELLED records of the receipts open on the tanks, in ascending tank order (R104, R110). -/
def receiptsCancelled (s : State) (tanks : Table Tank 10) (j : Journal) : Journal :=
  (List.finRange 10).foldl (fun j t =>
    match (tanks.get t).receipt with
    | none => j
    | some r => withRecord j (r.clockNotSet || !s.supply.clockSet)
        (.receipt
          { tank := t, status := .cancelled, openClock := r.openClock, closeClock := s.supply.clock, rise := 0
            docket := none, variance := none, bookBefore := (tanks.get t).book, bookAfter := (tanks.get t).book }) 1) j

/-- A step of an order that external reset ends: RESET with the quantities metered so far when it was started, NOT_RUN when it
was PENDING, else as it was (R28); the suspension reason is log entry 34. -/
def resetEnd (st : Step) : Step :=
  if InFlight st then
    { st with
      state := .ended, endStatus := some .reset, suspension := none
      final := some { gross := grossOf st, net := netOf st, overrun := netOf st - st.target,
                      residue := st.target - netOf st } }
  else if st.state = .pending then { st with state := .notRun } else st

/-- An order whose reset has reached its first `k` steps: those that were in flight have ended RESET, the others and the rest of
the order are as they were; an ended step that had no target says what limited it (R28, R49). -/
def ResetReached (o p : Order) (k : Nat) : Prop :=
  p = { o with steps := p.steps } ∧ p.steps.length = o.steps.length
    ∧ ∀ (j : Nat) (st w : Step), o.steps[j]? = some st → p.steps[j]? = some w →
        w = if j < k ∧ InFlight st then { resetEnd st with limitedBy := w.limitedBy } else st

/-- A part whose start-up is under way takes no event, and its outputs are off (R160, R196). -/
def StartsUp (t : State) : Prop :=
  t.running = false ∧ t.supply.starting = true ∧ t.ends = [] ∧ t.shut.relay = false
    ∧ (∀ k, t.shut.pumps.get k = false) ∧ ∀ h, (t.hoses.get h).valve = .closed

/-- The retained store is as it was (R193). -/
def StoreKept (s t : State) : Prop :=
  t.orders = s.orders ∧ t.accounts = s.accounts ∧ t.journal = s.journal
    ∧ (∀ k, t.tanks.get k = { s.tanks.get k with staleTimer := none, quietTimer := none })
    ∧ (∀ i, (t.islands.get i).lastSeq = (s.islands.get i).lastSeq)
    ∧ t.shut.map = s.shut.map ∧ t.shut.warnings = s.shut.warnings
    ∧ t.supply.clock = s.supply.clock ∧ t.supply.clockSet = s.supply.clockSet

/-- The steps in flight that have a tank as captured tank, by island and list order. -/
def inFlightOn (s : State) (t : TankNo) : List Step :=
  (List.finRange 4).flatMap fun i =>
    match s.orders.get i with
    | none => []
    | some o => o.steps.filter fun st => decide (InFlight st ∧ st.ctx.tank = t)

/-- What the end of a step does to its tank's book (R91). -/
def bookChange (st : Step) : Int := if st.kind = .preset ∨ st.kind = .openFill then -(netOf st : Int) else netOf st

/-- A tank after the end reports of a reset: the targets released, the nets charged or credited in order, an open receipt's drawn
figure raised by the draws (R28, R91, R102). -/
def TankReleased (steps : List Step) (k m : Tank) : Prop :=
  m = { k with
      reserved := k.reserved - (steps.map (·.target)).sum
      book := (steps.foldl (fun x st => bookCharged (bookChange st) x) k).book
      bookLimit := (steps.foldl (fun x st => bookCharged (bookChange st) x) k).bookLimit
      leak := m.leak, quietTimer := m.quietTimer, baseline := m.baseline
      receipt := k.receipt.map fun r => { r with
        drawn := r.drawn
          + ((steps.filter fun st => decide (st.kind = .preset ∨ st.kind = .openFill)).map netOf).sum } }

/-- The tanks with their books as the end reports of a reset leave them (R28, R91). -/
def booksReleased (s : State) : Table Tank 10 :=
  Vector.ofFn fun k => { s.tanks.get k with
    book := ((inFlightOn s k).foldl (fun x st => bookCharged (bookChange st) x) (s.tanks.get k)).book }

/-- The journal with one SERVICE record for each active order, in ascending island order (R28). -/
def ordersRecorded (s : State) (recs : IslandNo → ServiceRecord) (j : Journal) : Journal :=
  (List.finRange 4).foldl (fun j i =>
    match s.orders.get i with
    | none => j
    | some o => withRecord j (o.clockNotSet || !s.supply.clockSet) (.service (recs i)) 1) j

end Sys2Proof.Safety
end

