-- ==== Sys2Proof/Certificates/Slice0/Obligations.lean ====
section
/-! DEFINITION. The statements about the part that are to be proved, chapter by chapter of the data book. Each docstring says
which rule a statement rests on; OBLIGATIONS.json lists them. -/

open Sys2Proof Sys2Proof.Machine Sys2Proof.Safety

/-! ## The queue of commands, and the taking of requests -/

/-- A step takes the command at the front of the queue and runs it on the state with the queue's rest. -/
def Obligations.StepRunsFrontCommand : Prop :=
  ∀ (c : Instr) (rest : List Instr) (s : State),
    step { s with pending := c :: rest } = exec c { s with pending := rest }

/-- With no command waiting a tenth of a second passes for the timers of a part that runs, and nothing else changes: no
clock, no quantity, no order. A part that does not run stands still (the model's choice: log entry 4). -/
def Obligations.IdleStepMovesTimersOnly : Prop :=
  ∀ s : State, s.pending = [] →
    (s.running = false → step s = .next s)
    ∧ (s.running = true → ∃ t, step s = .next t
        ∧ t = { s with hoses := t.hoses, islands := t.islands, tanks := t.tanks, ports := t.ports }
        ∧ (∀ h, t.hoses.get h = { s.hoses.get h with
            coupleTimer := (s.hoses.get h).coupleTimer.map (· - 1), stallTimer := (s.hoses.get h).stallTimer.map (· - 1),
            rateTimer := (s.hoses.get h).rateTimer.map (· - 1), settleTimer := (s.hoses.get h).settleTimer.map (· - 1),
            strayTimer := (s.hoses.get h).strayTimer.map (· - 1) })
        ∧ (∀ i, t.islands.get i = { s.islands.get i with timer := (s.islands.get i).timer.map (· - 1) })
        ∧ (∀ k, t.tanks.get k = { s.tanks.get k with
            staleTimer := (s.tanks.get k).staleTimer.map (· - 1), quietTimer := (s.tanks.get k).quietTimer.map (· - 1) })
        ∧ ∀ l, t.ports.get l = { s.ports.get l with frameTimer := (s.ports.get l).frameTimer.map (· - 1) })

/-- A request of any kind but LINK_RESET whose body does not decode is answered with the outcome of Chapter 11 when it is
taken, whatever the role of the port, and it goes no further: nothing but the answer changes. -/
def Obligations.UndecodableRequestGoesNoFurther : Prop :=
  ∀ (c : Instr) (q : RequestInfo) (r : DecodeRefusal) (s : State),
    requestInfo c = some q → q.kind ≠ .linkReset → q.undecodable = some r → s.canTake q.link c = true →
    ∃ t, exec c s = .next t
      ∧ OnlyAnswered s t q.link
          (reply q.tag q.kind (if r = .badLength then .badLength else .outOfRange) .nothing)

/-- A request of a kind that the permission table marks "no" for the port's role is answered NOT_PERMITTED and reaches no
owner: nothing but the answer changes. One that is with its owner already completes under its old role (R179) and is not meant
here. The second clause is the table, family by family. -/
def Obligations.ForbiddenRequestIsNotPermitted : Prop :=
  (∀ (c : Instr) (q : RequestInfo) (s : State),
    requestInfo c = some q → q.kind ≠ .linkReset → q.undecodable = none → s.canTake q.link c = true →
    (s.ports.get q.link).custody = .untaken → permitted (s.cfg.links.get q.link).role q.kind = false →
    ∃ t, exec c s = .next t ∧ OnlyAnswered s t q.link (reply q.tag q.kind .notPermitted .nothing))
  ∧ ∀ (r : Role) (k : Kind), permitted r k = false ↔
      (k ∈ [Kind.orderAdmit, .orderHold, .orderContinue, .orderCancel, .stepStop] ∧ r ≠ .office ∧ r ≠ .lanes)
      ∨ (k ∈ [Kind.hoseSet, .islandSet, .tankSet, .fluidSet, .strapLoad, .causeSet, .accountLimitsSet, .linkSet, .clockSet,
            .settingsSave, .receiptOpen, .receiptClose, .receiptCancel, .stockSet, .journalRelease, .shutdownClear]
          ∧ r ≠ .office)
      ∨ (k ∈ [Kind.accountCreate, .accountEdit, .accountBlock, .accountUnblock, .accountDelete, .hoursConfirm, .hoursRebase,
            .lubeSet] ∧ r ≠ .workshop)
      ∨ (k ∈ [Kind.tripBay, .tripIsland, .tripTank, .tripHose] ∧ r = .view)

/-- The fourteen read requests change no state: whatever they carry, the taking of one gives one reply, with the
request's tag and kind, and nothing else. -/
def Obligations.ReadsChangeNoState : Prop :=
  ∀ (c : Instr) (q : RequestInfo) (s : State),
    requestInfo c = some q →
    q.kind ∈ [Kind.orderRead, .islandRead, .tankRead, .hoseRead, .shutdownRead, .warnRead, .journalRead, .journalStatus,
      .accountRead, .accountNext, .clockRead, .supplyRead, .identify, .linkStatus] →
    s.canTake q.link c = true →
    ∃ t code results, exec c s = .next t ∧ OnlyAnswered s t q.link (reply q.tag q.kind code results)

/-- A request whose kind byte is in no row of Table 11-1 is answered UNKNOWN_KIND with its own kind byte, for every role, and
changes nothing else; the same command with a kind byte of the table is no such request and nothing is taken (the model's
choice: log entry 6). -/
def Obligations.UnknownKindIsAnswered : Prop :=
  ∀ (l : Link) (tag : Half) (kind : Byte) (s : State),
    s.canTake l (.unknownKindRequest l tag kind) = true →
    (Kind.ofCode kind.toNat = none → ∃ t, exec (.unknownKindRequest l tag kind) s = .next t
      ∧ OnlyAnswered s t l { tag, kind, code := .unknownKind, results := .nothing, atArrival := false })
    ∧ (Kind.ofCode kind.toNat ≠ none → exec (.unknownKindRequest l tag kind) s = .next s)

/-! ## Reads -/

/-- IDENTIFY is answered with the codes of the part, the sizes of its tables and the requesting port's link and role. -/
def Obligations.IdentifyNamesThePart : Prop :=
  ∀ (l : Link) (tag : Half) (s : State), Admissible s l .identify (.identify l tag (.fields ())) →
    ∃ t, exec (.identify l tag (.fields ())) s = .next t
      ∧ OnlyAnswered s t l (reply tag .identify .ok (.identify
          { vendor := 0x4447, part := 0x0416, revision := 1, imageVersion := 2, islands := 4, hoses := 16, tanks := 10,
            accounts := 512, link := l, role := (s.cfg.links.get l).role }))

/-- ORDER_READ, ISLAND_READ, TANK_READ and HOSE_READ refuse a number beyond their units, ORDER_READ an island with no order;
otherwise the reply carries the unit's configuration and state: for a tank the available quantity or the room and whether it
is below the reorder level, for a hose its flow and its step with the step's present figures, for an island the time left and
its order. -/
def Obligations.UnitReadsCarryTheUnit : Prop :=
  ∀ (l : Link) (tag : Half) (n : Nat) (s : State),
    (Admissible s l .orderRead (.orderRead l tag (.fields n)) →
      ∃ t code results, exec (.orderRead l tag (.fields n)) s = .next t
        ∧ OnlyAnswered s t l (reply tag .orderRead code results)
        ∧ (3 < n → code = .outOfRange)
        ∧ ∀ i : IslandNo, n = i.val → (s.orders.get i = none → code = .noOrder)
          ∧ ∀ o, s.orders.get i = some o → code = .ok ∧ ∃ v, results = .order v ∧ v.island = i ∧ v.machine = o.machine
              ∧ v.hour = o.hour ∧ v.state = o.state ∧ v.hold = o.hold ∧ v.gapTaken = o.gapTaken ∧ v.group = o.group
              ∧ v.endStatus = o.endStatus ∧ v.steps.length = o.steps.length
              ∧ ∀ (k : Nat) (st : Step) (w : StepView), o.steps[k]? = some st → v.steps[k]? = some w →
                  w.state = st.state ∧ w.hose = st.hose ∧ w.target = st.target ∧ w.endStatus = st.endStatus
                  ∧ w.suspension = st.suspension ∧ w.cause = st.cause
                  ∧ (st.final = none → w.gross = (st.grossAcc + 500) / 1000
                      ∧ w.net = (st.netAcc + 5000000000) / 10000000000)
                  ∧ ∀ f, st.final = some f → w.gross = f.gross ∧ w.net = f.net)
    ∧ (Admissible s l .islandRead (.islandRead l tag (.fields n)) →
      ∃ t code results, exec (.islandRead l tag (.fields n)) s = .next t
        ∧ OnlyAnswered s t l (reply tag .islandRead code results)
        ∧ (3 < n → code = .outOfRange)
        ∧ ∀ i : IslandNo, n = i.val → code = .ok ∧ ∃ v, results = .island v ∧ v.cfg = s.cfg.islands.get i
            ∧ v.presence = (s.islands.get i).presence ∧ v.level = (s.islands.get i).level
            ∧ v.float = (s.islands.get i).float ∧ v.lastSeq = (s.islands.get i).lastSeq
            ∧ v.remaining = (s.islands.get i).timer.getD 0
            ∧ v.order = (s.orders.get i).map (fun o => (o.machine, o.state))
            ∧ (v.latched = true ↔ s.entryAt (.island i) ≠ none ∨ s.entryAt .bay ≠ none))
    ∧ (Admissible s l .tankRead (.tankRead l tag (.fields n)) →
      ∃ t code results, exec (.tankRead l tag (.fields n)) s = .next t
        ∧ OnlyAnswered s t l (reply tag .tankRead code results)
        ∧ (9 < n → code = .outOfRange)
        ∧ ∀ k : TankNo, n = k.val → code = .ok ∧ ∃ v, results = .tank v ∧ v.cfg = s.cfg.tanks.get k
            ∧ v.state = (s.tanks.get k).state ∧ v.book = (s.tanks.get k).book ∧ v.reserved = (s.tanks.get k).reserved
            ∧ v.unassigned = (s.tanks.get k).unassigned ∧ v.gauge = (s.tanks.get k).gauge
            ∧ (v.quantity : Int) = max 0 (match (s.cfg.tanks.get k).role with
                | .supply => (s.tanks.get k).book - (s.tanks.get k).reserved - (s.cfg.tanks.get k).lowLimit
                | .waste => (s.cfg.tanks.get k).highLimit - (s.tanks.get k).book - (s.tanks.get k).reserved)
            ∧ (v.low = true ↔ v.quantity < (s.cfg.tanks.get k).reorder)
            ∧ v.probe = (s.tanks.get k).probe ∧ v.leak = (s.tanks.get k).leak ∧ v.baseline = (s.tanks.get k).baseline
            ∧ (v.latched = true ↔ s.entryAt (.tank k) ≠ none ∨ s.entryAt .bay ≠ none))
    ∧ (Admissible s l .hoseRead (.hoseRead l tag (.fields n)) →
      ∃ t code results, exec (.hoseRead l tag (.fields n)) s = .next t
        ∧ OnlyAnswered s t l (reply tag .hoseRead code results)
        ∧ (15 < n → code = .outOfRange)
        ∧ ∀ h : HoseNo, n = h.val → code = .ok ∧ ∃ v, results = .hose v ∧ v.cfg = s.cfg.hoses.get h
            ∧ v.coupled = (s.hoses.get h).coupled ∧ v.valve = (s.hoses.get h).valve ∧ v.flow = (s.hoses.get h).flow
            ∧ v.strayCount = (s.hoses.get h).strayCount ∧ v.strayCondition = (s.hoses.get h).strayTimer.isSome
            ∧ ((s.hoses.get h).step = none → v.step = none)
            ∧ ∀ r st, (s.hoses.get h).step = some r → HasStep s r st → ∃ w, v.step = some w ∧ w.island = r.island
                ∧ w.index = r.idx + 1 ∧ w.state = st.state ∧ w.suspension = st.suspension ∧ w.target = st.target
                ∧ w.gross = (st.grossAcc + 500) / 1000 ∧ w.net = (st.netAcc + 5000000000) / 10000000000)

/-- CLOCK_READ gives the bay clock and whether it has been set, WARN_READ every warning record with the actions in force,
SUPPLY_READ the fields of the settings and supply block, and LINK_STATUS the port as it stands. -/
def Obligations.BlockReadsCarryTheBlock : Prop :=
  ∀ (l : Link) (tag : Half) (s : State),
    (Admissible s l .clockRead (.clockRead l tag (.fields ())) →
      ∃ t, exec (.clockRead l tag (.fields ())) s = .next t
        ∧ OnlyAnswered s t l (reply tag .clockRead .ok (.clock s.supply.clock s.supply.clockSet)))
    ∧ (Admissible s l .warnRead (.warnRead l tag (.fields ())) →
      ∃ t, exec (.warnRead l tag (.fields ())) s = .next t
        ∧ OnlyAnswered s t l (reply tag .warnRead .ok (.warnings s.shut.warnings s.cfg.actions)))
    ∧ (Admissible s l .supplyRead (.supplyRead l tag (.fields ())) →
      ∃ t v, exec (.supplyRead l tag (.fields ())) s = .next t
        ∧ OnlyAnswered s t l (reply tag .supplyRead .ok (.supply v))
        ∧ v.state = s.supply.state ∧ v.warning = s.supply.warning ∧ v.retention = s.supply.retention
        ∧ v.reason = s.supply.reason ∧ v.defaulted = s.supply.defaulted ∧ v.answered = s.supply.answered
        ∧ (v.saving = true ↔ s.supply.snapshot ≠ none) ∧ v.lastSave = s.supply.lastSave ∧ v.unsaved = s.supply.unsaved
        ∧ v.heldForPower ≤ 4)
    ∧ (Admissible s l .linkStatus (.linkStatus l tag (.fields ())) →
      ∃ t v, exec (.linkStatus l tag (.fields ())) s = .next t
        ∧ OnlyAnswered s t l (reply tag .linkStatus .ok (.linkStatus v))
        ∧ v.link = l ∧ v.role = (s.cfg.links.get l).role ∧ v.record = (s.cfg.links.get l).record
        ∧ v.attentionMask = (s.cfg.links.get l).attention ∧ v.attention = (s.ports.get l).attention
        ∧ v.frameErrors = (s.ports.get l).frameErrors ∧ v.behind = (s.ports.get l).queue.length - 1
        ∧ ∀ k : NoticeKind, k ∈ v.kinds ↔ (s.ports.get l).notices.get k.index ≠ none)

/-! ## Configuration requests -/

/-- HOSE_SET is refused OUT_OF_RANGE for a hose above 15 or a field out of range, then IN_USE while the hose is in use;
otherwise the hose's configuration becomes what the request carries, its stray figures start afresh, and the unsaved flag is
set. Nothing else changes. -/
def Obligations.HoseSetReplacesConfiguration : Prop :=
  ∀ (l : Link) (tag : Half) (f : HoseSetFields) (s : State), Admissible s l .hoseSet (.hoseSet l tag (.fields f)) →
    ((15 < f.hose ∨ ¬ HoseFieldsInRange f) → ∃ t, exec (.hoseSet l tag (.fields f)) s = .next t
      ∧ OnlyAnswered s t l (reply tag .hoseSet .outOfRange .nothing))
    ∧ (HoseFieldsInRange f → ∀ h : HoseNo, f.hose = h.val →
      (HoseInUse s h → ∃ t, exec (.hoseSet l tag (.fields f)) s = .next t
        ∧ OnlyAnswered s t l (reply tag .hoseSet .inUse .nothing))
      ∧ (¬ HoseInUse s h → ∃ t c, exec (.hoseSet l tag (.fields f)) s = .next t ∧ HoseCfgHolds c f
        ∧ OnlyAnswered { (withConfig s { s.cfg with hoses := s.cfg.hoses.put h c }) with
            hoses := s.hoses.modify h fun k => { k with strayAcc := 0, strayCharged := 0 } } t l
          (reply tag .hoseSet .ok .nothing)))

/-- ISLAND_SET, CAUSE_SET and ACCOUNT_LIMITS_SET replace their part of the working configuration at once and set the unsaved
flag, or are refused and change nothing: OUT_OF_RANGE for a value or an action that is not allowed, IN_USE for an island with
an active order. -/
def Obligations.SmallConfigurationRequests : Prop :=
  ∀ (l : Link) (tag : Half) (s : State),
    (∀ f : IslandSetFields, Admissible s l .islandSet (.islandSet l tag (.fields f)) →
      ((3 < f.island ∨ 1 < f.enabled ∨ f.arrival < 5 ∨ 100 < f.arrival ∨ f.leaving < 5 ∨ 100 < f.leaving) →
        ∃ t, exec (.islandSet l tag (.fields f)) s = .next t
          ∧ OnlyAnswered s t l (reply tag .islandSet .outOfRange .nothing))
      ∧ ∀ i : IslandNo, f.island = i.val → f.enabled ≤ 1 → 5 ≤ f.arrival → f.arrival ≤ 100 → 5 ≤ f.leaving →
        f.leaving ≤ 100 →
        (s.orders.get i ≠ none → ∃ t, exec (.islandSet l tag (.fields f)) s = .next t
          ∧ OnlyAnswered s t l (reply tag .islandSet .inUse .nothing))
        ∧ (s.orders.get i = none → ∃ t, exec (.islandSet l tag (.fields f)) s = .next t
          ∧ OnlyAnswered (withConfig s { s.cfg with islands := (s.cfg.islands.put i
              { enabled := decide (f.enabled = 1), arrival := f.arrival, leaving := f.leaving }) }) t l
            (reply tag .islandSet .ok .nothing)))
    ∧ (∀ f : CauseSetFields, Admissible s l .causeSet (.causeSet l tag (.fields f)) →
      ((f.cause ∈ [Cause.bayStop, .storeLost, .linkTrip] ∧ f.action ≠ .trip) ∨ (f.cause = .overfill ∧ f.action = .off) →
        ∃ t, exec (.causeSet l tag (.fields f)) s = .next t
          ∧ OnlyAnswered s t l (reply tag .causeSet .outOfRange .nothing))
      ∧ ((f.cause ∉ [Cause.bayStop, .storeLost, .linkTrip] ∨ f.action = .trip) → (f.cause ≠ .overfill ∨ f.action ≠ .off) →
        ∃ t, exec (.causeSet l tag (.fields f)) s = .next t
          ∧ OnlyAnswered (withConfig s { s.cfg with actions := s.cfg.actions.put f.cause.index f.action }) t l
            (reply tag .causeSet .ok (.action f.action))))
    ∧ (∀ f : LimitsFields, Admissible s l .accountLimitsSet (.accountLimitsSet l tag (.fields f)) →
      ((f.jumpLimit < 1 ∨ 100000 < f.jumpLimit ∨ f.minSpan < 1 ∨ 10000 < f.minSpan) →
        ∃ t, exec (.accountLimitsSet l tag (.fields f)) s = .next t
          ∧ OnlyAnswered s t l (reply tag .accountLimitsSet .outOfRange .nothing))
      ∧ (1 ≤ f.jumpLimit → f.jumpLimit ≤ 100000 → 1 ≤ f.minSpan → f.minSpan ≤ 10000 →
        ∃ t, exec (.accountLimitsSet l tag (.fields f)) s = .next t
          ∧ OnlyAnswered (withConfig s { s.cfg with jumpLimit := f.jumpLimit, minSpan := f.minSpan }) t l
            (reply tag .accountLimitsSet .ok (.limits f.jumpLimit f.minSpan))))

/-- TANK_SET is refused OUT_OF_RANGE or IN_USE and changes nothing, or replaces the tank's configuration, sets the tank's state
and restarts its leak watch. With the role as it was, TANK_LOW is raised when the available quantity or the room is not below
the old reorder level before, has not risen, and is below the new level after; else no notice is raised (which reorder level each
is held against, and that the ranges are tested before the use, are the model's choices: log entries 20 and 16). -/
def Obligations.TankSetReplacesConfiguration : Prop :=
  ∀ (l : Link) (tag : Half) (f : TankSetFields) (s : State), Admissible s l .tankSet (.tankSet l tag (.fields f)) →
    ((9 < f.tank ∨ ¬ TankFieldsInRange f) → ∃ t, exec (.tankSet l tag (.fields f)) s = .next t
      ∧ OnlyAnswered s t l (reply tag .tankSet .outOfRange .nothing))
    ∧ (TankFieldsInRange f → ∀ k : TankNo, f.tank = k.val →
      (TankInUse s k → ∃ t, exec (.tankSet l tag (.fields f)) s = .next t
        ∧ OnlyAnswered s t l (reply tag .tankSet .inUse .nothing))
      ∧ (¬ TankInUse s k → ∃ t c, exec (.tankSet l tag (.fields f)) s = .next t ∧ TankCfgHolds c f
        ∧ let u := { (withConfig s { s.cfg with tanks := s.cfg.tanks.put k c }) with
            tanks := s.tanks.modify k fun x => watchRestarted f.quietTime { x with state := f.state } }
          let old := s.cfg.tanks.get k
          let before := stockQuantity old (s.tanks.get k)
          let after := stockQuantity c (s.tanks.get k)
          let falls := f.role = old.role ∧ old.reorder ≤ before ∧ after < f.reorder ∧ after ≤ before
          (falls → OnlyAnswered (u.raiseKind .tankLow) t l (reply tag .tankSet .ok .nothing))
          ∧ (¬ falls → OnlyAnswered u t l (reply tag .tankSet .ok .nothing))))

/-- FLUID_SET is refused OUT_OF_RANGE, or IN_USE while a tank of the code is in use; otherwise the entry is replaced, and every
tank of the code has its leak watch restarted when the coefficient that conversions use (0 for an undefined entry) has
changed. STRAP_LOAD is refused OUT_OF_RANGE, BAD_TABLE, or IN_USE while a receipt is open; otherwise it replaces the table,
restarts the leak watch, and starts the stale timer of a tank that was unstrapped. What counts as a changed coefficient, and
the order of the checks, are the model's choices: log entries 20 and 16. -/
def Obligations.FluidAndStrappingRequests : Prop :=
  ∀ (l : Link) (tag : Half) (s : State),
    (∀ f : FluidSetFields, Admissible s l .fluidSet (.fluidSet l tag (.fields f)) →
      ((15 < f.fluid ∨ 1 < f.isDefined ∨ 1500 < f.beta) → ∃ t, exec (.fluidSet l tag (.fields f)) s = .next t
        ∧ OnlyAnswered s t l (reply tag .fluidSet .outOfRange .nothing))
      ∧ ∀ n : FluidNo, f.fluid = n.val → f.isDefined ≤ 1 → f.beta ≤ 1500 →
        ((∃ k, (s.cfg.tanks.get k).fluid = n ∧ TankInUse s k) → ∃ t, exec (.fluidSet l tag (.fields f)) s = .next t
          ∧ OnlyAnswered s t l (reply tag .fluidSet .inUse .nothing))
        ∧ ((¬ ∃ k, (s.cfg.tanks.get k).fluid = n ∧ TankInUse s k) → ∃ t u : State, exec (.fluidSet l tag (.fields f)) s = .next t
          ∧ OnlyAnswered u t l (reply tag .fluidSet .ok .nothing)
          ∧ u = { (withConfig s { s.cfg with fluids := (s.cfg.fluids.put n
              { isDefined := decide (f.isDefined = 1), kind := f.kind, beta := f.beta }) }) with tanks := u.tanks }
          ∧ ∀ k, u.tanks.get k =
              if (s.cfg.tanks.get k).fluid = n
                  ∧ (if (s.cfg.fluids.get n).isDefined then (s.cfg.fluids.get n).beta else 0)
                    ≠ (if f.isDefined = 1 then f.beta else 0) then
                watchRestarted (s.cfg.tanks.get k).quietTime (s.tanks.get k)
              else s.tanks.get k))
    ∧ (∀ f : StrapFields, Admissible s l .strapLoad (.strapLoad l tag (.fields f)) →
      (9 < f.tank → ∃ t, exec (.strapLoad l tag (.fields f)) s = .next t
        ∧ OnlyAnswered s t l (reply tag .strapLoad .outOfRange .nothing))
      ∧ ∀ k : TankNo, f.tank = k.val →
        (¬ GoodStrapping f.points → ∃ t, exec (.strapLoad l tag (.fields f)) s = .next t
          ∧ OnlyAnswered s t l (reply tag .strapLoad .badTable .nothing))
        ∧ (GoodStrapping f.points → (s.tanks.get k).receipt ≠ none → ∃ t, exec (.strapLoad l tag (.fields f)) s = .next t
          ∧ OnlyAnswered s t l (reply tag .strapLoad .inUse .nothing))
        ∧ (GoodStrapping f.points → (s.tanks.get k).receipt = none → ∃ t, exec (.strapLoad l tag (.fields f)) s = .next t
          ∧ OnlyAnswered { (withConfig s { s.cfg with straps := s.cfg.straps.put k f.points }) with
              tanks := s.tanks.modify k fun x =>
                { watchRestarted (s.cfg.tanks.get k).quietTime x with
                  staleTimer := if s.cfg.straps.get k = [] then some ((s.cfg.tanks.get k).staleTime * 10)
                    else x.staleTimer } } t l
            (reply tag .strapLoad .ok .nothing)))

/-- LINK_SET is refused OUT_OF_RANGE for a link other than 1 to 3 or a mask that names an unknown kind, and STATE when no link
would hold the role OFFICE; otherwise the named port takes the role and the masks, keeps pending exactly the kinds that the
new role receives and the new record mask holds, and its attention line follows. NOTICE_MASK_SET does the same to the masks of
the requesting port, whose role stands. -/
def Obligations.LinkSetAndNoticeMaskSet : Prop :=
  ∀ (l : Link) (tag : Half) (s : State),
    (∀ f : LinkSetFields, Admissible s l .linkSet (.linkSet l tag (.fields f)) →
      ((f.link = 0 ∨ 3 < f.link ∨ 8192 ≤ f.record.toNat ∨ 8192 ≤ f.attention.toNat) →
        ∃ t, exec (.linkSet l tag (.fields f)) s = .next t
          ∧ OnlyAnswered s t l (reply tag .linkSet .outOfRange .nothing))
      ∧ ∀ k : Link, f.link = k.val + 1 → f.record.toNat < 8192 → f.attention.toNat < 8192 →
        ((f.role ≠ .office ∧ ∀ j, j ≠ k → (s.cfg.links.get j).role ≠ .office) →
          ∃ t, exec (.linkSet l tag (.fields f)) s = .next t
            ∧ OnlyAnswered s t l (reply tag .linkSet .state .nothing))
        ∧ ((f.role = .office ∨ ∃ j, j ≠ k ∧ (s.cfg.links.get j).role = .office) →
          ∃ t u : State, exec (.linkSet l tag (.fields f)) s = .next t ∧ OnlyAnswered u t l (reply tag .linkSet .ok .nothing)
            ∧ u = { (withConfig s { s.cfg with links := (s.cfg.links.put k
                { role := f.role, record := f.record, attention := f.attention }) }) with ports := u.ports }
            ∧ (∀ j, j ≠ k → u.ports.get j = s.ports.get j)
            ∧ u.ports.get k = { s.ports.get k with
                notices := (u.ports.get k).notices, attention := (u.ports.get k).attention }
            ∧ (∀ n : NoticeKind, (u.ports.get k).notices.get n.index =
                if roleReceives f.role n && f.record.getLsbD n.index.val then (s.ports.get k).notices.get n.index else none)
            ∧ ((u.ports.get k).attention = true ↔
                ∃ n : NoticeKind, (u.ports.get k).notices.get n.index ≠ none ∧ f.attention.getLsbD n.index.val = true)))
    ∧ (∀ f : MaskFields, Admissible s l .noticeMaskSet (.noticeMaskSet l tag (.fields f)) →
      ((8192 ≤ f.record.toNat ∨ 8192 ≤ f.attention.toNat) → ∃ t, exec (.noticeMaskSet l tag (.fields f)) s = .next t
        ∧ OnlyAnswered s t l (reply tag .noticeMaskSet .outOfRange .nothing))
      ∧ (f.record.toNat < 8192 → f.attention.toNat < 8192 →
        ∃ t u : State, exec (.noticeMaskSet l tag (.fields f)) s = .next t
          ∧ OnlyAnswered u t l (reply tag .noticeMaskSet .ok .nothing)
          ∧ u = { (withConfig s { s.cfg with links := (s.cfg.links.put l
              { role := (s.cfg.links.get l).role, record := f.record, attention := f.attention }) }) with ports := u.ports }
          ∧ (∀ j, j ≠ l → u.ports.get j = s.ports.get j)
          ∧ u.ports.get l = { s.ports.get l with
              notices := (u.ports.get l).notices, attention := (u.ports.get l).attention }
          ∧ (∀ n : NoticeKind, (u.ports.get l).notices.get n.index =
              if f.record.getLsbD n.index.val then (s.ports.get l).notices.get n.index else none)
          ∧ ((u.ports.get l).attention = true ↔
              ∃ n : NoticeKind, (u.ports.get l).notices.get n.index ≠ none ∧ f.attention.getLsbD n.index.val = true)))

/-- CLOCK_SET with a value of 0 to 4,294,967,295 sets the clock and its set condition and changes nothing else; a larger value
is refused OUT_OF_RANGE. A tick adds one in every supply state, and from 4,294,967,295 passes to 0; the set condition
stands. That it adds one whether or not the part has supply, whatever becomes of the store, is log entry 23 (DEDUCED). -/
def Obligations.ClockSetAndTick : Prop :=
  (∀ (l : Link) (tag : Half) (n : Nat) (s : State), Admissible s l .clockSet (.clockSet l tag (.fields n)) →
    (4294967295 < n → ∃ t, exec (.clockSet l tag (.fields n)) s = .next t
      ∧ OnlyAnswered s t l (reply tag .clockSet .outOfRange .nothing))
    ∧ (n ≤ 4294967295 → ∃ t, exec (.clockSet l tag (.fields n)) s = .next t
      ∧ OnlyAnswered { s with supply := { s.supply with clock := n, clockSet := true } } t l
        (reply tag .clockSet .ok .nothing)))
  ∧ ∀ s : State, ∃ t, exec .bayClockTick s = .next t
    ∧ t = { s with supply := { s.supply with clock := t.supply.clock } }
    ∧ (s.supply.clock < 4294967295 → t.supply.clock = s.supply.clock + 1)
    ∧ (s.supply.clock = 4294967295 → t.supply.clock = 0)

/-- SETTINGS_SAVE is refused BUSY while a save runs, then SUPPLY_HOLD in HOLD; otherwise it takes a snapshot of the working
configuration and clears the unsaved flag. At the save's end the save state is IDLE again and SAVE_ENDED carries the outcome:
OK with the image holding version 2, the snapshot and its check word; FAILED with the unsaved flag set and an image whose
check word can match nothing. An end with no save running does not arise and changes nothing (the model's choice: log entry
5). -/
def Obligations.SettingsSaveAndItsEnd : Prop :=
  (∀ (l : Link) (tag : Half) (s : State), Admissible s l .settingsSave (.settingsSave l tag (.fields ())) →
    (s.supply.snapshot ≠ none → ∃ t, exec (.settingsSave l tag (.fields ())) s = .next t
      ∧ OnlyAnswered s t l (reply tag .settingsSave .busy .nothing))
    ∧ (s.supply.snapshot = none → s.supply.state = .hold → ∃ t, exec (.settingsSave l tag (.fields ())) s = .next t
      ∧ OnlyAnswered s t l (reply tag .settingsSave .supplyHold .nothing))
    ∧ (s.supply.snapshot = none → s.supply.state = .normal → ∃ t, exec (.settingsSave l tag (.fields ())) s = .next t
      ∧ OnlyAnswered { s with supply := { s.supply with snapshot := some s.cfg, unsaved := false } } t l
        (reply tag .settingsSave .ok .nothing)))
  ∧ ∀ (e : SaveEnd) (s : State), s.running = true →
    (s.supply.snapshot = none → exec (.saveCompletion e) s = .next s)
    ∧ ∀ c, s.supply.snapshot = some c → ∃ t u : State, exec (.saveCompletion e) s = .next t
      ∧ u = { s with supply := u.supply }
      ∧ u.supply = { s.supply with
          snapshot := none, lastSave := u.supply.lastSave, answered := u.supply.answered
          unsaved := u.supply.unsaved, image := u.supply.image }
      ∧ (u.supply.answered = true ↔ e ≠ .noAnswer)
      ∧ (e = .written → t = u.raise ⟨.saveEnded, none, some .ok, none⟩ ∧ u.supply.lastSave = some .ok
          ∧ u.supply.unsaved = s.supply.unsaved
          ∧ u.supply.image = { version := 2, items := c, check := some (checkWord 2 c) })
      ∧ (e ≠ .written → t = u.raise ⟨.saveEnded, none, some .failed, none⟩ ∧ u.supply.lastSave = some .failed
          ∧ u.supply.unsaved = true ∧ u.supply.image.check = none)

/-! ## Receipts and stock -/

/-- RECEIPT_OPEN makes its five checks in order; accepted, the tank is RECEIVING with a receipt that holds the clock, the
gauged net and nothing drawn, the leak watch is BUSY, and the journal holds one more place. -/
def Obligations.ReceiptOpenHoldsAPlace : Prop :=
  ∀ (l : Link) (tag : Half) (n : Nat) (s : State), Admissible s l .receiptOpen (.receiptOpen l tag (.fields n)) →
    let c := Instr.receiptOpen l tag (.fields n)
    (9 < n → Replies c s s l tag .receiptOpen .outOfRange .nothing)
    ∧ ∀ k : TankNo, n = k.val →
      if (s.cfg.tanks.get k).role ≠ .supply ∨ (s.tanks.get k).state ≠ .inService then
        Replies c s s l tag .receiptOpen .state .nothing
      else if (s.tanks.get k).gauge.valid = false then Replies c s s l tag .receiptOpen .gaugeFault .nothing
      else if s.entryAt (.tank k) ≠ none ∨ s.entryAt .bay ≠ none then Replies c s s l tag .receiptOpen .shut .nothing
      else if 64 ≤ s.journal.records.length + s.journal.reserved then
        Replies c s s l tag .receiptOpen .journalFull .nothing
      else Replies c s
        { s with
          tanks := s.tanks.modify k fun x => { x with
            state := .receiving
            receipt := some { openClock := s.supply.clock, clockNotSet := !s.supply.clockSet, gaugedAtOpen := x.gauge.net,
                              drawn := 0 }
            leak := .busy, quietTimer := none, baseline := none }
          journal := { s.journal with reserved := s.journal.reserved + 1 }
          ports := raised s (noticeIf (s.journal.records.length + s.journal.reserved = 55) (notice .journalLow)) }
        l tag .receiptOpen .ok (.receiptOpened (s.tanks.get k).gauge.net)

/-- RECEIPT_CLOSE is refused OUT_OF_RANGE, STATE, GAUGE_FAULT, or OUT_OF_RANGE again for a book that would leave its limits,
with the receipt as it was. Otherwise the book rises by the docket, or by the rise where none is given, the RECEIPT record
takes the reserved place, a variance beyond the tolerance is notified, and the tank returns to IN_SERVICE. RECEIPT_CANCEL
writes a RECEIPT record with rise 0 and the book as it stands into the reserved place, and needs no valid gauge reading. The
record's clock-not-set flag, unset at the open or now, is log entry 19 (DEDUCED). -/
def Obligations.ReceiptCloseAndCancel : Prop :=
  (∀ (l : Link) (tag : Half) (f : CloseFields) (s : State), Admissible s l .receiptClose (.receiptClose l tag (.fields f)) →
     let c := Instr.receiptClose l tag (.fields f)
     ((9 < f.tank ∨ f.docket = some 0 ∨ ∃ d, f.docket = some d ∧ 2000000000 < d) →
       Replies c s s l tag .receiptClose .outOfRange .nothing)
     ∧ ∀ k : TankNo, f.tank = k.val → (∀ d, f.docket = some d → 1 ≤ d ∧ d ≤ 2000000000) →
       ((s.tanks.get k).state ≠ .receiving → Replies c s s l tag .receiptClose .state .nothing)
       ∧ ((s.tanks.get k).state = .receiving → ∀ r, (s.tanks.get k).receipt = some r →
         let g := (s.tanks.get k).gauge
         let rise : Int := (g.net : Int) - r.gaugedAtOpen + r.drawn
         let variance : Option Int := f.docket.map fun (d : Nat) => rise - (d : Int)
         let book := (s.tanks.get k).book
         let after : Int := book + (match f.docket with | some d => (d : Int) | none => rise)
         if g.valid = false then Replies c s s l tag .receiptClose .gaugeFault .nothing
         else if after < -2147483648 ∨ 2147483647 < after then Replies c s s l tag .receiptClose .outOfRange .nothing
         else Replies c s
           { s with
             tanks := s.tanks.modify k fun x =>
               watchRested (s.cfg.tanks.get k).quietTime { x with book := after, state := .inService, receipt := none }
             journal := withRecord s.journal (r.clockNotSet || !s.supply.clockSet)
               (.receipt { tank := k, status := .closed, openClock := r.openClock, closeClock := s.supply.clock, rise,
                           docket := f.docket, variance, bookBefore := book, bookAfter := after }) 1
             ports := raised s
               (noticeIf (lowPassed (s.cfg.tanks.get k) (s.tanks.get k) { s.tanks.get k with book := after })
                   (notice .tankLow)
                 ++ noticeIf (s.journal.records = []) (notice .journalWaiting)
                 ++ noticeIf ((s.cfg.tanks.get k).tolerance < (variance.getD 0).natAbs) (notice .receiptVariance)) }
           l tag .receiptClose .ok (.receiptClosed rise variance after s.journal.next)))
  ∧ ∀ (l : Link) (tag : Half) (n : Nat) (s : State), Admissible s l .receiptCancel (.receiptCancel l tag (.fields n)) →
      let c := Instr.receiptCancel l tag (.fields n)
      (9 < n → Replies c s s l tag .receiptCancel .outOfRange .nothing)
      ∧ ∀ k : TankNo, n = k.val →
        ((s.tanks.get k).state ≠ .receiving → Replies c s s l tag .receiptCancel .state .nothing)
        ∧ ((s.tanks.get k).state = .receiving → ∀ r, (s.tanks.get k).receipt = some r → Replies c s
          { s with
            tanks := s.tanks.modify k fun x =>
              watchRested (s.cfg.tanks.get k).quietTime { x with state := .inService, receipt := none }
            journal := withRecord s.journal (r.clockNotSet || !s.supply.clockSet)
              (.receipt { tank := k, status := .cancelled, openClock := r.openClock, closeClock := s.supply.clock, rise := 0,
                          docket := none, variance := none, bookBefore := (s.tanks.get k).book,
                          bookAfter := (s.tanks.get k).book }) 1
            ports := raised s (noticeIf (s.journal.records = []) (notice .journalWaiting)) }
          l tag .receiptCancel .ok (.written s.journal.next))

/-- STOCK_SET is refused OUT_OF_RANGE, IN_USE or JOURNAL_FULL in that order; accepted, a STOCK_ADJUST record is written, the
book takes the value, the book-limit flag and the unassigned draws are cleared, and an OUT_OF_SERVICE tank is IN_SERVICE. -/
def Obligations.StockSetWritesTheBook : Prop :=
  ∀ (l : Link) (tag : Half) (f : StockSetFields) (s : State), Admissible s l .stockSet (.stockSet l tag (.fields f)) →
    let c := Instr.stockSet l tag (.fields f)
    ((9 < f.tank ∨ f.book < -2147483648 ∨ 2147483647 < f.book) → Replies c s s l tag .stockSet .outOfRange .nothing)
    ∧ ∀ k : TankNo, f.tank = k.val → -2147483648 ≤ f.book → f.book ≤ 2147483647 →
      if 0 < (s.tanks.get k).reserved ∨ (s.tanks.get k).receipt ≠ none then
        Replies c s s l tag .stockSet .inUse .nothing
      else if 64 ≤ s.journal.records.length + s.journal.reserved then
        Replies c s s l tag .stockSet .journalFull .nothing
      else Replies c s
        { s with
          tanks := s.tanks.modify k fun x => { x with
            book := f.book, bookLimit := false, unassigned := 0
            state := if x.state = .outOfService then .inService else x.state }
          journal := withRecord s.journal (!s.supply.clockSet)
            (.stockAdjust { tank := k, reason := f.reason, oldBook := (s.tanks.get k).book, newBook := f.book,
                            clock := s.supply.clock }) 0
          ports := raised s
            (noticeIf (s.journal.records = []) (notice .journalWaiting)
              ++ noticeIf (s.journal.records.length + s.journal.reserved = 55) (notice .journalLow)
              ++ noticeIf (lowPassed (s.cfg.tanks.get k) (s.tanks.get k) { s.tanks.get k with book := f.book })
                  (notice .tankLow)) }
        l tag .stockSet .ok (.written s.journal.next)

/-! ## The journal -/

/-- JOURNAL_RELEASE, by its four conditions: 0 is out of range, an empty journal has nothing to release, a number that is not
the oldest is answered with the oldest, and the oldest is removed. That 0 is out of range at an empty journal too is the model's choice: log
entry 16. -/
def Obligations.JournalReleaseTakesTheOldest : Prop :=
  ∀ (l : Link) (tag : Half) (n : Nat) (s : State), Admissible s l .journalRelease (.journalRelease l tag (.fields n)) →
    let c := Instr.journalRelease l tag (.fields n)
    (n = 0 → Replies c s s l tag .journalRelease .outOfRange .nothing)
    ∧ (n ≠ 0 → s.journal.records = [] → Replies c s s l tag .journalRelease .empty .nothing)
    ∧ ∀ r rest, n ≠ 0 → s.journal.records = r :: rest →
      (n ≠ r.seq → Replies c s s l tag .journalRelease .seqMismatch (.oldest r.seq))
      ∧ (n = r.seq → Replies c s { s with journal := { s.journal with records := rest } } l tag .journalRelease .ok
          (.released rest.length (rest.head?.map (·.seq))))

/-- JOURNAL_READ gives the oldest record, or the record of a number, with the count and the newest number; JOURNAL_STATUS gives
the counts, with the free places as 64 less records and reserved. -/
def Obligations.JournalReadsCarryRecords : Prop :=
  ∀ (l : Link) (tag : Half) (s : State),
    (∀ sel : JournalSelect, Admissible s l .journalRead (.journalRead l tag (.fields sel)) →
      let c := Instr.journalRead l tag (.fields sel)
      (sel = .oldest → s.journal.records = [] → Replies c s s l tag .journalRead .empty .nothing)
      ∧ (∀ r rest, sel = .oldest → s.journal.records = r :: rest → ∃ newest,
          (s.journal.records.getLast?.map (·.seq)) = some newest
          ∧ Replies c s s l tag .journalRead .ok (.journal s.journal.records.length newest r))
      ∧ (sel = .byNumber 0 → Replies c s s l tag .journalRead .outOfRange .nothing)
      ∧ (∀ n, n ≠ 0 → sel = .byNumber n → (∀ r ∈ s.journal.records, r.seq ≠ n) →
          Replies c s s l tag .journalRead .notFound .nothing)
      ∧ (∀ n, n ≠ 0 → sel = .byNumber n → (∃ r ∈ s.journal.records, r.seq = n) →
          ∃ r newest, r ∈ s.journal.records ∧ r.seq = n ∧ (s.journal.records.getLast?.map (·.seq)) = some newest
            ∧ Replies c s s l tag .journalRead .ok (.journal s.journal.records.length newest r)))
    ∧ (Admissible s l .journalStatus (.journalStatus l tag (.fields ())) →
      ∃ v, Replies (.journalStatus l tag (.fields ())) s s l tag .journalStatus .ok (.journalStatus v)
        ∧ v.count = s.journal.records.length ∧ v.reserved = s.journal.reserved
        ∧ v.free = 64 - s.journal.records.length - s.journal.reserved ∧ v.next = s.journal.next
        ∧ v.oldest = s.journal.records.head?.map (·.seq) ∧ v.newest = s.journal.records.getLast?.map (·.seq))

/-! ## Machine accounts -/

/-- ACCOUNT_CREATE is refused OUT_OF_RANGE, DUPLICATE or TABLE_FULL in that order; accepted, an ACTIVE account with no hours, no
fuel and no lube entries stands in the table before the first account of a larger machine number. ACCOUNT_EDIT replaces class,
fluids, capacity and margin of an account that is not in use. -/
def Obligations.AccountCreateAndEdit : Prop :=
  ∀ (l : Link) (tag : Half) (f : AccountFields) (s : State),
    (Admissible s l .accountCreate (.accountCreate l tag (.fields f)) →
      let c := Instr.accountCreate l tag (.fields f)
      (¬ AccountFieldsInRange f → Replies c s s l tag .accountCreate .outOfRange .nothing)
      ∧ (AccountFieldsInRange f → s.findAccount f.machine ≠ none →
          Replies c s s l tag .accountCreate .duplicate .nothing)
      ∧ (AccountFieldsInRange f → s.findAccount f.machine = none → 512 ≤ s.accounts.length →
          Replies c s s l tag .accountCreate .tableFull .nothing)
      ∧ (AccountFieldsInRange f → s.findAccount f.machine = none → s.accounts.length < 512 → ∃ below above,
          s.accounts = below ++ above ∧ (∀ a ∈ below, a.machine < f.machine)
          ∧ (∀ a ∈ above.head?, f.machine < a.machine)
          ∧ Replies c s
            { s with accounts := (below ++ [
                { machine := f.machine, cls := f.cls, state := .active, fluids := f.fluids, capacity := f.capacity
                  lastHours := none, reviewHours := none, markHours := none, carry := 0, rate := 0, margin := f.margin
                  highUse := none, lifetimeFuel := 0, lifetimeOther := 0, inUse := none, lube := [] }] ++ above) }
                l tag .accountCreate .ok .nothing))
    ∧ (Admissible s l .accountEdit (.accountEdit l tag (.fields f)) →
      let c := Instr.accountEdit l tag (.fields f)
      (¬ AccountFieldsInRange f → Replies c s s l tag .accountEdit .outOfRange .nothing)
      ∧ (AccountFieldsInRange f → s.findAccount f.machine = none → Replies c s s l tag .accountEdit .noAccount .nothing)
      ∧ (∀ a, AccountFieldsInRange f → s.findAccount f.machine = some a → a.inUse ≠ none →
          Replies c s s l tag .accountEdit .accountInUse .nothing)
      ∧ (∀ a, AccountFieldsInRange f → s.findAccount f.machine = some a → a.inUse = none →
          Replies c s (withAccountChanged s f.machine fun a =>
              { a with cls := f.cls, fluids := f.fluids, capacity := f.capacity, margin := f.margin })
            l tag .accountEdit .ok .nothing))

/-- ACCOUNT_BLOCK in ACTIVE or REVIEW sets BLOCKED, and ACCOUNT_UNBLOCK in BLOCKED sets REVIEW when a review reading is present
and ACTIVE otherwise, in use or not; in the other states they are refused STATE. -/
def Obligations.AccountBlockAndUnblock : Prop :=
  ∀ (l : Link) (tag : Half) (m : Nat) (s : State),
    (Admissible s l .accountBlock (.accountBlock l tag (.fields m)) →
      let c := Instr.accountBlock l tag (.fields m)
      ((m = 0 ∨ 65534 < m) → Replies c s s l tag .accountBlock .outOfRange .nothing)
      ∧ (1 ≤ m → m ≤ 65534 →
        (s.findAccount m = none → Replies c s s l tag .accountBlock .noAccount .nothing)
        ∧ ∀ a, s.findAccount m = some a →
          (a.state = .blocked → Replies c s s l tag .accountBlock .state .nothing)
          ∧ (a.state ≠ .blocked → Replies c s (withAccountChanged s m fun a => { a with state := .blocked })
              l tag .accountBlock .ok (.accountState .blocked))))
    ∧ (Admissible s l .accountUnblock (.accountUnblock l tag (.fields m)) →
      let c := Instr.accountUnblock l tag (.fields m)
      ((m = 0 ∨ 65534 < m) → Replies c s s l tag .accountUnblock .outOfRange .nothing)
      ∧ (1 ≤ m → m ≤ 65534 →
        (s.findAccount m = none → Replies c s s l tag .accountUnblock .noAccount .nothing)
        ∧ ∀ a, s.findAccount m = some a →
          (a.state ≠ .blocked → Replies c s s l tag .accountUnblock .state .nothing)
          ∧ (a.state = .blocked → Replies c s
              (withAccountChanged s m fun b => { b with state := if b.reviewHours = none then .active else .review })
              l tag .accountUnblock .ok (.accountState (if a.reviewHours = none then .active else .review)))))

/-- ACCOUNT_DELETE frees the place of an account that is not in use, and the number is then found by no lookup. LUBE_SET, whose
list of at most 4 entries may name no fluid twice, replaces the lube entries and nothing else (that its ranges are tested before
the repeated fluid is the model's choice: log entry 16). -/
def Obligations.AccountDeleteAndLubeSet : Prop :=
  ∀ (l : Link) (tag : Half) (s : State),
    (∀ m : Nat, Admissible s l .accountDelete (.accountDelete l tag (.fields m)) →
      let c := Instr.accountDelete l tag (.fields m)
      ((m = 0 ∨ 65534 < m) → Replies c s s l tag .accountDelete .outOfRange .nothing)
      ∧ (1 ≤ m → m ≤ 65534 →
        (s.findAccount m = none → Replies c s s l tag .accountDelete .noAccount .nothing)
        ∧ ∀ a, s.findAccount m = some a →
          (a.inUse ≠ none → Replies c s s l tag .accountDelete .accountInUse .nothing)
          ∧ (a.inUse = none → ∃ u, Replies c s u l tag .accountDelete .ok .nothing ∧ u = { s with accounts := u.accounts }
              ∧ u.findAccount m = none ∧ (∀ n, n ≠ m → u.findAccount n = s.findAccount n)
              ∧ ∀ x, x ∈ u.accounts ↔ x ∈ s.accounts ∧ x.machine ≠ m)))
    ∧ (∀ f : LubeFields, Admissible s l .lubeSet (.lubeSet l tag (.fields f)) →
      let c := Instr.lubeSet l tag (.fields f)
      let inRange := (1 ≤ f.machine ∧ f.machine ≤ 65534) ∧ f.entries.length ≤ 4 ∧ ∀ e ∈ f.entries,
        e.fluid ≤ 15 ∧ (1 ≤ e.interval ∧ e.interval ≤ 100000) ∧ (1 ≤ e.minQuantity ∧ e.minQuantity ≤ 2000000000)
          ∧ ∀ h, e.lastService = some h → h ≤ 9999999
      let twice := ¬ f.entries.Pairwise fun a b => a.fluid ≠ b.fluid
      (¬ inRange → Replies c s s l tag .lubeSet .outOfRange .nothing)
      ∧ (inRange → twice → Replies c s s l tag .lubeSet .duplicate .nothing)
      ∧ (inRange → ¬ twice → s.findAccount f.machine = none → Replies c s s l tag .lubeSet .noAccount .nothing)
      ∧ ∀ a, inRange → ¬ twice → s.findAccount f.machine = some a →
        (a.inUse ≠ none → Replies c s s l tag .lubeSet .accountInUse .nothing)
        ∧ (a.inUse = none → Replies c s (withAccountChanged s f.machine fun a => { a with lube := f.entries })
            l tag .lubeSet .ok .nothing))

/-- HOURS_CONFIRM in REVIEW sets the last hour reading and the fuel mark to the review reading, empties the fuel carry, removes
the review reading and the high-use mark, and leaves the account ACTIVE; the reply carries the new last reading. In another
state it is refused STATE. -/
def Obligations.HoursConfirmTakesTheReviewReading : Prop :=
  ∀ (l : Link) (tag : Half) (m : Nat) (s : State), Admissible s l .hoursConfirm (.hoursConfirm l tag (.fields m)) →
    let c := Instr.hoursConfirm l tag (.fields m)
    ((m = 0 ∨ 65534 < m) → Replies c s s l tag .hoursConfirm .outOfRange .nothing)
    ∧ (1 ≤ m → m ≤ 65534 →
      (s.findAccount m = none → Replies c s s l tag .hoursConfirm .noAccount .nothing)
      ∧ ∀ a, s.findAccount m = some a →
        (a.inUse ≠ none → Replies c s s l tag .hoursConfirm .accountInUse .nothing)
        ∧ (a.inUse = none → a.state ≠ .review → Replies c s s l tag .hoursConfirm .state .nothing)
        ∧ ∀ h, a.inUse = none → a.state = .review → a.reviewHours = some h →
          Replies c s (withAccountChanged s m fun a =>
              { a with lastHours := a.reviewHours, markHours := a.reviewHours, carry := 0, reviewHours := none,
                       highUse := none, state := .active })
            l tag .hoursConfirm .ok (.hours h))

/-- HOURS_REBASE with a reading R of 0 to 9,999,999 sets the last hour reading and the fuel mark to R, empties the carry, removes
the review reading and the high-use mark, leaves ACTIVE unless BLOCKED, and, where a last reading was present, shifts each
present hours at last service by R less it, floored at 0 and held at 9,999,999. That an absent reading is OUT_OF_RANGE is the
model's choice: log entry 16. -/
def Obligations.HoursRebaseShiftsServices : Prop :=
  ∀ (l : Link) (tag : Half) (f : RebaseFields) (s : State),
    Admissible s l .hoursRebase (.hoursRebase l tag (.fields f)) →
    let c := Instr.hoursRebase l tag (.fields f)
    ((f.machine = 0 ∨ 65534 < f.machine ∨ f.reading = none ∨ ∃ r, f.reading = some r ∧ 9999999 < r) →
      Replies c s s l tag .hoursRebase .outOfRange .nothing)
    ∧ ∀ r, 1 ≤ f.machine → f.machine ≤ 65534 → f.reading = some r → r ≤ 9999999 →
      (s.findAccount f.machine = none → Replies c s s l tag .hoursRebase .noAccount .nothing)
      ∧ ∀ a, s.findAccount f.machine = some a →
        (a.inUse ≠ none → Replies c s s l tag .hoursRebase .accountInUse .nothing)
        ∧ (a.inUse = none → ∃ g : Account → Account,
          Replies c s (withAccountChanged s f.machine g) l tag .hoursRebase .ok (.hours r)
          ∧ ∀ b, g b = { b with
              lastHours := some r, markHours := some r, carry := 0, reviewHours := none, highUse := none
              state := (g b).state, lube := (g b).lube }
            ∧ (g b).state = (if b.state = .blocked then .blocked else .active)
            ∧ (b.lastHours = none → (g b).lube = b.lube)
            ∧ ∀ old, b.lastHours = some old → (g b).lube.length = b.lube.length
              ∧ ∀ (k : Nat) (e d : LubeEntry), b.lube[k]? = some e → (g b).lube[k]? = some d →
                d = { e with lastService := d.lastService } ∧ (e.lastService = none → d.lastService = none)
                ∧ ∀ x, e.lastService = some x →
                  ∃ y, d.lastService = some y ∧ (y : Int) = min 9999999 (max 0 ((x : Int) + r - old)))

/-- ACCOUNT_READ gives the account of a machine number with, for each lube entry, its due hours and its due flag. ACCOUNT_NEXT
gives, of an account table in ascending order, the account of the least machine number above the one carried that meets the
selection and the class; when there is none it is refused NO_ACCOUNT. -/
def Obligations.AccountReadsFindAccounts : Prop :=
  ∀ (l : Link) (tag : Half) (s : State),
    (∀ m : Nat, Admissible s l .accountRead (.accountRead l tag (.fields m)) →
      let c := Instr.accountRead l tag (.fields m)
      ((m = 0 ∨ 65534 < m) → Replies c s s l tag .accountRead .outOfRange .nothing)
      ∧ (1 ≤ m → m ≤ 65534 → s.findAccount m = none → Replies c s s l tag .accountRead .noAccount .nothing)
      ∧ ∀ a, 1 ≤ m → m ≤ 65534 → s.findAccount m = some a → ∃ v,
          Replies c s s l tag .accountRead .ok (.account v) ∧ v.account = a ∧ v.due.length = a.lube.length
          ∧ ∀ (k : Nat) (e : LubeEntry), a.lube[k]? = some e →
            ∃ due flag, v.due[k]? = some (due, flag) ∧ due = e.lastService.map (· + e.interval)
              ∧ (flag = true ↔ a.state = .active ∧ ∃ d h, due = some d ∧ a.lastHours = some h ∧ d ≤ h))
    ∧ (∀ f : NextFields, Admissible s l .accountNext (.accountNext l tag (.fields f)) →
      let c := Instr.accountNext l tag (.fields f)
      let fits (a : Account) : Prop := f.above < a.machine ∧ (∀ x, f.cls = some x → a.cls = x) ∧
        (match f.selection with
          | .all => True
          | .review => a.state = .review
          | .highUse => a.highUse ≠ none
          | .blocked => a.state = .blocked)
      (65534 < f.above → Replies c s s l tag .accountNext .outOfRange .nothing)
      ∧ (f.above ≤ 65534 → (∀ a ∈ s.accounts, ¬ fits a) → Replies c s s l tag .accountNext .noAccount .nothing)
      ∧ (f.above ≤ 65534 → AccountsLaw s → (∃ a ∈ s.accounts, fits a) → ∃ v,
          Replies c s s l tag .accountNext .ok (.account v) ∧ v.account ∈ s.accounts ∧ fits v.account
          ∧ ∀ a ∈ s.accounts, fits a → v.account.machine ≤ a.machine))

/-! ## The shutdown unit -/

/-- SHUTDOWN_READ of one object lists its entry or none. SHUTDOWN_READ of ALL lists the latched objects at or after the starting
object in scope order, at most 12 of them, each with its entry and whether the condition of its first cause is present by the
table of R149, and names no next object exactly when it lists them all. Both carry the stop level, the relay and the pump
enables. -/
def Obligations.ShutdownReadListsTheMap : Prop :=
  ∀ (l : Link) (tag : Half) (sel : ShutdownSelect) (s : State),
    Admissible s l .shutdownRead (.shutdownRead l tag (.fields sel)) →
    ∃ v, Replies (.shutdownRead l tag (.fields sel)) s s l tag .shutdownRead .ok (.shutdown v)
      ∧ v.stop = s.shut.stop ∧ v.relay = s.shut.relay ∧ v.pumps = s.shut.pumps
      ∧ (∀ w ∈ v.entries, s.entryAt w.object = some w.entry
          ∧ (w.conditionPresent = true ↔ ConditionHolds s w.entry.firstCause w.object))
      ∧ (∀ o, sel = .one o → v.entries.map (·.object) = if s.entryAt o = none then [] else [o])
      ∧ ∀ o, sel = .all o →
        v.entries.map (·.object) =
            (Scope.codes.filter fun x => decide (o.code ≤ x.code) && (s.entryAt x).isSome).take 12
          ∧ (v.next = none ↔ (Scope.codes.filter fun x => decide (o.code ≤ x.code) && (s.entryAt x).isSome).length ≤ 12)

/-- SHUTDOWN_CLEAR is refused NOT_LATCHED for an object with no entry, CONDITION_PRESENT while the condition of the first cause
is present by the table of R149 (and for the bay while the stop input is asserted); otherwise the entry is removed, the reply
carries its first cause, capture and repeats, and the outputs follow. Orders, hoses and tanks are as they were. -/
def Obligations.ShutdownClearRemovesTheEntry : Prop :=
  ∀ (l : Link) (tag : Half) (o : Scope) (s : State), Admissible s l .shutdownClear (.shutdownClear l tag (.fields o)) →
    let c := Instr.shutdownClear l tag (.fields o)
    (s.entryAt o = none → Replies c s s l tag .shutdownClear .notLatched .nothing)
    ∧ ∀ e, s.entryAt o = some e →
      ((ConditionHolds s e.firstCause o ∨ (o = .bay ∧ s.shut.stop = true)) →
        Replies c s s l tag .shutdownClear .conditionPresent .nothing)
      ∧ (¬ ConditionHolds s e.firstCause o → (o ≠ .bay ∨ s.shut.stop = false) → ∃ u,
        Replies c s u l tag .shutdownClear .ok (.cleared e.firstCause e.capture e.repeats)
        ∧ u = { s with shut := u.shut } ∧ u.entryAt o = none ∧ (∀ x, x ≠ o → u.entryAt x = s.entryAt x)
        ∧ OutputsFollow { s with shut := { s.shut with map := u.shut.map } } u)

/-- The four trip requests: on an object that is latched the repeat count rises by one, saturating at 255, and the reply says
REPEAT with the first cause; on an object that is not latched the trip is carried out, whose entry has the link as origin, the
clock, the capture of R153 and no repeats, and the reply says NEW. The RUNNING and SUSPENDED steps on the object settle SHUTDOWN,
or with the status they carry, SETTLING ones take the cause, those in WAITING_COUPLE end SHUTDOWN at once and give back what they
have reserved, the orders of an island or the bay go to ENDING, and TRIP is raised; an island's order, or the one order of the
bay, that only waiting steps kept alive is handed off. What the ends of steps leave open is log entries 17, 30 and 34. A
request for an island above 3, a tank above 9 or a hose above 15 is refused OUT_OF_RANGE and changes nothing. -/
def Obligations.TripRequestsLatchOrRepeat : Prop :=
  (∀ (l : Link) (tag : Half) (s : State) (o : Scope) (c : Instr) (k : Kind) (cause : Cause) (r : Report),
     ((c = .tripBay l tag (.fields ()) ∧ k = .tripBay ∧ o = .bay ∧ cause = .bayStop ∧ r = .bayStop (some l))
       ∨ (∃ i : IslandNo, c = .tripIsland l tag (.fields i.val) ∧ k = .tripIsland ∧ o = .island i ∧ cause = .linkTrip
           ∧ r = .linkTrip o l)
       ∨ (∃ t : TankNo, c = .tripTank l tag (.fields t.val) ∧ k = .tripTank ∧ o = .tank t ∧ cause = .linkTrip
           ∧ r = .linkTrip o l)
       ∨ (∃ h : HoseNo, c = .tripHose l tag (.fields h.val) ∧ k = .tripHose ∧ o = .hose h ∧ cause = .linkTrip
           ∧ r = .linkTrip o l)) →
     Admissible s l k c →
     (∀ e, s.entryAt o = some e → Replies c s
       { s with shut := { s.shut with map := (s.shut.map.put o.code (some { e with repeats := min 255 (e.repeats + 1) })) } }
       l tag k .ok (.trip .again e.firstCause (min 255 (e.repeats + 1))))
     ∧ (s.entryAt o = none → ∃ u, Replies c s u l tag k .ok (.trip .new cause 0)
       ∧ (∃ capture, u.entryAt o = some
           { firstCause := cause, origin := .link l, clock := s.supply.clock, clockNotSet := !s.supply.clockSet
             capture := capture, repeats := 0 })
       ∧ (∀ x, x ≠ o → u.entryAt x = s.entryAt x) ∧ u.cfg = s.cfg ∧ u.supply = s.supply ∧ u.pins = s.pins
       ∧ Tripped s u r))
  ∧ ∀ (l : Link) (tag : Half) (n : Nat) (s : State),
      (3 < n → Admissible s l .tripIsland (.tripIsland l tag (.fields n)) →
        Replies (.tripIsland l tag (.fields n)) s s l tag .tripIsland .outOfRange .nothing)
      ∧ (9 < n → Admissible s l .tripTank (.tripTank l tag (.fields n)) →
        Replies (.tripTank l tag (.fields n)) s s l tag .tripTank .outOfRange .nothing)
      ∧ (15 < n → Admissible s l .tripHose (.tripHose l tag (.fields n)) →
        Replies (.tripHose l tag (.fields n)) s s l tag .tripHose .outOfRange .nothing)

/-- A report is dealt with by the action in force for its cause: OFF does nothing, WARN counts a warning and raises WARNING, TRIP
on a latched object raises its repeat count, and TRIP on an object not latched carries the trip out: the entry with the
report's cause and origin and the capture of R153, the outputs following, the configuration, the supply and the pins alone.
The RUNNING and SUSPENDED steps on the object close their valves and settle SHUTDOWN, or with the status they carry, SETTLING ones
take the cause, those in WAITING_COUPLE end SHUTDOWN at once and give back what they have reserved, the orders of an island or
the bay go to ENDING with status SHUTDOWN unless one is recorded, and TRIP is raised; an island's order, or the one order of the
bay, that only waiting steps kept alive is handed off (what the ends of steps leave open is log entries 17, 30 and 34). In each case the report is no
longer on its way. The emergency stop input takes its level, and its assertion is a report of BAY_STOP from the field. That a
report need not be on its way to be taken, and that a level already held changes the pin only, are the model's choices: log
entries 10 and 5. -/
def Obligations.ReportsFollowTheAction : Prop :=
  (∀ (r : Report) (s : State), s.running = true →
    let o := reportObject r
    let cause := reportCause r
    let after := { s with reports := s.reports.erase r }
    (s.actionOf cause = .off → exec (.shutdownReport r) s = .next after)
    ∧ (s.actionOf cause = .warn → exec (.shutdownReport r) s = .next
        { after with
          shut := { s.shut with warnings := (s.shut.warnings.modify cause.index fun w =>
            { count := min 65535 (w.count + 1), last := some o, lastClock := some s.supply.clock
              clockNotSet := !s.supply.clockSet }) }
          ports := raised s [notice .warning] })
    ∧ (∀ e, s.actionOf cause = .trip → s.entryAt o = some e → exec (.shutdownReport r) s = .next
        { after with shut := { s.shut with map := (s.shut.map.put o.code
            (some { e with repeats := min 255 (e.repeats + 1) })) } })
    ∧ (s.actionOf cause = .trip → s.entryAt o = none → ∃ t, exec (.shutdownReport r) s = .next t
        ∧ (∃ capture, t.entryAt o = some
            { firstCause := cause, origin := reportOrigin r, clock := s.supply.clock, clockNotSet := !s.supply.clockSet
              capture := capture, repeats := 0 })
        ∧ (∀ x, x ≠ o → t.entryAt x = s.entryAt x) ∧ t.cfg = s.cfg ∧ t.supply = s.supply ∧ t.pins = s.pins
        ∧ Tripped after t r))
  ∧ ∀ (level : Bool) (s : State), s.running = true →
    (s.shut.stop = level → exec (.emergencyStopChange level) s = .next { s with pins := { s.pins with stop := level } })
    ∧ (s.shut.stop = true → level = false → exec (.emergencyStopChange level) s = .next
        { s with pins := { s.pins with stop := false }, shut := { s.shut with stop := false } })
    ∧ (s.shut.stop = false → level = true → ∀ e, s.entryAt .bay = some e → exec (.emergencyStopChange level) s = .next
        { s with
          pins := { s.pins with stop := true }
          shut := { s.shut with
            stop := true
            map := s.shut.map.put Scope.bay.code (some { e with repeats := min 255 (e.repeats + 1) }) } })
    ∧ (s.shut.stop = false → level = true → s.entryAt .bay = none → ∃ t, exec (.emergencyStopChange level) s = .next t
        ∧ t.shut.stop = true ∧ t.shut.relay = false ∧ (∀ k : TankNo, t.shut.pumps.get k = false)
        ∧ Tripped { s with pins := { s.pins with stop := true }, shut := { s.shut with stop := true } } t (.bayStop none)
        ∧ ∃ e, t.entryAt .bay = some e ∧ e.firstCause = .bayStop ∧ e.origin = .field ∧ e.repeats = 0)

/-! ## Service orders -/

/-- ORDER_ADMIT makes its checks in order, one that fails refuses it and changes nothing, and one that passes them all is
accepted with OK: the island exists and is enabled, the supply is
NORMAL, the island is PRESENT, its slot is free, no entry holds it or the bay, the account exists, is not BLOCKED, is not in
use, the hour reading is not behind its last, the body holds 1 to 8 well-formed steps, no hose named nor its tank is latched,
every fluid drawn is permitted, and the journal has a free record that is not reserved. -/
def Obligations.AdmissionChecksInOrder : Prop :=
  ∀ (l : Link) (tag : Half) (f : AdmitFields) (s : State), Admissible s l .orderAdmit (.orderAdmit l tag (.fields f)) →
    let refused (e : Code) := Replies (.orderAdmit l tag (.fields f)) s s l tag .orderAdmit e .nothing
    (3 < f.island → refused .islandDisabled)
    ∧ ∀ i : IslandNo, f.island = i.val →
      if (s.cfg.islands.get i).enabled = false then refused .islandDisabled
      else if s.supply.state = .hold then refused .supplyHold
      else if (s.islands.get i).presence ≠ .present then refused .notPresent
      else if s.orders.get i ≠ none then refused .islandBusy
      else if s.entryAt (.island i) ≠ none ∨ s.entryAt .bay ≠ none then refused .shut
      else match s.findAccount f.machine with
        | none => refused .noAccount
        | some a =>
          if a.state = .blocked then refused .accountBlocked
          else if a.inUse ≠ none then refused .accountInUse
          else ((∃ x y, f.hour = some x ∧ a.lastHours = some y ∧ x < y) → refused .hourBehind)
            ∧ ((¬ ∃ x y, f.hour = some x ∧ a.lastHours = some y ∧ x < y) →
                (¬ GoodSteps s i f.steps → refused .badStep)
                ∧ (GoodSteps s i f.steps →
                    (NamesLatched s f.steps → refused .shut)
                    ∧ (¬ NamesLatched s f.steps →
                        (NamesForbiddenFluid s a f.steps → refused .fluidNotPermitted)
                        ∧ (¬ NamesForbiddenFluid s a f.steps →
                            (64 ≤ s.journal.records.length + s.journal.reserved → refused .journalFull)
                            ∧ (s.journal.records.length + s.journal.reserved < 64 →
                                (∃ steps, admissionChecks f s = .ok (i, steps))
                                ∧ ∃ u due review, Replies (.orderAdmit l tag (.fields f)) s u l tag .orderAdmit .ok
                                    (.admitted due review))))))

/-- An accepted ORDER_ADMIT: the order takes the island's slot with the steps as the body and the configuration give them, the
account is in use by the island and takes the hour reading by R116 (ACCOUNT_REVIEW when it leaps), and the journal holds one
more place (JOURNAL_LOW when 8 are left). With HOLD_BEFORE on the first step it is in HELD(GAP), ORDER_HELD is raised, and
nothing flows. Without it the order is ACTIVE, and where the hoses of group 1 are not coupled each of its steps waits for its
coupling with the couple-wait timer running. Nothing else changes. That group 1 is not deferred here is log entry 29. -/
def Obligations.AdmissionHoldsAtItsGap : Prop :=
  ∀ (l : Link) (tag : Half) (f : AdmitFields) (i : IslandNo) (a : Account) (steps : List Step) (st : Step) (s : State),
    Admissible s l .orderAdmit (.orderAdmit l tag (.fields f)) → Steady s →
    admissionChecks f s = .ok (i, steps) → steps.head? = some st → s.findAccount f.machine = some a →
    let o : Order :=
      { machine := f.machine, hour := f.hour, admissionClock := s.supply.clock, clockNotSet := !s.supply.clockSet
        state := .active, hold := none, gapTaken := none, group := 1, endStatus := none, seq := none, steps }
    let before (b : Account) : List Notice := noticeIf (a.state = .active ∧ b.state = .review) (notice .accountReview)
      ++ noticeIf (64 - s.journal.records.length - s.journal.reserved = 9) (notice .journalLow)
    let accepted (t u : State) (b : Account) (notices : List Notice) : Prop :=
      exec (.orderAdmit l tag (.fields f)) s = .next t
        ∧ (∃ due, OnlyAnswered u t l (reply tag .orderAdmit .ok (.admitted due (decide (b.state = .review)))))
        ∧ OutputsFollow s u
        ∧ u = { s with
            orders := u.orders, hoses := u.hoses, accounts := u.accounts, shut := u.shut
            journal := { s.journal with reserved := s.journal.reserved + 1 }, ports := raised s notices }
        ∧ u.findAccount f.machine = some b ∧ (∀ n, n ≠ f.machine → u.findAccount n = s.findAccount n)
        ∧ ReadingTaken s i f.hour a b
    f.island = i.val ∧ steps.length = f.steps.length
    ∧ (∀ (k : Nat) (x : AdmitStep) (w : Step), f.steps[k]? = some x → steps[k]? = some w → AdmittedStep s a x w)
    ∧ (st.holdBefore = true → ∃ t u b, accepted t u b (before b ++ [noticeAt .orderHeld i])
        ∧ u.orders = putOrder s i { o with state := .held, hold := some .gap, gapTaken := some 1 } ∧ u.hoses = s.hoses)
    ∧ (st.holdBefore = false →
        (∀ (k : Nat) (w : Step), steps[k]? = some w → groupOf steps k = 1 → (s.hoses.get w.hose).coupled = false) →
        ∃ t u b, accepted t u b (before b) ∧ GroupStarted s u i o 1)

/-- ORDER_HOLD: no order is NO_ORDER, an order that is not ACTIVE is refused STATE; an ACTIVE order with a started step goes to
HOLD_PENDING(REQUEST), one without goes to HELD(REQUEST) and ORDER_HELD is raised. Its steps are as they were. ORDER_CONTINUE:
NOT_HELD for an ACTIVE order and for one in ENDING that no step holds for power, STATE for HOLD_PENDING(POWER), SUPPLY_HOLD for
a power hold while the supply is in HOLD; HOLD_PENDING(REQUEST) returns to ACTIVE with its hold discarded. A HELD(GAP) or
HELD(REQUEST) order, and a HELD(POWER) one without started steps, returns to ACTIVE: away from its machine it starts nothing,
with the machine PRESENT the group of its first PENDING step is started, unless that group's gap is still to be taken. With the
supply NORMAL, the steps SUSPENDED(POWER) of an order in HELD(POWER) or ENDING resume. -/
def Obligations.OrderHoldAndContinue : Prop :=
  (∀ (l : Link) (tag : Half) (n : Nat) (s : State), Admissible s l .orderHold (.orderHold l tag (.fields n)) →
     let c := Instr.orderHold l tag (.fields n)
     (3 < n → Replies c s s l tag .orderHold .outOfRange .nothing)
     ∧ ∀ i : IslandNo, n = i.val →
       (s.orders.get i = none → Replies c s s l tag .orderHold .noOrder .nothing)
       ∧ ∀ o, s.orders.get i = some o →
         (o.state ≠ .active → Replies c s s l tag .orderHold .state .nothing)
         ∧ (o.state = .active → (∃ st ∈ o.steps, st.state ≠ .pending ∧ st.state ≠ .ended ∧ st.state ≠ .notRun) →
             Replies c s { s with orders := putOrder s i { o with state := .holdPending, hold := some .request } }
               l tag .orderHold .ok .nothing)
         ∧ (o.state = .active → (∀ st ∈ o.steps, st.state = .pending ∨ st.state = .ended ∨ st.state = .notRun) →
             Replies c s
               { s with
                 orders := putOrder s i { o with state := .held, hold := some .request }
                 ports := raised s [noticeAt .orderHeld i] } l tag .orderHold .ok .nothing))
  ∧ ∀ (l : Link) (tag : Half) (n : Nat) (s : State), Admissible s l .orderContinue (.orderContinue l tag (.fields n)) →
      let c := Instr.orderContinue l tag (.fields n)
      (3 < n → Replies c s s l tag .orderContinue .outOfRange .nothing)
      ∧ ∀ i : IslandNo, n = i.val →
        (s.orders.get i = none → Replies c s s l tag .orderContinue .noOrder .nothing)
        ∧ ∀ o, s.orders.get i = some o →
          (o.state = .active → Replies c s s l tag .orderContinue .notHeld .nothing)
          ∧ (o.state = .holdPending → o.hold = some .power → Replies c s s l tag .orderContinue .state .nothing)
          ∧ (o.state = .held → o.hold = some .power → s.supply.state = .hold →
              Replies c s s l tag .orderContinue .supplyHold .nothing)
          ∧ (o.state = .holdPending → o.hold = some .request →
              Replies c s { s with orders := putOrder s i { o with state := .active, hold := none } }
                l tag .orderContinue .ok .nothing)
          ∧ (o.state = .ending → (∀ st ∈ o.steps, st.suspension ≠ some .power) →
              Replies c s s l tag .orderContinue .notHeld .nothing)
          ∧ (o.state = .ending → (∃ st ∈ o.steps, st.state = .suspended ∧ st.suspension = some .power) →
              s.supply.state = .hold → Replies c s s l tag .orderContinue .supplyHold .nothing)
          ∧ (Steady s → o.state = .held →
              ((o.hold = some .gap ∨ o.hold = some .request)
                ∨ (o.hold = some .power ∧ s.supply.state = .normal ∧ o.endStatus = none
                    ∧ ∀ st ∈ o.steps, ¬ InFlight st)) →
              let p : Order := { o with state := .active, hold := none }
              ((s.islands.get i).presence ≠ .present → ∃ u, Replies c s u l tag .orderContinue .ok .nothing
                ∧ OutputsFollow s u ∧ u = { s with orders := putOrder s i p, shut := u.shut })
              ∧ ∀ (k : Nat) (st : Step), (s.islands.get i).presence = .present → o.steps[k]? = some st →
                st.state = .pending → (∀ w ∈ o.steps.take k, w.state = .ended ∨ w.state = .notRun) →
                ((st.holdBefore = false ∨ o.gapTaken = some (groupOf o.steps k)) → GroupFree s i o (groupOf o.steps k) →
                  ∃ u, Replies c s u l tag .orderContinue .ok .nothing ∧ OutputsFollow s u
                    ∧ GroupStarted s u i p (groupOf o.steps k)
                    ∧ u = { s with orders := u.orders, hoses := u.hoses, shut := u.shut })
                ∧ (st.holdBefore = true → o.gapTaken ≠ some (groupOf o.steps k) →
                  ∃ u, Replies c s u l tag .orderContinue .ok .nothing ∧ OutputsFollow s u
                    ∧ u = { s with
                        orders := putOrder s i
                          { o with state := .held, hold := some .gap, gapTaken := some (groupOf o.steps k) }
                        ports := raised s [noticeAt .orderHeld i], shut := u.shut }))
          ∧ (Steady s → s.supply.state = .normal →
              ((o.state = .held ∧ o.hold = some .power) ∨ (o.state = .ending ∧ o.hold = none)) →
              (∃ st ∈ o.steps, InFlight st) →
              (∀ k st, HasStep s ⟨i, k⟩ st → InFlight st → StepOfHose s st.hose ⟨i, k⟩ st ∧
                st.state = .suspended ∧ st.suspension = some .power ∧ st.endStatus = none ∧ netOf st < st.target) →
              ∃ u, Replies c s u l tag .orderContinue .ok .nothing ∧ OutputsFollow s u
                ∧ u = { s with
                    orders := putOrder s i { o with
                      state := if o.state = .ending ∨ o.endStatus.isSome then .ending else .active
                      hold := none
                      steps := o.steps.map fun st => if InFlight st then resumedStep s i st else st }
                    hoses := u.hoses, shut := u.shut }
                ∧ ∀ h, (∀ r st, StepOfHose s h r st → InFlight st → r.island = i →
                      u.hoses.get h = resumedChannel s i st (s.hoses.get h))
                    ∧ ((∀ r st, StepOfHose s h r st → InFlight st → r.island ≠ i) →
                      u.hoses.get h = s.hoses.get h))

/-- ORDER_CANCEL: STATE for an order in ENDING. Any other goes to ENDING with status CANCELLED unless one is recorded, its PENDING
steps NOT_RUN; its RUNNING steps close their valves and settle CANCELLED, its SUSPENDED ones settle CANCELLED or with their own
status, its SETTLING ones are as they were, and those in WAITING_COUPLE end CANCELLED at once with nothing metered, give back what
they have reserved, and have STEP_ENDED raised. While a step is started, that is all. An order with no started step left is
handed off: the record in its place, the account with its lifetime totals, carry, rate, high-use mark and lube services by R119
to R122, the island's sequence number, and the notices up to ORDER_ENDED. Which limit a step without a target carries, and that a
step which settles or ends has no suspension reason, are the model's readings: log entries 17 and 34. -/
def Obligations.CancelOfAWaitingOrderEndsIt : Prop :=
  ∀ (l : Link) (tag : Half) (n : Nat) (s : State), Admissible s l .orderCancel (.orderCancel l tag (.fields n)) →
    let c := Instr.orderCancel l tag (.fields n)
    (3 < n → Replies c s s l tag .orderCancel .outOfRange .nothing)
    ∧ ∀ i : IslandNo, n = i.val →
      (s.orders.get i = none → Replies c s s l tag .orderCancel .noOrder .nothing)
      ∧ ∀ o, s.orders.get i = some o →
        (o.state = .ending → Replies c s s l tag .orderCancel .state .nothing)
        ∧ (Steady s → BooksLaw s → AtTheirHoses s i → o.state ≠ .ending →
            ∃ u, Replies c s u l tag .orderCancel .ok .nothing ∧ OrderClosed s u i o .cancelled .cancelled)

/-! ## Hose channels -/

/-- STEP_STOP is refused OUT_OF_RANGE for an island above 3 or an index outside 1 to 8, NO_ORDER, or STATE for a step that is
not started or is SETTLING; a RUNNING step closes its valve and settles with status STOPPED, a SUSPENDED one settles STOPPED or with
the status it carries, its net at valve close kept, and its run-on beyond the limit is reported. That it then has no
suspension reason is the model's choice: log entry 34. (The end of a step in WAITING_COUPLE is TimersEndTheStep.) -/
def Obligations.StepStopClosesTheStep : Prop :=
  ∀ (l : Link) (tag : Half) (f : StopFields) (s : State), Admissible s l .stepStop (.stepStop l tag (.fields f)) →
    let c := Instr.stepStop l tag (.fields f)
    ((3 < f.island ∨ f.index = 0 ∨ 8 < f.index) → Replies c s s l tag .stepStop .outOfRange .nothing)
    ∧ ∀ i : IslandNo, f.island = i.val → 1 ≤ f.index → f.index ≤ 8 →
      (s.orders.get i = none → Replies c s s l tag .stepStop .noOrder .nothing)
      ∧ (∀ o, s.orders.get i = some o → o.steps.length < f.index → Replies c s s l tag .stepStop .state .nothing)
      ∧ ∀ st, HasStep s ⟨i, f.index - 1⟩ st →
        (st.state ∈ [StepState.pending, .settling, .ended, .notRun] → Replies c s s l tag .stepStop .state .nothing)
        ∧ (Steady s → Running st ∨ st.state = .suspended → ∃ u, Replies c s u l tag .stepStop .ok .nothing
            ∧ OutputsFollow s u
            ∧ u = { s with
                hoses := s.hoses.modify st.hose (settlingChannel st.ctx.settleTime)
                orders := putStep s ⟨i, f.index - 1⟩ (closedStep .stopped st)
                reports := s.reports ++ runOnsOf [st]
                shut := u.shut })

/-- A pulse at a hose whose step is metered is counted to the step whatever its state. In RUNNING it restarts the stall timer
and counts in the rate window; at the slow-down point of RUNNING_FAST the valve goes to LOW, and at the target the valve
closes and the step settles with status COMPLETE. In SETTLING it restarts the settle timer, and the first run-on beyond the
limit is reported. In SUSPENDED nothing more happens. -/
def Obligations.PulsesAreMeteredToTheStep : Prop :=
  ∀ (h : HoseNo) (r : StepRef) (st : Step) (s : State), Steady s → StepOfHose s h r st →
    let p := pulsed st
    (st.state = .suspended → ∃ t, exec (.meterPulse h) s = .next t ∧ OutputsFollow s t
      ∧ t = { s with orders := putStep s r p, shut := t.shut })
    ∧ (∀ n, st.state = .settling → st.netAtClose = some n → ∃ t, exec (.meterPulse h) s = .next t ∧ OutputsFollow s t
      ∧ (if st.runOnReported = false ∧ st.ctx.runOnLimit < netOf p - n then
          t = { s with
            hoses := s.hoses.modify h fun k => { k with settleTimer := some st.ctx.settleTime }
            orders := putStep s r { p with runOnReported := true }
            reports := s.reports ++ [.runOn h]
            shut := t.shut }
        else t = { s with
            hoses := s.hoses.modify h fun k => { k with settleTimer := some st.ctx.settleTime }
            orders := putStep s r p
            shut := t.shut }))
    ∧ (Running st → st.endStatus = none → ∃ t, exec (.meterPulse h) s = .next t ∧ OutputsFollow s t
      ∧ (if st.target ≤ netOf p then
          t = { s with
            hoses := s.hoses.modify h (settlingChannel st.ctx.settleTime)
            orders := putStep s r (settlingStep .complete p)
            shut := t.shut }
        else if st.state = .runningFast ∧ st.target - st.ctx.slowDown ≤ netOf p then
          t = { s with
            hoses := s.hoses.modify h fun k => { k with
              stallTimer := some (st.ctx.stallTime * 10), windowCount := k.windowCount + 1, valve := .low }
            orders := putStep s r { p with state := .runningSlow }
            shut := t.shut }
        else t = { s with
            hoses := s.hoses.modify h fun k => { k with
              stallTimer := some (st.ctx.stallTime * 10), windowCount := k.windowCount + 1 }
            orders := putStep s r p
            shut := t.shut }))

/-- A pulse at a hose without a step is a stray pulse: the stray count rises, saturating at 255, the quiet timer restarts, and
reaching the threshold is reported once. At an enabled hose with a tank it is priced at the tank's fluid and the hose's
temperature, and whole millilitres are charged to the book and to the unassigned draws; a charge that would carry the book beyond
a limit leaves it there and sets the book-limit flag. Otherwise nothing is charged. -/
def Obligations.StrayPulsesAreCountedAndCharged : Prop :=
  ∀ (h : HoseNo) (s : State), Steady s → (s.hoses.get h).step = none →
    let c := s.cfg.hoses.get h
    let n := min 255 ((s.hoses.get h).strayCount + 1)
    let due := !(s.hoses.get h).strayReported && decide (c.strayThreshold ≤ n)
    let counted (k : Channel) : Channel := { k with
      strayCount := n, strayTimer := some c.settleTime
      strayReported := k.strayReported || decide (c.strayThreshold ≤ n) }
    let reports := s.reports ++ (if due then [Report.strayFlow h] else [])
    ((c.enabled = false ∨ c.tank = none) → ∃ t, exec (.meterPulse h) s = .next t ∧ OutputsFollow s t
      ∧ t = { s with hoses := s.hoses.modify h counted, reports := reports, shut := t.shut })
    ∧ ∀ k : TankNo, c.enabled = true → c.tank = some k →
      let e := s.cfg.fluids.get (s.cfg.tanks.get k).fluid
      let temp : Int := match (s.hoses.get h).temp with
        | some x => x
        | none => if (s.tanks.get k).gauge.valid then clamped (s.tanks.get k).gauge.temp else 150
      let acc := (s.hoses.get h).strayAcc + c.factor * factorC7 (if e.isDefined then e.beta else 0) temp
      let charge := (acc + 5000000000) / 10000000000 - (s.hoses.get h).strayCharged
      let charged (x : Tank) : Tank := watchRestarted (s.cfg.tanks.get k).quietTime
        { bookCharged (-(charge : Int)) x with
          unassigned := min 4294967295 (x.unassigned + charge)
          receipt := x.receipt.map fun r => { r with drawn := r.drawn + charge } }
      ∃ t, exec (.meterPulse h) s = .next t ∧ OutputsFollow s t
        ∧ t = { s with
            hoses := s.hoses.modify h fun x =>
              { counted x with strayAcc := acc, strayCharged := x.strayCharged + charge }
            tanks := s.tanks.modify k charged
            ports := raised s
              (noticeIf (lowPassed (s.cfg.tanks.get k) (s.tanks.get k) (charged (s.tanks.get k))) (notice .tankLow))
            reports := reports
            shut := t.shut }

/-- A valid reading of a hose's temperature input is kept at the hose, clamped, and is in force for its started step from the
probe, with the C7 that follows; a faulty one leaves the last in force, and a step whose source was the probe goes on with the
held value. -/
def Obligations.ProbeReadingsSetTheTemperature : Prop :=
  ∀ (h : HoseNo) (x : Int) (s : State), s.running = true →
    (((s.hoses.get h).step = none → exec (.probeReading h (.valid x)) s = .next
        { s with hoses := s.hoses.modify h fun k => { k with temp := some (clamped x) } })
      ∧ ((s.hoses.get h).step = none → exec (.probeReading h .faulty) s = .next s))
    ∧ ∀ r st, StepOfHose s h r st → st.state ≠ .pending → st.state ≠ .ended → st.state ≠ .notRun →
      exec (.probeReading h (.valid x)) s = .next
        { s with
          hoses := s.hoses.modify h fun k => { k with temp := some (clamped x) }
          orders := putStep s r (withTemperature .probe x st) }
      ∧ (st.tempSource = .probe → exec (.probeReading h .faulty) s = .next
          { s with orders := putStep s r { st with tempSource := .probeHeld } })
      ∧ (st.tempSource ≠ .probe → ∃ t, exec (.probeReading h .faulty) s = .next t
          ∧ t = { s with orders := putStep s r st })

/-- A coupling that changes nothing else: a hose already coupled (the model's choice: log entry 5), a hose without a step, and a
part that does not run. A coupling that makes the claim conditions of a waiting step without a reservation hold, the step wanting
T (the least of its preset, step limit and capacity bound) of its tank: T is reserved when the tank can give it, to a draw from
what is available and to a recovery from the room, else the whole quantity when that is at least 1 and the minimum start, with
limited-by STOCK or ROOM; the watch is BUSY and the step enters RUNNING at the stage of R35. A claim on a tank OUT_OF_SERVICE, or
one that the tank cannot give, is refused, and a covered step does not claim: the step ends at once with target 0 and no
quantities, and while another step of the group goes on, that is all. -/
def Obligations.CouplingClaimsTheStock : Prop :=
  ∀ (h : HoseNo) (s : State),
    let pins := { s.pins with coupling := s.pins.coupling.put h true }
    (s.running = false → exec (.hoseCoupled h) s = .next { s with pins := pins })
    ∧ (s.running = true → (s.hoses.get h).coupled = true → exec (.hoseCoupled h) s = .next { s with pins := pins })
    ∧ (Steady s → (s.hoses.get h).coupled = false → (s.hoses.get h).step = none →
        ∃ t, exec (.hoseCoupled h) s = .next t ∧ OutputsFollow s t
          ∧ t = { s with pins := pins, hoses := s.hoses.modify h fun k => { k with coupled := true }, shut := t.shut })
    ∧ ∀ r st amount limit, Steady s → (s.hoses.get h).coupled = false → StepOfHose s h r st →
      st.state = .waitingCouple → st.suspension = none → st.target = 0 → st.netAcc = 0 → Wants st amount limit →
      1 ≤ amount → (s.islands.get r.island).presence = .present → s.supply.state = .normal →
      let b : State := { s with pins := pins, hoses := s.hoses.modify h fun k => { k with coupled := true } }
      ∃ t, exec (.hoseCoupled h) s = .next t ∧ OutputsFollow s t
        ∧ ClaimTaken b t h r st amount limit
            fun o => o.state = .active ∧ GroupGoesOn o r.idx ∧ st.stopOnError = false

/-- An uncoupling, and the expiry of the stall timer, at a RUNNING step: the valve closes and the step settles, UNCOUPLED, or
STALLED for a preset kind and FULL for an open kind. An uncoupling of a hose without a step changes its coupling only, and a
stall timer that does not run changes nothing (the model's choice: log entry 5). -/
def Obligations.ClosingsSettleTheStep : Prop :=
  ∀ (h : HoseNo) (s : State), Steady s →
    let pins := { s.pins with coupling := s.pins.coupling.put h false }
    ((s.hoses.get h).coupled = true → (s.hoses.get h).step = none →
      ∃ t, exec (.hoseUncoupled h) s = .next t ∧ OutputsFollow s t
        ∧ t = { s with pins := pins, hoses := s.hoses.modify h fun k => { k with coupled := false }, shut := t.shut })
    ∧ ((s.hoses.get h).stallTimer = none → ∃ t, exec (.stallTimerExpiry h) s = .next t ∧ OutputsFollow s t
        ∧ t = { s with shut := t.shut })
    ∧ ∀ r st, StepOfHose s h r st → Running st → st.endStatus = none →
      ((s.hoses.get h).coupled = true → ∃ t, exec (.hoseUncoupled h) s = .next t ∧ OutputsFollow s t
        ∧ t = { s with
            pins := pins
            hoses := s.hoses.modify h fun k => settlingChannel st.ctx.settleTime { k with coupled := false }
            orders := putStep s r (settlingStep .uncoupled st)
            shut := t.shut })
      ∧ ((s.hoses.get h).stallTimer ≠ none → ∃ t, exec (.stallTimerExpiry h) s = .next t ∧ OutputsFollow s t
        ∧ t = { s with
            hoses := s.hoses.modify h (settlingChannel st.ctx.settleTime)
            orders := putStep s r (settlingStep
              (if st.kind = .preset ∨ st.kind = .presetRecover then .stalled else .full) st)
            shut := t.shut })

/-- The expiry of the couple-wait timer, a STEP_STOP, and a hose or tank trip with no other step in flight on its object, end a
waiting step NOT_COUPLED, STOPPED or SHUTDOWN, with nothing metered and its target as residue; the expiry of the settle timer ends
a SETTLING step with the status of its closing and its metered figures. The tank is charged, its book held at its limits with the
book-limit flag set, the channel is free and STEP_ENDED is raised. That is all while another step of an ACTIVE order's group goes
on, while an order in ENDING or HOLD_PENDING has a step to wait for, of an order in HELD with a step left, and while the machine
of the next group is away. An error of a step with STOP_ON_ERROR puts the order in ENDING, STOPPED, with its PENDING steps
NOT_RUN, and hands it off when no step is started. The last started step of an order in ENDING hands it off, and so does the last
step of one in HELD. The last started step of a HOLD_PENDING(REQUEST) order, and the last SETTLING one of a HOLD_PENDING(POWER)
order, take it to HELD while steps remain, and ORDER_HELD is raised; when none remains the order is handed off. The last step of a
group starts the next group, or holds the order at its gap. That a recorded end status stands when STOP_ON_ERROR stops the order,
which limit a step without a target carries, that a gap is entered only with the machine PRESENT, and that a step which ends has no
suspension reason, are the model's readings: log entries 18, 17, 33 and 34. -/
def Obligations.TimersEndTheStep : Prop :=
  ∀ (h : HoseNo) (r : StepRef) (st u : Step) (o : Order) (c : Instr) (b : State) (first : List Notice) (e : StepEnd) (net : Nat)
    (s : State), Steady s → StepOfHose s h r st → s.orders.get r.island = some o →
    EndsBy s h r st o.machine c b first e net u →
    let k := st.ctx.tank
    let charged := chargedTank (s.cfg.tanks.get k).quietTime st net
    let i := r.island
    let o' : Order := { o with steps := o.steps.set r.idx u }
    let before : List Notice :=
      noticeIf (lowPassed (s.cfg.tanks.get k) (s.tanks.get k) (charged (s.tanks.get k))) (notice .tankLow)
        ++ first ++ [noticeAt .stepEnded i]
    -- the state with the step's end entered, the order as `p` and the notices `l` raised after STEP_ENDED
    let entered (p : Order) (l : List Notice) : State := { b with
      hoses := s.hoses.modify h freedChannel, orders := putOrder s i p, tanks := s.tanks.modify k charged
      ports := raised s (before ++ l) }
    let gives (p : Order) (l : List Notice) : Prop := ∃ t, Gives c s t ∧ OutputsFollow b t
      ∧ t = { entered p l with shut := t.shut }
    let handsOff (p : Order) (status : OrderEnd) : Prop := ∃ t, Gives c s t ∧ OutputsFollow b t
      ∧ HandedOff s t i o status p.steps before
      ∧ t = { b with
          hoses := s.hoses.modify h freedChannel, tanks := s.tanks.modify k charged
          orders := t.orders, journal := t.journal, islands := t.islands, accounts := t.accounts, ports := t.ports
          shut := t.shut }
    let stops : Prop := ErrorFor st.kind e ∧ st.stopOnError = true
    let started := ∃ w ∈ o'.steps, InFlight w
    let waits := ∃ w ∈ o'.steps, w.state = .pending
    let settles := ∃ w ∈ o'.steps, w.state = .settling
    let goesOn := ∃ (j : Nat) (w : Step), o'.steps[j]? = some w ∧ groupOf o'.steps j = o.group ∧ w.state ≠ .ended
      ∧ w.state ≠ .notRun
    let completes := (o.hold = some .request ∧ ¬ started) ∨ (o.hold = some .power ∧ ¬ settles)
    let final := o.endStatus.getD (if o'.steps.any endedInError then .completeWithErrors else .complete)
    (o.state = .ending → started → gives o' [])
    ∧ (o.state = .ending → ¬ started → ¬ waits → handsOff o' final)
    ∧ (stops → o.state ≠ .ending → started → gives (endingOrder .stopped o') [])
    ∧ (stops → o.state ≠ .ending → ¬ started → handsOff (endingOrder .stopped o') (o.endStatus.getD .stopped))
    ∧ (¬ stops → o.state = .holdPending → completes →
        (started ∨ waits → gives { o' with state := .held } [noticeAt .orderHeld i])
        ∧ (¬ started → ¬ waits → handsOff o' final))
    ∧ (¬ stops → o.state = .holdPending → goesOn →
        ((o.hold = some .request ∧ started) ∨ (o.hold = some .power ∧ settles)) → gives o' [])
    ∧ (¬ stops → o.state = .held → goesOn ∨ waits → gives o' [])
    ∧ (¬ stops → o.state = .held → ¬ goesOn → ¬ waits → handsOff o' final)
    ∧ (¬ stops → o.state = .active → goesOn → gives o' [])
    ∧ ∀ (n : Nat) (w : Step), ¬ stops → o.state = .active → o'.steps[n]? = some w → w.state = .pending →
        (∀ x ∈ o'.steps.take n, x.state = .ended ∨ x.state = .notRun) →
        ¬ goesOn →
        let g := groupOf o'.steps n
        ((s.islands.get i).presence ≠ .present → gives o' [])
        ∧ ((s.islands.get i).presence = .present → w.holdBefore = true → o.gapTaken ≠ some g →
            gives { o' with state := .held, hold := some .gap, gapTaken := some g } [noticeAt .orderHeld i])
        ∧ ((s.islands.get i).presence = .present → (w.holdBefore = false ∨ o.gapTaken = some g) →
            GroupFree (entered o' []) i o' g →
            ∃ t, Gives c s t ∧ OutputsFollow b t ∧ GroupStarted (entered o' []) t i o' g
              ∧ t = { entered o' [] with orders := t.orders, hoses := t.hoses, shut := t.shut })

/-- The end of the last step of an order, the others being ENDED or NOT_RUN, by its timer, by a STEP_STOP or by a hose or tank
trip, ends the order whatever its state, unless STOP_ON_ERROR stops it, and the order is handed off with the end status it has
recorded, else COMPLETE_WITH_ERRORS when a step has ended with a status that is an error for its kind by the table of R50, else
COMPLETE, with the account's figures of R119 to R122. In ENDING STOP_ON_ERROR has no effect. STEP_ENDED, and before it TANK_LOW
where the tank passes its reorder level, come before the notices of the hand-off; the channel is free and the tank is charged, its
book held at its limits. Which limit a step without a target carries, and that a step which ends has no suspension
reason, are the model's readings: log entries 17 and 34. -/
def Obligations.LastStepEndsTheOrder : Prop :=
  ∀ (h : HoseNo) (r : StepRef) (st u : Step) (o : Order) (c : Instr) (b : State) (first : List Notice) (e : StepEnd) (net : Nat)
    (s : State), Steady s → StepOfHose s h r st → s.orders.get r.island = some o →
    EndsBy s h r st o.machine c b first e net u →
    (∀ (j : Nat) (w : Step), j ≠ r.idx → o.steps[j]? = some w → w.state = .ended ∨ w.state = .notRun) →
    (o.state = .ending ∨ ¬ (ErrorFor st.kind e ∧ st.stopOnError = true)) →
    let k := st.ctx.tank
    let cfg := s.cfg.tanks.get k
    let charged := chargedTank cfg.quietTime st net
    let steps := o.steps.set r.idx u
    ∃ t, Gives c s t ∧ OutputsFollow b t
      ∧ HandedOff s t r.island o
          (o.endStatus.getD (if steps.any endedInError then .completeWithErrors else .complete)) steps
          (noticeIf (lowPassed cfg (s.tanks.get k) (charged (s.tanks.get k))) (notice .tankLow) ++ first
            ++ [noticeAt .stepEnded r.island])
      ∧ t = { b with
          hoses := s.hoses.modify h freedChannel, tanks := s.tanks.modify k charged, orders := t.orders
          journal := t.journal, islands := t.islands, accounts := t.accounts, ports := t.ports, shut := t.shut }

/-- The rate window of a RUNNING step: the flow reading is the window's pulses times the meter factor, in mL/min, a count above
the limit is reported as HOSE_BREAK, and the next window begins. The stray quiet timer's expiry clears the stray figures. A
timer that does not run changes nothing (the model's choice: log entry 5). -/
def Obligations.WindowsAndQuietTimers : Prop :=
  ∀ (h : HoseNo) (s : State), s.running = true →
    ((s.hoses.get h).rateTimer = none → exec (.rateWindowExpiry h) s = .next s)
    ∧ (∀ r st, StepOfHose s h r st → Running st → (s.hoses.get h).rateTimer ≠ none →
        exec (.rateWindowExpiry h) s = .next
          { s with
            hoses := s.hoses.modify h fun k => { k with
              flow := k.windowCount * st.ctx.factor * 60 / 1000, windowCount := 0, rateTimer := some 10 }
            reports := s.reports ++
              (if st.ctx.maxPulses < (s.hoses.get h).windowCount then [.hoseBreak h] else []) })
    ∧ ((s.hoses.get h).strayTimer = none → exec (.strayQuietExpiry h) s = .next s)
    ∧ ((s.hoses.get h).strayTimer ≠ none → exec (.strayQuietExpiry h) s = .next
        { s with hoses := s.hoses.modify h fun k => { k with
            strayCount := 0, strayReported := false, strayTimer := none, strayAcc := 0, strayCharged := 0 } })

/-! ## Islands, tanks and their inputs -/

/-- The detector and the two debounces. Asserted in ABSENT: ARRIVING with the arrival debounce. Negated in ARRIVING: ABSENT with
the timer stopped. Negated in PRESENT: LEAVING with the leaving debounce. Expiry of the arrival debounce, and assertion in
LEAVING, at an island with no order: PRESENT. Expiry of the leaving debounce at an island with no order: ABSENT, and nothing
else. A level that the island already holds, and a timer that does not run, change nothing (the model's choice: log entry 5).
When the machine begins to leave, the RUNNING steps of the island's hoses are SUSPENDED(PRESENCE): their valves close, their timers
stop, and their reported net is kept as net at valve close; the others are as they were. When it comes back, each SUSPENDED(PRESENCE)
step runs on at its coupled hose, or settles COMPLETE when its target is met, UNCOUPLED at an uncoupled one, or with the status it
carries; a waiting step at a coupled hose runs on with the reservation it holds, and one that holds none claims by R32, R33 and
R88; a group that was deferred starts, or the order is held at its gap (log entry 33). When it is gone, an order that RUNNING,
SETTLING or coupled SUSPENDED steps keep alive goes to ENDING as a drive-away, which is reported, and its steps are closed with
DRIVE_AWAY; any other is abandoned, its steps closed with CANCELLED. A step carrying an end status settles with its own, those in
WAITING_COUPLE end at once, and an order without started steps is handed off. Which limit a step without a target carries is log
entry 17, and that a step which settles or ends has no suspension reason log entry 34. -/
def Obligations.PresenceFollowsTheDetector : Prop :=
  (∀ (i : IslandNo) (s : State), Steady s →
     let k := s.islands.get i
     let c := s.cfg.islands.get i
     let pins (b : Bool) := { s.pins with detectors := s.pins.detectors.put i b }
     let idle := ∀ h, (s.cfg.hoses.get h).island = i → (s.hoses.get h).step = none
     let becomes (cmd : Instr) (p : Pins) (k' : Island) := ∃ t, exec cmd s = .next t ∧ OutputsFollow s t
       ∧ t = { s with pins := p, islands := s.islands.put i k', shut := t.shut }
     (k.level = true → exec (.detectorAsserted i) s = .next { s with pins := pins true })
     ∧ (k.level = false → exec (.detectorNegated i) s = .next { s with pins := pins false })
     ∧ (k.level = false → k.presence = .absent → becomes (.detectorAsserted i) (pins true)
         { k with level := true, presence := .arriving, timer := some c.arrival })
     ∧ (k.level = true → k.presence = .arriving → becomes (.detectorNegated i) (pins false)
         { k with level := false, presence := .absent, timer := none })
     ∧ (k.level = true → k.presence = .present → idle → becomes (.detectorNegated i) (pins false)
         { k with level := false, presence := .leaving, timer := some c.leaving })
     ∧ (k.presence = .arriving → k.timer ≠ none → idle → s.orders.get i = none →
         becomes (.arrivalDebounceExpiry i) s.pins { k with presence := .present, timer := none })
     ∧ (k.level = false → k.presence = .leaving → idle → s.orders.get i = none → becomes (.detectorAsserted i) (pins true)
         { k with level := true, presence := .present, timer := none })
     ∧ (k.presence = .leaving → k.timer ≠ none → s.orders.get i = none →
         becomes (.leavingDebounceExpiry i) s.pins { k with presence := .absent, timer := none })
     ∧ ((k.presence ≠ .arriving ∨ k.timer = none) → becomes (.arrivalDebounceExpiry i) s.pins k)
     ∧ ((k.presence ≠ .leaving ∨ k.timer = none) → becomes (.leavingDebounceExpiry i) s.pins k))
  -- the machine begins to leave
  ∧ (∀ (i : IslandNo) (s : State), Steady s → (s.islands.get i).level = true → (s.islands.get i).presence = .present →
      let its (h : HoseNo) := (s.cfg.hoses.get h).island = i
      ∃ t, exec (.detectorNegated i) s = .next t ∧ OutputsFollow s t
        ∧ t = { s with
            pins := { s.pins with detectors := s.pins.detectors.put i false }
            islands := s.islands.modify i fun k => { k with
              level := false, presence := .leaving, timer := some (s.cfg.islands.get i).leaving }
            hoses := t.hoses, orders := t.orders, shut := t.shut }
        ∧ OrdersTook s t its (fun st => if Running st then suspendedStep .presence st else st) (fun _ o => o)
        ∧ ∀ h, (RunsAt s its h → t.hoses.get h = suspendedChannel (s.hoses.get h))
            ∧ (¬ RunsAt s its h → t.hoses.get h = s.hoses.get h))
  -- the machine is there again
  ∧ (∀ (i : IslandNo) (c : Instr) (s b : State), Steady s → IslandAgrees s i → Arrives s i c b →
      let due (o : Order) (n : Nat) (w : Step) : Prop := o.state = .active ∧ o.steps[n]? = some w ∧ w.state = .pending
        ∧ ∀ x ∈ o.steps.take n, x.state = .ended ∨ x.state = .notRun
      -- no group of the order comes due
      let goesOn := ∀ o, s.orders.get i = some o → ∀ n w, ¬ due o n w
      ((∀ h r st, ¬ ClaimsAt s i h r st) → goesOn → ∃ t, exec c s = .next t ∧ OutputsFollow s t
        ∧ ∃ m, Returned b m i ∧ t = { m with shut := t.shut })
      ∧ (∀ h r st amount limit, ClaimsAt s i h r st → (∀ x q w, ClaimsAt s i x q w → x = h) →
          st.netAcc = 0 → Wants st amount limit → 1 ≤ amount → goesOn →
          ∃ t m, exec c s = .next t ∧ OutputsFollow s t ∧ Returned b m i
            ∧ ClaimTaken m t h r st amount limit fun o => o.state = .active ∧ st.stopOnError = false
                ∧ ∃ k x, k ≠ r.idx ∧ o.steps[k]? = some x ∧ groupOf o.steps k = o.group ∧ x.state ≠ .ended
                  ∧ x.state ≠ .notRun ∧ ∀ (j : Nat) (w : Step), o.steps[j]? = some w → w.state = .pending → k < j)
      ∧ ∀ o n w, (∀ h, (s.cfg.hoses.get h).island = i → (s.hoses.get h).step = none) → s.orders.get i = some o → due o n w →
          let g := groupOf o.steps n
          (w.holdBefore = true → o.gapTaken ≠ some g → ∃ t, exec c s = .next t ∧ OutputsFollow s t
            ∧ t = { b with
                orders := putOrder s i { o with state := .held, hold := some .gap, gapTaken := some g }
                ports := raised s [noticeAt .orderHeld i], shut := t.shut })
          ∧ ((w.holdBefore = false ∨ o.gapTaken = some g) → GroupFree s i o g → ∃ t, exec c s = .next t ∧ OutputsFollow s t
            ∧ GroupStarted b t i o g ∧ t = { b with orders := t.orders, hoses := t.hoses, shut := t.shut }))
  -- the machine is gone
  ∧ ∀ (i : IslandNo) (o : Order) (s : State), Steady s → BooksLaw s → AtTheirHoses s i → (s.islands.get i).presence = .leaving →
      (s.islands.get i).timer ≠ none → s.orders.get i = some o →
      let gone : State := { s with islands := s.islands.modify i fun k => { k with presence := .absent, timer := none } }
      let drivesAway := ∃ st ∈ o.steps, Running st ∨ st.state = .settling
        ∨ (st.state = .suspended ∧ (s.hoses.get st.hose).coupled = true)
      (drivesAway → ∃ t, exec (.leavingDebounceExpiry i) s = .next t
        ∧ OrderClosed { gone with reports := s.reports ++ [.driveAway i] } t i o .driveAway .driveAway)
      ∧ (¬ drivesAway → ∃ t, exec (.leavingDebounceExpiry i) s = .next t ∧ OrderClosed gone t i o .abandoned .cancelled)

/-- The sump float and the overfill probe: a new level is kept, and its assertion makes a report of SUMP_HIGH or OVERFILL on its
way to the shutdown unit; a level that is held already changes the pin only. A faulty gauge reading counts, saturating at 255,
and the third in a row makes the last reading not valid and reports GAUGE_FAULT; so does the expiry of the stale timer; a
condition that is set already is not reported again. The expiry of the leak watch's quiet timer takes WAITING to QUIET with no
baseline. What a level held already and a stopped timer do is the model's choice: log entry 5. -/
def Obligations.FieldInputsReport : Prop :=
  (∀ (s : State) (level : Bool), s.running = true →
     (∀ i : IslandNo, let pins := { s.pins with floats := s.pins.floats.put i level }
       ((s.islands.get i).float = level → exec (.sumpFloatChange i level) s = .next { s with pins := pins })
       ∧ ((s.islands.get i).float ≠ level → exec (.sumpFloatChange i level) s = .next
           { s with
             pins := pins
             islands := s.islands.modify i fun k => { k with float := level }
             reports := s.reports ++ (if level then [.sumpHigh i] else []) }))
     ∧ ∀ k : TankNo, let pins := { s.pins with probes := s.pins.probes.put k level }
       ((s.tanks.get k).probe = level → exec (.overfillProbeChange k level) s = .next { s with pins := pins })
       ∧ ((s.tanks.get k).probe ≠ level → exec (.overfillProbeChange k level) s = .next
           { s with
             pins := pins
             tanks := s.tanks.modify k fun x => { x with probe := level }
             reports := s.reports ++ (if level then [.overfill k] else []) }))
  ∧ ∀ (k : TankNo) (s : State), s.running = true →
      let g := (s.tanks.get k).gauge
      let n := min 255 (g.faults + 1)
      let reported := s.reports ++ (if g.faultCondition then [] else [Report.gaugeFault k])
      (s.cfg.straps.get k = [] → exec (.gaugeReadingFaulty k) s = .next s)
      ∧ (s.cfg.straps.get k ≠ [] → n ≠ 3 → exec (.gaugeReadingFaulty k) s = .next
          { s with tanks := s.tanks.modify k fun y => { y with gauge := { y.gauge with faults := n } } })
      ∧ (s.cfg.straps.get k ≠ [] → n = 3 → exec (.gaugeReadingFaulty k) s = .next
          { s with
            tanks := s.tanks.modify k fun y =>
              { y with gauge := { y.gauge with faults := n, valid := false, faultCondition := true } }
            reports := reported })
      ∧ ((s.tanks.get k).staleTimer = none → exec (.gaugeStaleExpiry k) s = .next s)
      ∧ ((s.tanks.get k).staleTimer ≠ none → exec (.gaugeStaleExpiry k) s = .next
          { s with
            tanks := s.tanks.modify k fun y =>
              { y with staleTimer := none, gauge := { y.gauge with valid := false, faultCondition := true } }
            reports := reported })
      ∧ ((s.tanks.get k).leak = .waiting → (s.tanks.get k).quietTimer ≠ none → exec (.leakQuietExpiry k) s = .next
          { s with tanks := s.tanks.modify k fun y => { y with leak := .quiet, quietTimer := none, baseline := none } })
      ∧ (((s.tanks.get k).leak ≠ .waiting ∨ (s.tanks.get k).quietTimer = none) → exec (.leakQuietExpiry k) s = .next s)

/-- A valid gauge reading at a strapped tank: the level through the strapping table, the gross corrected to 15 degrees by the
tank's coefficient and rounded half up, the fault figures cleared, the stale timer restarted. In QUIET the watch takes the net
as its baseline, or reports LEAK and waits again when the net has fallen by more than the threshold. At an unstrapped tank the
reading is discarded. No book and no hose changes. The started steps that draw on the tank take the reading's temperature while
their source is GAUGE or DEFAULT, and no step changes in any other way. -/
def Obligations.ValidGaugeReadings : Prop :=
  ∀ (k : TankNo) (level : Nat) (x : Int) (s : State), s.running = true →
    let c := s.cfg.tanks.get k
    let e := s.cfg.fluids.get c.fluid
    (s.cfg.straps.get k = [] → exec (.gaugeReadingValid k level x) s = .next s)
    ∧ (GoodStrapping (s.cfg.straps.get k) → ∃ (t : State) (gross : Nat) (range : Bool),
      exec (.gaugeReadingValid k level x) s = .next t ∧ Gauged (s.cfg.straps.get k) level gross range
      ∧ let net := (gross * factorC7 (if e.isDefined then e.beta else 0) (clamped x) + 5000000) / 10000000
        let leak := (s.tanks.get k).leak = .quiet ∧ ∃ b, (s.tanks.get k).baseline = some b ∧ c.leakThreshold < b - net
        let read (y : Tank) : Tank := { y with
          gauge := { level, temp := x, gross, net, range, valid := true, faults := 0, faultCondition := false }
          staleTimer := some (c.staleTime * 10) }
        t = { s with orders := t.orders, tanks := t.tanks, reports := t.reports }
        ∧ (leak → t.reports = s.reports ++ [.leak k] ∧ t.tanks = s.tanks.modify k fun y =>
            { read y with leak := .waiting, quietTimer := some (c.quietTime * 600), baseline := none })
        ∧ (¬ leak → t.reports = s.reports ∧ t.tanks = s.tanks.modify k fun y =>
            { read y with baseline := if y.leak = .quiet ∧ y.baseline = none then some net else y.baseline })
        ∧ ((∀ h r st, (s.hoses.get h).step = some r → HasStep s r st → st.ctx.tank ≠ k) → t.orders = s.orders)
        ∧ ((∀ r st, HasStep s r st → InFlight st → st.ctx.tank = k → StepOfHose s st.hose r st) →
            ∀ i, t.orders.get i = (s.orders.get i).map fun o => { o with
            steps := o.steps.map fun st =>
              if InFlight st ∧ st.ctx.tank = k ∧ (st.tempSource = .gauge ∨ st.tempSource = .standard) then
                withTemperature .gauge x st
              else st }))

/-! ## Supply -/

/-- The power-fail warning puts the supply state to HOLD, then reaches every channel and after that the orders. A RUNNING step is
SUSPENDED(POWER): its valve closes, its timers stop, and its reported net is kept as net at valve close. A SUSPENDED step takes
the reason POWER, and so does one in WAITING_COUPLE, whose couple-wait timer stops; a SETTLING step is as it was. Every order that
is not in ENDING goes to HELD(POWER), or to HOLD_PENDING(POWER) while a step of it is SETTLING, and ORDER_HELD is raised for each
that goes to HELD from another state. Nothing else changes. Its negation puts the supply state to NORMAL and changes nothing else:
the orders stay held. That a warning asserted already changes the pin only is the model's choice: log entry 5. -/
def Obligations.PowerFailWarningHoldsTheBay : Prop :=
  ∀ s : State, Steady s →
    let any (_ : HoseNo) := True
    let pauses (h : HoseNo) := ∃ r st, Refers s h r st ∧ st.state = .waitingCouple
    (s.supply.warning = true → exec .powerFailWarningAsserted s = .next { s with pins := { s.pins with warning := true } })
    ∧ (s.supply.warning = false → ∃ t, exec .powerFailWarningAsserted s = .next t
        ∧ t = { s with
            pins := { s.pins with warning := true }
            supply := { s.supply with state := .hold, warning := true }
            ports := raised s ((newlyHeld s).map (noticeAt .orderHeld))
            hoses := t.hoses, orders := t.orders, shut := t.shut }
        ∧ OutputsFollow s t
        ∧ OrdersTook s t any warnedStep (fun _ => warnedOrder)
        ∧ ∀ h, ∃ k, (RunsAt s any h → k = suspendedChannel (s.hoses.get h)) ∧ (¬ RunsAt s any h → k = s.hoses.get h)
            ∧ (pauses h → t.hoses.get h = { k with coupleTimer := none }) ∧ (¬ pauses h → t.hoses.get h = k))
    ∧ (s.supply.warning = true → exec .powerFailWarningNegated s = .next
        { s with pins := { s.pins with warning := false }, supply := { s.supply with state := .normal, warning := false } })

/-- The loss of supply, and the assertion of the external reset input, stop a part that runs or starts up: every valve closed,
relay and pump enables off, notices gone, attention lines negated, queues empty, timers stopped, a running save and a start-up
under way cut off. Orders, accounts, journal, books, the shutdown map and the clock are as they were. That reports not yet taken
are lost is the model's choice (log entry 10), so is how far a save had come, given by the command (log entry 13), and that a
part without supply loses none (log entry 5). -/
def Obligations.TheStoppedPartIsOff : Prop :=
  ∀ (cut : SaveCut) (s : State),
    let off (t : State) : Prop :=
      (∀ h, t.hoses.get h = { s.hoses.get h with
          valve := .closed, coupleTimer := none, stallTimer := none, rateTimer := none, settleTimer := none
          strayTimer := none, windowCount := 0, flow := 0 })
      ∧ (∀ k, t.tanks.get k = { s.tanks.get k with staleTimer := none, quietTimer := none })
      ∧ (∀ i, t.islands.get i = { s.islands.get i with timer := none })
      ∧ t.shut = { s.shut with relay := false, pumps := t.shut.pumps } ∧ (∀ k, t.shut.pumps.get k = false)
      ∧ (∀ l, (t.ports.get l).queue = [] ∧ (t.ports.get l).custody = .untaken ∧ (t.ports.get l).waiting = []
          ∧ (t.ports.get l).sending = none
          ∧ (t.ports.get l).attention = false ∧ ∀ n, (t.ports.get l).notices.get n = none)
      ∧ t.supply = { s.supply with starting := false, snapshot := none, image := t.supply.image }
      ∧ (s.supply.snapshot = none ∨ cut = .beforeMark → t.supply.image = s.supply.image)
      ∧ (s.supply.snapshot ≠ none → cut = .afterMark → t.supply.image.check = none)
      ∧ t.orders = s.orders ∧ t.accounts = s.accounts ∧ t.journal = s.journal ∧ t.cfg = s.cfg
      ∧ t.reports = [] ∧ t.ends = [] ∧ t.pending = s.pending
    (s.powered = false → exec (.supplyLoss cut) s = .next s)
    ∧ (s.powered = true → ∃ t, exec (.supplyLoss cut) s = .next t ∧ t.powered = false ∧ t.pins = s.pins ∧ off t)
    ∧ (s.powered = true → s.pins.reset = false → ∃ t, exec (.externalResetAsserted cut) s = .next t ∧ t.powered = true
        ∧ t.pins = { s.pins with reset := true } ∧ off t)
    ∧ ((s.powered = false ∨ s.pins.reset = true) → exec (.externalResetAsserted cut) s = .next
        { s with pins := { s.pins with reset := true } })

/-- Power comes on to a part without supply whose inputs are negated. Either way the settings image is loaded when it is accepted
and the defaults are in force otherwise, and every port whose record mask holds RESTART holds it alone. With retention lost the
orders, accounts and journal are empty, the tanks have no stock, the clock is 0 and unset, and the bay is held by STORE_LOST from
start-up. With retention kept the accounts, the clock, the journal, the shutdown map and the tanks' stock are kept; every order
is in HELD(POWER) with its started steps SUSPENDED(POWER) or waiting; a hose named by a live step takes that step's island, tank
and hose values in place of the loaded ones, which sets the unsaved flag when it changes any; and with the defaults in force
every tank is OUT_OF_SERVICE and its open receipt is cancelled by a record. A start-up that goes no further than some of its
actions leaves a part with supply that takes no event, its outputs off; up to the load the retained store is as it was, and with
retention kept the accounts, the clock and the map stand as they were and the orders as they were or as restored. What the
actions are, that such a part stands until it is stopped, and that retention kept latches no STORE_LOST whatever start-up was
stopped before, is the model's choice: log entry 31. -/
def Obligations.PowerOnStartsThePart : Prop :=
  ∀ (r : Retention) (answers : Bool) (s : State),
    s.powered = false → s.pins.reset = false → s.pins.stop = false → s.pins.warning = false →
    (∀ i, s.pins.detectors.get i = false ∧ s.pins.floats.get i = false) → (∀ k, s.pins.probes.get k = false) →
    let accepted := answers && s.supply.image.accepted
    let loaded := if accepted then s.supply.image.items else Settings.default
    let reason : RestartReason := match r with | .kept => .powerOnKept | .lost => .powerOnLost
    (∃ t, exec (.powerOn r ⟨answers, .whole⟩) s = .next t
      ∧ t.running = true ∧ t.pins = s.pins ∧ t.pending = s.pending ∧ t.ends = [] ∧ t.reports = []
      ∧ t.supply = { s.supply with
          state := .normal, warning := false, retention := r, reason := reason, defaulted := !accepted, answered := answers
          starting := false, snapshot := none, lastSave := none, unsaved := t.supply.unsaved, clock := t.supply.clock
          clockSet := t.supply.clockSet, image := t.supply.image }
      ∧ t.cfg = { loaded with hoses := t.cfg.hoses }
      ∧ (∀ h, (t.hoses.get h).valve = .closed ∧ (t.hoses.get h).coupled = s.pins.coupling.get h)
      ∧ (∀ i, (t.islands.get i).presence = .absent) ∧ (t.shut.relay = true ↔ t.entryAt .bay = none)
      ∧ (∀ l, (t.ports.get l).queue = [] ∧ (t.ports.get l).frameErrors = 0
          ∧ (∀ k : NoticeKind, k ≠ .restart → (t.ports.get l).notices.get k.index = none)
          ∧ (inMask (t.cfg.links.get l).record .restart = true →
              ∃ e, (t.ports.get l).notices.get NoticeKind.restart.index = some e ∧ e.count = 1
                ∧ e.restart = some (reason, !accepted)))
      ∧ (r = .lost → (∀ i, t.orders.get i = none) ∧ t.accounts = [] ∧ t.journal = { records := [], reserved := 0, next := 1 }
          ∧ t.supply.clock = 0 ∧ t.supply.clockSet = false ∧ t.supply.unsaved = !accepted
          ∧ t.cfg = loaded
          ∧ (∀ k, (t.tanks.get k).state = .outOfService ∧ (t.tanks.get k).book = 0 ∧ (t.tanks.get k).bookLimit = false
              ∧ (t.tanks.get k).reserved = 0 ∧ (t.tanks.get k).unassigned = 0 ∧ (t.tanks.get k).receipt = none
              ∧ (t.tanks.get k).gauge.valid = false ∧ (t.tanks.get k).leak = .waiting)
          ∧ (∃ e, t.entryAt .bay = some e ∧ e.firstCause = .storeLost ∧ e.origin = .startUp)
          ∧ ∀ x, x ≠ .bay → t.entryAt x = none)
      ∧ (r = .kept → t.accounts = s.accounts ∧ t.supply.clock = s.supply.clock ∧ t.supply.clockSet = s.supply.clockSet
          ∧ (∀ x, t.entryAt x = s.entryAt x)
          ∧ t.journal = (if accepted then s.journal else receiptsCancelled s s.tanks s.journal)
          ∧ (∀ k, t.tanks.get k
              = tankRestarted accepted (decide (loaded.straps.get k ≠ [])) (loaded.tanks.get k) false (s.tanks.get k))
          ∧ (∀ i, (t.islands.get i).lastSeq = (s.islands.get i).lastSeq)
          ∧ (∀ i, t.orders.get i = (s.orders.get i).map fun o =>
              { o with state := .held, hold := some .power, steps := o.steps.map restoredStep })
          ∧ ((∀ r st q w, HasStep s r st → InFlight st → HasStep s q w → InFlight w → st.hose = w.hose → r = q) →
              ∀ r st, HasStep s r st → InFlight st → (t.hoses.get st.hose).step = some r)
          ∧ (∀ h, (∀ r st, HasStep s r st → InFlight st → st.hose ≠ h) → (t.hoses.get h).step = none)
          ∧ HosesAdopted s loaded t.cfg
          ∧ (accepted = false ∨ t.cfg ≠ loaded → t.supply.unsaved = true)
          ∧ (accepted = true → (∀ q st, HasLive s q st →
                adoptedCfg q.island st.ctx (loaded.hoses.get st.hose) = loaded.hoses.get st.hose) →
              t.supply.unsaved = false)))
    ∧ ∀ n, ∃ t, exec (.powerOn r ⟨answers, .actions n⟩) s = .next t
      ∧ t.powered = true ∧ StartsUp t ∧ t.pins = s.pins ∧ t.pending = s.pending ∧ t.supply.retention = r
      ∧ (n ≤ 1 → StoreKept s t)
      ∧ (r = .kept → t.accounts = s.accounts ∧ t.supply.clock = s.supply.clock ∧ t.supply.clockSet = s.supply.clockSet
          ∧ (∀ x, t.entryAt x = s.entryAt x)
          ∧ (t.orders = s.orders ∨ ∀ i, t.orders.get i = (s.orders.get i).map fun o =>
              { o with state := .held, hold := some .power, steps := o.steps.map restoredStep }))

/-- The negation of the external reset input at a powered part held in reset starts it again, whole or as far as it goes. Every
active order has ended RESET: its SERVICE record, with its started steps RESET and its PENDING ones NOT_RUN, stands in its place
in ascending island order, its started steps have released their targets and charged their tanks, and its account has taken its
figures and is no longer in use. The settings image or the defaults are in force, and with the defaults every tank is
OUT_OF_SERVICE and the open receipts are cancelled by records after those; the clock is kept, RESTART alone is pending, and the
part runs. With the stop, float and probe inputs negated the shutdown map is as it was. A start-up that goes no further than
some of its actions leaves a part with supply that takes no event, its outputs off and each order as it was but for steps of its
list ended RESET from the first on, or gone. The actions, and that STORE_LOST is not latched here whatever start-up was stopped
before, are the model's choice: log entry 31; that a step ended RESET has no suspension reason is log entry 34. At a part that is not held in
reset, or that has no supply, only the pin changes (the model's choice: log entry 5). -/
def Obligations.ExternalResetEndsTheOrders : Prop :=
  ∀ (answers : Bool) (s : State),
    (∀ reach, (s.pins.reset = false ∨ s.powered = false) → exec (.externalResetNegated ⟨answers, reach⟩) s = .next
      { s with pins := { s.pins with reset := false } })
    ∧ (s.pins.reset = true → s.powered = true →
        let accepted := answers && s.supply.image.accepted
        ∃ t, exec (.externalResetNegated ⟨answers, .whole⟩) s = .next t
        ∧ t.running = true ∧ t.ends = [] ∧ (∀ i, t.orders.get i = none)
        ∧ t.cfg = (if accepted then s.supply.image.items else Settings.default)
        ∧ t.supply.reason = .externalReset ∧ t.supply.retention = s.supply.retention ∧ t.supply.clock = s.supply.clock
        ∧ t.supply.clockSet = s.supply.clockSet ∧ t.supply.defaulted = !accepted
        ∧ t.accounts.map (·.machine) = s.accounts.map (·.machine)
        ∧ (∃ recs : IslandNo → ServiceRecord,
            (∀ i o, s.orders.get i = some o → ServiceRecordOf s i o .reset (o.steps.map resetEnd) (recs i))
            ∧ t.journal = if accepted then ordersRecorded s recs s.journal
                else receiptsCancelled s (booksReleased s) (ordersRecorded s recs s.journal))
        ∧ (∀ k, ∃ m, TankReleased (inFlightOn s k) (s.tanks.get k) m
            ∧ t.tanks.get k = tankRestarted accepted (decide (t.cfg.straps.get k ≠ [])) (t.cfg.tanks.get k)
                (s.pins.probes.get k) m)
        ∧ (∀ i o a, s.orders.get i = some o → s.findAccount o.machine = some a →
            (∀ j p, s.orders.get j = some p → p.machine = o.machine → j = i) →
            ∃ b high, t.findAccount o.machine = some b ∧ AccountSettled s o.hour (o.steps.map resetEnd) a b high)
        ∧ (∀ n, (∀ i o, s.orders.get i = some o → o.machine ≠ n) → t.findAccount n = s.findAccount n)
        ∧ (∀ h r st, StepOfHose s h r st → InFlight st → (t.hoses.get h).step = none)
        ∧ (∀ l, (t.ports.get l).queue = []
            ∧ (∀ k : NoticeKind, k ≠ .restart → (t.ports.get l).notices.get k.index = none)
            ∧ (inMask (t.cfg.links.get l).record .restart = true →
                ∃ e, (t.ports.get l).notices.get NoticeKind.restart.index = some e ∧ e.count = 1
                  ∧ e.restart = some (.externalReset, !accepted)))
        ∧ (s.pins.stop = false → (∀ i, s.pins.floats.get i = false) → (∀ k, s.pins.probes.get k = false) →
            ∀ x, t.entryAt x = s.entryAt x))
    ∧ (s.pins.reset = true → s.powered = true → ∀ n, ∃ t, exec (.externalResetNegated ⟨answers, .actions n⟩) s = .next t
        ∧ t.powered = true ∧ StartsUp t ∧ t.pins = { s.pins with reset := false } ∧ t.pending = s.pending
        ∧ t.supply.clock = s.supply.clock ∧ t.supply.clockSet = s.supply.clockSet
        ∧ (n = 0 → StoreKept s t)
        ∧ ∀ i p, t.orders.get i = some p → ∃ o k, s.orders.get i = some o ∧ ResetReached o p k)

/-! ## Links -/

/-- A receiver takes a byte. HUNTING: a start byte begins a frame with the frame timer at 1.0 s, and the first other byte of a
run counts one frame error. Assembling: a length outside 3 to 250 discards the frame, a byte in the middle of the frame is kept,
and a bad CRC discards it. A good frame of another kind than LINK_RESET joins the queue while it holds fewer than 4, as the
oldest it is handed to its owner when its role may make it (at once: log entry 27), and at a full queue it is answered BUSY with
its tag and kind while fewer than 4 replies made at arrival wait, else it counts a frame error; the reply being sent is not among
those that wait (the model's reading: log entry 22). A good LINK_RESET frame is a LINK_RESET, one with fields a LINK_RESET whose
body does not decode, BAD_LENGTH. The frame timer's expiry discards the frame. The end of a reply begins the next one on the list. A frame
timer that does not run, and an end with no reply being sent, change nothing (the model's choice: log entry 5). -/
def Obligations.FramesAreReceivedAndSent : Prop :=
  ∀ (l : Link) (b : Byte) (s : State), s.running = true →
    let p := s.ports.get l
    let becomes (c : Instr) (q : Port) := exec c s = .next { s with ports := s.ports.put l q }
    let discarded : Port :=
      { p with receiver := .hunting false, frameTimer := none, frameErrors := min 65535 (p.frameErrors + 1) }
    (∀ counted, p.receiver = .hunting counted → b = 0xA5#8 →
      becomes (.linkByteReceived l b) { p with receiver := .assembling [], frameTimer := some 10 })
    ∧ (p.receiver = .hunting false → b ≠ 0xA5#8 →
      becomes (.linkByteReceived l b) { p with receiver := .hunting true, frameErrors := min 65535 (p.frameErrors + 1) })
    ∧ (p.receiver = .hunting true → b ≠ 0xA5#8 → exec (.linkByteReceived l b) s = .next s)
    ∧ (p.receiver = .assembling [] → (b.toNat < 3 ∨ 250 < b.toNat) → becomes (.linkByteReceived l b) discarded)
    ∧ (∀ (body : List Byte) (crcHigh : Byte), 3 ≤ body.length → body.length ≤ 250 →
        p.receiver = .assembling (BitVec.ofNat 8 body.length :: body ++ [crcHigh]) →
        (crc16 (BitVec.ofNat 8 body.length :: body) ≠ crcHigh.toNat * 256 + b.toNat →
          becomes (.linkByteReceived l b) discarded)
        ∧ (crc16 (BitVec.ofNat 8 body.length :: body) = crcHigh.toNat * 256 + b.toNat → body[2]? ≠ some 0x63#8 →
          let hunting : Port := { p with receiver := .hunting false, frameTimer := none }
          (p.queue.length < 4 → ∃ c,
            becomes (.linkByteReceived l b) { hunting with queue := p.queue ++ [body], custody := c }
            ∧ (p.queue = [] → TakenUp (s.cfg.links.get l).role l [body] c) ∧ (p.queue ≠ [] → c = p.custody))
          ∧ (4 ≤ p.queue.length →
            ((p.waiting.filter (·.atArrival)).length < 4 → ∃ q r, becomes (.linkByteReceived l b) q
              ∧ q = { hunting with sending := q.sending, waiting := q.waiting }
              ∧ (q.sending, q.waiting) = listWith r p
              ∧ r.code = .busy ∧ r.results = .nothing ∧ r.atArrival = true
              ∧ ∀ x y z rest, body = x :: y :: z :: rest → r.kind = z ∧ r.tag.toNat = x.toNat * 256 + y.toNat)
            ∧ (4 ≤ (p.waiting.filter (·.atArrival)).length →
              becomes (.linkByteReceived l b) { hunting with frameErrors := min 65535 (p.frameErrors + 1) })))
        ∧ (crc16 (BitVec.ofNat 8 body.length :: body) = crcHigh.toNat * 256 + b.toNat →
          ∀ x y, body = [x, y, 0x63#8] → exec (.linkByteReceived l b) s =
            exec (.linkReset l (x ++ y) (.fields ()))
              { s with ports := s.ports.put l { p with receiver := .hunting false, frameTimer := none } })
        ∧ (crc16 (BitVec.ofNat 8 body.length :: body) = crcHigh.toNat * 256 + b.toNat →
          ∀ x y z rest, body = x :: y :: 0x63#8 :: z :: rest → exec (.linkByteReceived l b) s =
            exec (.linkReset l (x ++ y) (.undecodable .badLength))
              { s with ports := s.ports.put l { p with receiver := .hunting false, frameTimer := none } }))
    ∧ (p.receiver = .assembling [] → 3 ≤ b.toNat → b.toNat ≤ 250 →
      becomes (.linkByteReceived l b) { p with receiver := .assembling [b] })
    ∧ (∀ (n : Byte) (rest : List Byte), p.receiver = .assembling (n :: rest) → 3 ≤ n.toNat → n.toNat ≤ 250 →
      rest.length + 1 < n.toNat + 2 →
      becomes (.linkByteReceived l b) { p with receiver := .assembling (n :: rest ++ [b]) })
    ∧ (p.frameTimer = none → exec (.frameTimerExpiry l) s = .next s)
    ∧ (p.frameTimer ≠ none → becomes (.frameTimerExpiry l) discarded)
    ∧ (p.sending = none → becomes (.replySent l) p)
    ∧ (p.sending ≠ none → becomes (.replySent l) { p with sending := p.waiting.head?, waiting := p.waiting.tail })

/-- A notice reaches each port whose role receives the kind and whose record mask holds it, and no other: an entry not pending
becomes pending with count 1, a pending one counts one more, saturating at 255, its islands grow by the notice's, and its data
are replaced; the attention line then follows. -/
def Obligations.NoticesAreFiledByRoleAndMask : Prop :=
  ∀ (n : Notice) (s : State) (l : Link),
    let c := s.cfg.links.get l
    let p := s.ports.get l
    let q := (s.raise n).ports.get l
    (¬ (roleReceives c.role n.kind = true ∧ c.record.getLsbD n.kind.index.val = true) → q = p)
    ∧ (roleReceives c.role n.kind = true → c.record.getLsbD n.kind.index.val = true →
      q = { p with notices := q.notices, attention := q.attention }
      ∧ (∀ k, k ≠ n.kind.index → q.notices.get k = p.notices.get k)
      ∧ (q.attention = true ↔
          ∃ k : NoticeKind, q.notices.get k.index ≠ none ∧ c.attention.getLsbD k.index.val = true)
      ∧ ∃ e, q.notices.get n.kind.index = some e ∧ e.saved = n.saved ∧ e.restart = n.restart
        ∧ (p.notices.get n.kind.index = none → e.count = 1 ∧ ∀ i, e.islands.get i = true ↔ n.island = some i)
        ∧ ∀ d, p.notices.get n.kind.index = some d → e.count = min 255 (d.count + 1)
          ∧ ∀ i, e.islands.get i = true ↔ d.islands.get i = true ∨ n.island = some i)
    ∧ (roleReceives .office n.kind = true ↔ n.kind ≠ .stepEnded)
    ∧ (roleReceives .workshop n.kind = true ↔ n.kind ∈ [NoticeKind.orderEnded, .accountReview, .highUse, .trip, .restart])
    ∧ (roleReceives .lanes n.kind = true ↔
        n.kind ∈ [NoticeKind.orderEnded, .stepEnded, .orderHeld, .trip, .warning, .tankLow, .restart])
    ∧ (roleReceives .view n.kind = true ↔ n.kind ∈ [NoticeKind.trip, .restart])

/-- NOTICE_FETCH is answered with every pending entry of its port, in the order of the kinds' codes; each is then not pending and
the attention line is negated. The other ports, and everything else, are as they were. -/
def Obligations.NoticeFetchTakesEveryEntry : Prop :=
  ∀ (l : Link) (tag : Half) (s : State), Admissible s l .noticeFetch (.noticeFetch l tag (.fields ())) →
    ∃ entries, (∀ k e, (k, e) ∈ entries ↔ (s.ports.get l).notices.get k.index = some e)
      ∧ (entries.map fun x => x.1.index.val).Pairwise (· < ·)
      ∧ Replies (.noticeFetch l tag (.fields ())) s
        { s with ports := s.ports.modify l fun p =>
          { p with notices := Vector.replicate 13 none, attention := false } }
        l tag .noticeFetch .ok (.notices entries)

/-- LINK_RESET is taken at its arrival, whatever the queue holds: the requests that wait are discarded, and one that is with its
owner stays until its answer, whose reply will be discarded; the transmit list and the notices are emptied, the frame error count
is 0, the attention line is negated, a reply being sent is kept, the role, the masks and the receiver stand, and the reply
carries the number of requests discarded, whether one was with its owner, and the frame error count as it stood. Which requests
are with their owners is log entry 27. One whose body does not decode does none of this and is answered at once, while fewer than
4 replies made at arrival wait, else it is discarded and counts a frame error; the reply being sent is not among those that wait
(the model's reading: log entry 22). -/
def Obligations.LinkResetEmptiesThePort : Prop :=
  ∀ (l : Link) (tag : Half) (s : State), s.running = true →
    let p := s.ports.get l
    let withOwner : Bool := decide (p.custody ≠ .untaken)
    let kept := if withOwner then p.queue.take 1 else []
    (∃ q, exec (.linkReset l tag (.fields ())) s = .next { s with ports := s.ports.put l q }
      ∧ q.queue = kept ∧ q.custody = (if withOwner then .silenced else .untaken)
      ∧ q.frameErrors = 0 ∧ q.attention = false ∧ (∀ k, q.notices.get k = none)
      ∧ q.receiver = p.receiver ∧ q.frameTimer = p.frameTimer
      ∧ (q.sending, q.waiting) = listWith
          (reply tag .linkReset .ok (.linkReset (p.queue.length - kept.length) withOwner p.frameErrors))
          { p with waiting := [] })
    ∧ ∀ r, ((p.waiting.filter (·.atArrival)).length < 4 → ∃ q,
        exec (.linkReset l tag (.undecodable r)) s = .next { s with ports := s.ports.put l q }
        ∧ q = { p with sending := q.sending, waiting := q.waiting }
        ∧ (q.sending, q.waiting) = listWith
            { reply tag .linkReset (if r = .badLength then .badLength else .outOfRange) .nothing with atArrival := true } p)
      ∧ (4 ≤ (p.waiting.filter (·.atArrival)).length → exec (.linkReset l tag (.undecodable r)) s = .next
          { s with ports := s.ports.put l { p with frameErrors := min 65535 (p.frameErrors + 1) } })

/-! ## Laws that every step keeps -/

/-- Law 11: from every state in which each attention line is asserted exactly while its notice set holds a pending kind in its
attention mask, a step gives a state of which the same holds. That the lines follow the masks as soon as a start-up loads them is
the model's reading: log entry 31. -/
def Obligations.AttentionLawIsKept : Prop :=
  ∀ s t : State, AttentionLaw s → step s = .next t → AttentionLaw t

/-- Law 4: records and promises of places never exceed 64, and every active order and every open receipt holds one place. -/
def Obligations.JournalLawIsKept : Prop :=
  ∀ s t : State, JournalLaw s → step s = .next t → JournalLaw t

/-- The relay and the pump enables follow the shutdown map and the valves: from every state in which they do, a step gives one in
which they do, and none of them is on while the part does not run. -/
def Obligations.OutputsLawIsKept : Prop :=
  ∀ s t : State, OutputsLaw s → EndsTaken s → step s = .next t → OutputsLaw t

/-- Between commands no step end report is on its way to the order unit, some link holds the role OFFICE, every tank's book lies
within its limits, and the account table keeps its form: at most 512 accounts, of numbers 1 to 65,534, in ascending order with no
number twice. From every state of which one of these holds, a step gives a state of which it holds. -/
def Obligations.TablesAndRolesAreKept : Prop :=
  (∀ s t : State, step s = .next t → (EndsTaken s → EndsTaken t) ∧ (OfficeLaw s → OfficeLaw t)
      ∧ (BooksLaw s → BooksLaw t))
  ∧ ∀ s t : State, AccountsLaw s → step s = .next t → AccountsLaw t

/-- Right after reset the laws hold: attention, accounts, journal, outputs, no report on its way, an OFFICE link, the books; no
command waits. -/
def Obligations.ResetMeetsTheLaws : Prop :=
  AttentionLaw State.reset ∧ AccountsLaw State.reset ∧ JournalLaw State.reset ∧ OutputsLaw State.reset
    ∧ EndsTaken State.reset ∧ OfficeLaw State.reset ∧ BooksLaw State.reset ∧ State.reset.pending = []
end

