-- ==== Sys2Proof/Laws/State.lean ====
section
/-! SUPPORT. What each named update of the state does to each field, and what a table reads after a change of one of its
elements. -/

namespace Sys2Proof

/-! ## Tables -/

@[simp] theorem Table.put_self {α : Type} {n : Nat} (v : Table α n) (i : Fin n) (x : α) : (Table.put v i x).get i = x := by
  simp [Table.put, Vector.get_eq_getElem]

@[simp] theorem Table.put_of_ne {α : Type} {n : Nat} (v : Table α n) {i j : Fin n} (x : α) (h : j ≠ i) :
    (Table.put v i x).get j = v.get j := by
  have : (i : Nat) ≠ j := fun e => h (Fin.ext e.symm)
  simp [Table.put, Vector.get_eq_getElem, Vector.getElem_set_ne, this]

theorem Table.put_get {α : Type} {n : Nat} (v : Table α n) (i j : Fin n) (x : α) :
    (Table.put v i x).get j = if j = i then x else v.get j := by
  by_cases h : j = i
  · subst h; simp
  · simp [h]

@[simp] theorem Table.modify_self {α : Type} {n : Nat} (v : Table α n) (i : Fin n) (f : α → α) :
    (Table.modify v i f).get i = f (v.get i) := by simp [Table.modify]

@[simp] theorem Table.modify_of_ne {α : Type} {n : Nat} (v : Table α n) {i j : Fin n} (f : α → α) (h : j ≠ i) :
    (Table.modify v i f).get j = v.get j := by simp [Table.modify, h]

theorem Table.modify_get {α : Type} {n : Nat} (v : Table α n) (i j : Fin n) (f : α → α) :
    (Table.modify v i f).get j = if j = i then f (v.get i) else v.get j := by
  simp [Table.modify, Table.put_get]

end Sys2Proof

namespace Sys2Proof.Machine

/-! ## modPort -/

@[simp] theorem State.modPort_powered (s : State) (l : Link) (f : Port → Port) :
    (s.modPort l f).powered = s.powered := rfl
@[simp] theorem State.modPort_pins (s : State) (l : Link) (f : Port → Port) : (s.modPort l f).pins = s.pins := rfl
@[simp] theorem State.modPort_cfg (s : State) (l : Link) (f : Port → Port) : (s.modPort l f).cfg = s.cfg := rfl
@[simp] theorem State.modPort_ports (s : State) (l : Link) (f : Port → Port) :
    (s.modPort l f).ports = s.ports.modify l f := rfl
@[simp] theorem State.modPort_orders (s : State) (l : Link) (f : Port → Port) : (s.modPort l f).orders = s.orders := rfl
@[simp] theorem State.modPort_hoses (s : State) (l : Link) (f : Port → Port) : (s.modPort l f).hoses = s.hoses := rfl
@[simp] theorem State.modPort_islands (s : State) (l : Link) (f : Port → Port) :
    (s.modPort l f).islands = s.islands := rfl
@[simp] theorem State.modPort_tanks (s : State) (l : Link) (f : Port → Port) : (s.modPort l f).tanks = s.tanks := rfl
@[simp] theorem State.modPort_accounts (s : State) (l : Link) (f : Port → Port) :
    (s.modPort l f).accounts = s.accounts := rfl
@[simp] theorem State.modPort_journal (s : State) (l : Link) (f : Port → Port) :
    (s.modPort l f).journal = s.journal := rfl
@[simp] theorem State.modPort_shut (s : State) (l : Link) (f : Port → Port) : (s.modPort l f).shut = s.shut := rfl
@[simp] theorem State.modPort_supply (s : State) (l : Link) (f : Port → Port) : (s.modPort l f).supply = s.supply := rfl
@[simp] theorem State.modPort_reports (s : State) (l : Link) (f : Port → Port) :
    (s.modPort l f).reports = s.reports := rfl
@[simp] theorem State.modPort_ends (s : State) (l : Link) (f : Port → Port) : (s.modPort l f).ends = s.ends := rfl
@[simp] theorem State.modPort_pending (s : State) (l : Link) (f : Port → Port) :
    (s.modPort l f).pending = s.pending := rfl

/-! ## modHose -/

@[simp] theorem State.modHose_powered (s : State) (h : HoseNo) (f : Channel → Channel) :
    (s.modHose h f).powered = s.powered := rfl
@[simp] theorem State.modHose_pins (s : State) (h : HoseNo) (f : Channel → Channel) :
    (s.modHose h f).pins = s.pins := rfl
@[simp] theorem State.modHose_cfg (s : State) (h : HoseNo) (f : Channel → Channel) : (s.modHose h f).cfg = s.cfg := rfl
@[simp] theorem State.modHose_ports (s : State) (h : HoseNo) (f : Channel → Channel) :
    (s.modHose h f).ports = s.ports := rfl
@[simp] theorem State.modHose_orders (s : State) (h : HoseNo) (f : Channel → Channel) :
    (s.modHose h f).orders = s.orders := rfl
@[simp] theorem State.modHose_hoses (s : State) (h : HoseNo) (f : Channel → Channel) :
    (s.modHose h f).hoses = s.hoses.modify h f := rfl
@[simp] theorem State.modHose_islands (s : State) (h : HoseNo) (f : Channel → Channel) :
    (s.modHose h f).islands = s.islands := rfl
@[simp] theorem State.modHose_tanks (s : State) (h : HoseNo) (f : Channel → Channel) :
    (s.modHose h f).tanks = s.tanks := rfl
@[simp] theorem State.modHose_accounts (s : State) (h : HoseNo) (f : Channel → Channel) :
    (s.modHose h f).accounts = s.accounts := rfl
@[simp] theorem State.modHose_journal (s : State) (h : HoseNo) (f : Channel → Channel) :
    (s.modHose h f).journal = s.journal := rfl
@[simp] theorem State.modHose_shut (s : State) (h : HoseNo) (f : Channel → Channel) :
    (s.modHose h f).shut = s.shut := rfl
@[simp] theorem State.modHose_supply (s : State) (h : HoseNo) (f : Channel → Channel) :
    (s.modHose h f).supply = s.supply := rfl
@[simp] theorem State.modHose_reports (s : State) (h : HoseNo) (f : Channel → Channel) :
    (s.modHose h f).reports = s.reports := rfl
@[simp] theorem State.modHose_ends (s : State) (h : HoseNo) (f : Channel → Channel) :
    (s.modHose h f).ends = s.ends := rfl
@[simp] theorem State.modHose_pending (s : State) (h : HoseNo) (f : Channel → Channel) :
    (s.modHose h f).pending = s.pending := rfl

/-! ## modIsland -/

@[simp] theorem State.modIsland_powered (s : State) (i : IslandNo) (f : Island → Island) :
    (s.modIsland i f).powered = s.powered := rfl
@[simp] theorem State.modIsland_pins (s : State) (i : IslandNo) (f : Island → Island) :
    (s.modIsland i f).pins = s.pins := rfl
@[simp] theorem State.modIsland_cfg (s : State) (i : IslandNo) (f : Island → Island) :
    (s.modIsland i f).cfg = s.cfg := rfl
@[simp] theorem State.modIsland_ports (s : State) (i : IslandNo) (f : Island → Island) :
    (s.modIsland i f).ports = s.ports := rfl
@[simp] theorem State.modIsland_orders (s : State) (i : IslandNo) (f : Island → Island) :
    (s.modIsland i f).orders = s.orders := rfl
@[simp] theorem State.modIsland_hoses (s : State) (i : IslandNo) (f : Island → Island) :
    (s.modIsland i f).hoses = s.hoses := rfl
@[simp] theorem State.modIsland_islands (s : State) (i : IslandNo) (f : Island → Island) :
    (s.modIsland i f).islands = s.islands.modify i f := rfl
@[simp] theorem State.modIsland_tanks (s : State) (i : IslandNo) (f : Island → Island) :
    (s.modIsland i f).tanks = s.tanks := rfl
@[simp] theorem State.modIsland_accounts (s : State) (i : IslandNo) (f : Island → Island) :
    (s.modIsland i f).accounts = s.accounts := rfl
@[simp] theorem State.modIsland_journal (s : State) (i : IslandNo) (f : Island → Island) :
    (s.modIsland i f).journal = s.journal := rfl
@[simp] theorem State.modIsland_shut (s : State) (i : IslandNo) (f : Island → Island) :
    (s.modIsland i f).shut = s.shut := rfl
@[simp] theorem State.modIsland_supply (s : State) (i : IslandNo) (f : Island → Island) :
    (s.modIsland i f).supply = s.supply := rfl
@[simp] theorem State.modIsland_reports (s : State) (i : IslandNo) (f : Island → Island) :
    (s.modIsland i f).reports = s.reports := rfl
@[simp] theorem State.modIsland_ends (s : State) (i : IslandNo) (f : Island → Island) :
    (s.modIsland i f).ends = s.ends := rfl
@[simp] theorem State.modIsland_pending (s : State) (i : IslandNo) (f : Island → Island) :
    (s.modIsland i f).pending = s.pending := rfl

/-! ## modTank -/

@[simp] theorem State.modTank_powered (s : State) (t : TankNo) (f : Tank → Tank) :
    (s.modTank t f).powered = s.powered := rfl
@[simp] theorem State.modTank_pins (s : State) (t : TankNo) (f : Tank → Tank) : (s.modTank t f).pins = s.pins := rfl
@[simp] theorem State.modTank_cfg (s : State) (t : TankNo) (f : Tank → Tank) : (s.modTank t f).cfg = s.cfg := rfl
@[simp] theorem State.modTank_ports (s : State) (t : TankNo) (f : Tank → Tank) : (s.modTank t f).ports = s.ports := rfl
@[simp] theorem State.modTank_orders (s : State) (t : TankNo) (f : Tank → Tank) :
    (s.modTank t f).orders = s.orders := rfl
@[simp] theorem State.modTank_hoses (s : State) (t : TankNo) (f : Tank → Tank) : (s.modTank t f).hoses = s.hoses := rfl
@[simp] theorem State.modTank_islands (s : State) (t : TankNo) (f : Tank → Tank) :
    (s.modTank t f).islands = s.islands := rfl
@[simp] theorem State.modTank_tanks (s : State) (t : TankNo) (f : Tank → Tank) :
    (s.modTank t f).tanks = s.tanks.modify t f := rfl
@[simp] theorem State.modTank_accounts (s : State) (t : TankNo) (f : Tank → Tank) :
    (s.modTank t f).accounts = s.accounts := rfl
@[simp] theorem State.modTank_journal (s : State) (t : TankNo) (f : Tank → Tank) :
    (s.modTank t f).journal = s.journal := rfl
@[simp] theorem State.modTank_shut (s : State) (t : TankNo) (f : Tank → Tank) : (s.modTank t f).shut = s.shut := rfl
@[simp] theorem State.modTank_supply (s : State) (t : TankNo) (f : Tank → Tank) :
    (s.modTank t f).supply = s.supply := rfl
@[simp] theorem State.modTank_reports (s : State) (t : TankNo) (f : Tank → Tank) :
    (s.modTank t f).reports = s.reports := rfl
@[simp] theorem State.modTank_ends (s : State) (t : TankNo) (f : Tank → Tank) : (s.modTank t f).ends = s.ends := rfl
@[simp] theorem State.modTank_pending (s : State) (t : TankNo) (f : Tank → Tank) :
    (s.modTank t f).pending = s.pending := rfl

/-! ## setOrder -/

@[simp] theorem State.setOrder_powered (s : State) (i : IslandNo) (o : Option Order) :
    (s.setOrder i o).powered = s.powered := rfl
@[simp] theorem State.setOrder_pins (s : State) (i : IslandNo) (o : Option Order) :
    (s.setOrder i o).pins = s.pins := rfl
@[simp] theorem State.setOrder_cfg (s : State) (i : IslandNo) (o : Option Order) : (s.setOrder i o).cfg = s.cfg := rfl
@[simp] theorem State.setOrder_ports (s : State) (i : IslandNo) (o : Option Order) :
    (s.setOrder i o).ports = s.ports := rfl
@[simp] theorem State.setOrder_orders (s : State) (i : IslandNo) (o : Option Order) :
    (s.setOrder i o).orders = s.orders.put i o := rfl
@[simp] theorem State.setOrder_hoses (s : State) (i : IslandNo) (o : Option Order) :
    (s.setOrder i o).hoses = s.hoses := rfl
@[simp] theorem State.setOrder_islands (s : State) (i : IslandNo) (o : Option Order) :
    (s.setOrder i o).islands = s.islands := rfl
@[simp] theorem State.setOrder_tanks (s : State) (i : IslandNo) (o : Option Order) :
    (s.setOrder i o).tanks = s.tanks := rfl
@[simp] theorem State.setOrder_accounts (s : State) (i : IslandNo) (o : Option Order) :
    (s.setOrder i o).accounts = s.accounts := rfl
@[simp] theorem State.setOrder_journal (s : State) (i : IslandNo) (o : Option Order) :
    (s.setOrder i o).journal = s.journal := rfl
@[simp] theorem State.setOrder_shut (s : State) (i : IslandNo) (o : Option Order) :
    (s.setOrder i o).shut = s.shut := rfl
@[simp] theorem State.setOrder_supply (s : State) (i : IslandNo) (o : Option Order) :
    (s.setOrder i o).supply = s.supply := rfl
@[simp] theorem State.setOrder_reports (s : State) (i : IslandNo) (o : Option Order) :
    (s.setOrder i o).reports = s.reports := rfl
@[simp] theorem State.setOrder_ends (s : State) (i : IslandNo) (o : Option Order) :
    (s.setOrder i o).ends = s.ends := rfl
@[simp] theorem State.setOrder_pending (s : State) (i : IslandNo) (o : Option Order) :
    (s.setOrder i o).pending = s.pending := rfl

/-! ## modOrder -/

@[simp] theorem State.modOrder_powered (s : State) (i : IslandNo) (f : Order → Order) :
    (s.modOrder i f).powered = s.powered := rfl
@[simp] theorem State.modOrder_pins (s : State) (i : IslandNo) (f : Order → Order) :
    (s.modOrder i f).pins = s.pins := rfl
@[simp] theorem State.modOrder_cfg (s : State) (i : IslandNo) (f : Order → Order) : (s.modOrder i f).cfg = s.cfg := rfl
@[simp] theorem State.modOrder_ports (s : State) (i : IslandNo) (f : Order → Order) :
    (s.modOrder i f).ports = s.ports := rfl
@[simp] theorem State.modOrder_orders (s : State) (i : IslandNo) (f : Order → Order) :
    (s.modOrder i f).orders = s.orders.put i ((s.orders.get i).map f) := rfl
@[simp] theorem State.modOrder_hoses (s : State) (i : IslandNo) (f : Order → Order) :
    (s.modOrder i f).hoses = s.hoses := rfl
@[simp] theorem State.modOrder_islands (s : State) (i : IslandNo) (f : Order → Order) :
    (s.modOrder i f).islands = s.islands := rfl
@[simp] theorem State.modOrder_tanks (s : State) (i : IslandNo) (f : Order → Order) :
    (s.modOrder i f).tanks = s.tanks := rfl
@[simp] theorem State.modOrder_accounts (s : State) (i : IslandNo) (f : Order → Order) :
    (s.modOrder i f).accounts = s.accounts := rfl
@[simp] theorem State.modOrder_journal (s : State) (i : IslandNo) (f : Order → Order) :
    (s.modOrder i f).journal = s.journal := rfl
@[simp] theorem State.modOrder_shut (s : State) (i : IslandNo) (f : Order → Order) :
    (s.modOrder i f).shut = s.shut := rfl
@[simp] theorem State.modOrder_supply (s : State) (i : IslandNo) (f : Order → Order) :
    (s.modOrder i f).supply = s.supply := rfl
@[simp] theorem State.modOrder_reports (s : State) (i : IslandNo) (f : Order → Order) :
    (s.modOrder i f).reports = s.reports := rfl
@[simp] theorem State.modOrder_ends (s : State) (i : IslandNo) (f : Order → Order) :
    (s.modOrder i f).ends = s.ends := rfl
@[simp] theorem State.modOrder_pending (s : State) (i : IslandNo) (f : Order → Order) :
    (s.modOrder i f).pending = s.pending := rfl

/-! ## modStep -/

@[simp] theorem State.modStep_powered (s : State) (r : StepRef) (f : Step → Step) :
    (s.modStep r f).powered = s.powered := rfl
@[simp] theorem State.modStep_pins (s : State) (r : StepRef) (f : Step → Step) : (s.modStep r f).pins = s.pins := rfl
@[simp] theorem State.modStep_cfg (s : State) (r : StepRef) (f : Step → Step) : (s.modStep r f).cfg = s.cfg := rfl
@[simp] theorem State.modStep_ports (s : State) (r : StepRef) (f : Step → Step) : (s.modStep r f).ports = s.ports := rfl
@[simp] theorem State.modStep_orders (s : State) (r : StepRef) (f : Step → Step) :
    (s.modStep r f).orders = s.orders.put r.island ((s.orders.get r.island).map fun o => { o with steps := o.steps.modify r.idx f }) := rfl
@[simp] theorem State.modStep_hoses (s : State) (r : StepRef) (f : Step → Step) : (s.modStep r f).hoses = s.hoses := rfl
@[simp] theorem State.modStep_islands (s : State) (r : StepRef) (f : Step → Step) :
    (s.modStep r f).islands = s.islands := rfl
@[simp] theorem State.modStep_tanks (s : State) (r : StepRef) (f : Step → Step) : (s.modStep r f).tanks = s.tanks := rfl
@[simp] theorem State.modStep_accounts (s : State) (r : StepRef) (f : Step → Step) :
    (s.modStep r f).accounts = s.accounts := rfl
@[simp] theorem State.modStep_journal (s : State) (r : StepRef) (f : Step → Step) :
    (s.modStep r f).journal = s.journal := rfl
@[simp] theorem State.modStep_shut (s : State) (r : StepRef) (f : Step → Step) : (s.modStep r f).shut = s.shut := rfl
@[simp] theorem State.modStep_supply (s : State) (r : StepRef) (f : Step → Step) :
    (s.modStep r f).supply = s.supply := rfl
@[simp] theorem State.modStep_reports (s : State) (r : StepRef) (f : Step → Step) :
    (s.modStep r f).reports = s.reports := rfl
@[simp] theorem State.modStep_ends (s : State) (r : StepRef) (f : Step → Step) : (s.modStep r f).ends = s.ends := rfl
@[simp] theorem State.modStep_pending (s : State) (r : StepRef) (f : Step → Step) :
    (s.modStep r f).pending = s.pending := rfl

/-! ## modShut -/

@[simp] theorem State.modShut_powered (s : State) (f : Shutdown → Shutdown) : (s.modShut f).powered = s.powered := rfl
@[simp] theorem State.modShut_pins (s : State) (f : Shutdown → Shutdown) : (s.modShut f).pins = s.pins := rfl
@[simp] theorem State.modShut_cfg (s : State) (f : Shutdown → Shutdown) : (s.modShut f).cfg = s.cfg := rfl
@[simp] theorem State.modShut_ports (s : State) (f : Shutdown → Shutdown) : (s.modShut f).ports = s.ports := rfl
@[simp] theorem State.modShut_orders (s : State) (f : Shutdown → Shutdown) : (s.modShut f).orders = s.orders := rfl
@[simp] theorem State.modShut_hoses (s : State) (f : Shutdown → Shutdown) : (s.modShut f).hoses = s.hoses := rfl
@[simp] theorem State.modShut_islands (s : State) (f : Shutdown → Shutdown) : (s.modShut f).islands = s.islands := rfl
@[simp] theorem State.modShut_tanks (s : State) (f : Shutdown → Shutdown) : (s.modShut f).tanks = s.tanks := rfl
@[simp] theorem State.modShut_accounts (s : State) (f : Shutdown → Shutdown) :
    (s.modShut f).accounts = s.accounts := rfl
@[simp] theorem State.modShut_journal (s : State) (f : Shutdown → Shutdown) : (s.modShut f).journal = s.journal := rfl
@[simp] theorem State.modShut_shut (s : State) (f : Shutdown → Shutdown) : (s.modShut f).shut = f s.shut := rfl
@[simp] theorem State.modShut_supply (s : State) (f : Shutdown → Shutdown) : (s.modShut f).supply = s.supply := rfl
@[simp] theorem State.modShut_reports (s : State) (f : Shutdown → Shutdown) : (s.modShut f).reports = s.reports := rfl
@[simp] theorem State.modShut_ends (s : State) (f : Shutdown → Shutdown) : (s.modShut f).ends = s.ends := rfl
@[simp] theorem State.modShut_pending (s : State) (f : Shutdown → Shutdown) : (s.modShut f).pending = s.pending := rfl

/-! ## modSupply -/

@[simp] theorem State.modSupply_powered (s : State) (f : Supply → Supply) : (s.modSupply f).powered = s.powered := rfl
@[simp] theorem State.modSupply_pins (s : State) (f : Supply → Supply) : (s.modSupply f).pins = s.pins := rfl
@[simp] theorem State.modSupply_cfg (s : State) (f : Supply → Supply) : (s.modSupply f).cfg = s.cfg := rfl
@[simp] theorem State.modSupply_ports (s : State) (f : Supply → Supply) : (s.modSupply f).ports = s.ports := rfl
@[simp] theorem State.modSupply_orders (s : State) (f : Supply → Supply) : (s.modSupply f).orders = s.orders := rfl
@[simp] theorem State.modSupply_hoses (s : State) (f : Supply → Supply) : (s.modSupply f).hoses = s.hoses := rfl
@[simp] theorem State.modSupply_islands (s : State) (f : Supply → Supply) : (s.modSupply f).islands = s.islands := rfl
@[simp] theorem State.modSupply_tanks (s : State) (f : Supply → Supply) : (s.modSupply f).tanks = s.tanks := rfl
@[simp] theorem State.modSupply_accounts (s : State) (f : Supply → Supply) :
    (s.modSupply f).accounts = s.accounts := rfl
@[simp] theorem State.modSupply_journal (s : State) (f : Supply → Supply) : (s.modSupply f).journal = s.journal := rfl
@[simp] theorem State.modSupply_shut (s : State) (f : Supply → Supply) : (s.modSupply f).shut = s.shut := rfl
@[simp] theorem State.modSupply_supply (s : State) (f : Supply → Supply) : (s.modSupply f).supply = f s.supply := rfl
@[simp] theorem State.modSupply_reports (s : State) (f : Supply → Supply) : (s.modSupply f).reports = s.reports := rfl
@[simp] theorem State.modSupply_ends (s : State) (f : Supply → Supply) : (s.modSupply f).ends = s.ends := rfl
@[simp] theorem State.modSupply_pending (s : State) (f : Supply → Supply) : (s.modSupply f).pending = s.pending := rfl

/-! ## modPins -/

@[simp] theorem State.modPins_powered (s : State) (f : Pins → Pins) : (s.modPins f).powered = s.powered := rfl
@[simp] theorem State.modPins_pins (s : State) (f : Pins → Pins) : (s.modPins f).pins = f s.pins := rfl
@[simp] theorem State.modPins_cfg (s : State) (f : Pins → Pins) : (s.modPins f).cfg = s.cfg := rfl
@[simp] theorem State.modPins_ports (s : State) (f : Pins → Pins) : (s.modPins f).ports = s.ports := rfl
@[simp] theorem State.modPins_orders (s : State) (f : Pins → Pins) : (s.modPins f).orders = s.orders := rfl
@[simp] theorem State.modPins_hoses (s : State) (f : Pins → Pins) : (s.modPins f).hoses = s.hoses := rfl
@[simp] theorem State.modPins_islands (s : State) (f : Pins → Pins) : (s.modPins f).islands = s.islands := rfl
@[simp] theorem State.modPins_tanks (s : State) (f : Pins → Pins) : (s.modPins f).tanks = s.tanks := rfl
@[simp] theorem State.modPins_accounts (s : State) (f : Pins → Pins) : (s.modPins f).accounts = s.accounts := rfl
@[simp] theorem State.modPins_journal (s : State) (f : Pins → Pins) : (s.modPins f).journal = s.journal := rfl
@[simp] theorem State.modPins_shut (s : State) (f : Pins → Pins) : (s.modPins f).shut = s.shut := rfl
@[simp] theorem State.modPins_supply (s : State) (f : Pins → Pins) : (s.modPins f).supply = s.supply := rfl
@[simp] theorem State.modPins_reports (s : State) (f : Pins → Pins) : (s.modPins f).reports = s.reports := rfl
@[simp] theorem State.modPins_ends (s : State) (f : Pins → Pins) : (s.modPins f).ends = s.ends := rfl
@[simp] theorem State.modPins_pending (s : State) (f : Pins → Pins) : (s.modPins f).pending = s.pending := rfl

/-! ## configure -/

@[simp] theorem State.configure_powered (s : State) (f : Settings → Settings) :
    (s.configure f).powered = s.powered := rfl
@[simp] theorem State.configure_pins (s : State) (f : Settings → Settings) : (s.configure f).pins = s.pins := rfl
@[simp] theorem State.configure_cfg (s : State) (f : Settings → Settings) : (s.configure f).cfg = f s.cfg := rfl
@[simp] theorem State.configure_ports (s : State) (f : Settings → Settings) : (s.configure f).ports = s.ports := rfl
@[simp] theorem State.configure_orders (s : State) (f : Settings → Settings) : (s.configure f).orders = s.orders := rfl
@[simp] theorem State.configure_hoses (s : State) (f : Settings → Settings) : (s.configure f).hoses = s.hoses := rfl
@[simp] theorem State.configure_islands (s : State) (f : Settings → Settings) :
    (s.configure f).islands = s.islands := rfl
@[simp] theorem State.configure_tanks (s : State) (f : Settings → Settings) : (s.configure f).tanks = s.tanks := rfl
@[simp] theorem State.configure_accounts (s : State) (f : Settings → Settings) :
    (s.configure f).accounts = s.accounts := rfl
@[simp] theorem State.configure_journal (s : State) (f : Settings → Settings) :
    (s.configure f).journal = s.journal := rfl
@[simp] theorem State.configure_shut (s : State) (f : Settings → Settings) : (s.configure f).shut = s.shut := rfl
@[simp] theorem State.configure_supply (s : State) (f : Settings → Settings) :
    (s.configure f).supply = { s.supply with unsaved := true } := rfl
@[simp] theorem State.configure_reports (s : State) (f : Settings → Settings) :
    (s.configure f).reports = s.reports := rfl
@[simp] theorem State.configure_ends (s : State) (f : Settings → Settings) : (s.configure f).ends = s.ends := rfl
@[simp] theorem State.configure_pending (s : State) (f : Settings → Settings) :
    (s.configure f).pending = s.pending := rfl

/-! ## report -/

@[simp] theorem State.report_powered (s : State) (r : Report) : (s.report r).powered = s.powered := rfl
@[simp] theorem State.report_pins (s : State) (r : Report) : (s.report r).pins = s.pins := rfl
@[simp] theorem State.report_cfg (s : State) (r : Report) : (s.report r).cfg = s.cfg := rfl
@[simp] theorem State.report_ports (s : State) (r : Report) : (s.report r).ports = s.ports := rfl
@[simp] theorem State.report_orders (s : State) (r : Report) : (s.report r).orders = s.orders := rfl
@[simp] theorem State.report_hoses (s : State) (r : Report) : (s.report r).hoses = s.hoses := rfl
@[simp] theorem State.report_islands (s : State) (r : Report) : (s.report r).islands = s.islands := rfl
@[simp] theorem State.report_tanks (s : State) (r : Report) : (s.report r).tanks = s.tanks := rfl
@[simp] theorem State.report_accounts (s : State) (r : Report) : (s.report r).accounts = s.accounts := rfl
@[simp] theorem State.report_journal (s : State) (r : Report) : (s.report r).journal = s.journal := rfl
@[simp] theorem State.report_shut (s : State) (r : Report) : (s.report r).shut = s.shut := rfl
@[simp] theorem State.report_supply (s : State) (r : Report) : (s.report r).supply = s.supply := rfl
@[simp] theorem State.report_reports (s : State) (r : Report) : (s.report r).reports = s.reports ++ [r] := rfl
@[simp] theorem State.report_ends (s : State) (r : Report) : (s.report r).ends = s.ends := rfl
@[simp] theorem State.report_pending (s : State) (r : Report) : (s.report r).pending = s.pending := rfl

end Sys2Proof.Machine
end

