-- ==== Sys2Proof/Laws/Ops.lean ====
section
/-! SUPPORT. What the shared operations over ports can do: filing of notices, replies, the taking of a request. -/

namespace Sys2Proof.Machine

/-! ## Filing of notices (R180) -/

theorem State.raise_eq (s : State) (n : Notice) : s.raise n = State.fileAt n (State.fileAt n (State.fileAt n s 0) 1) 2 := rfl

/-- A filing at a port acts on that port only: its notice set and attention line, or nothing. -/
theorem State.fileAt_cases (n : Notice) (s : State) (l : Link) :
    State.fileAt n s l = s ∨
      State.fileAt n s l = s.modPort l fun p =>
        p.withNotices (s.cfg.links.get l).attention (p.notices.modify n.kind.index fun e => some (fileEntry n e)) := by
  dsimp only [State.fileAt]
  split
  · exact .inr rfl
  · exact .inl rfl

theorem State.fileAt_eq (n : Notice) (s : State) (l : Link) :
    State.fileAt n s l = { s with ports := (State.fileAt n s l).ports } := by
  rcases State.fileAt_cases n s l with h | h
  · rw [h]
  · rw [h]; rfl

/-- A notice changes the ports and nothing else. -/
theorem State.raise_eq_ports (s : State) (n : Notice) : s.raise n = { s with ports := (s.raise n).ports } := by
  rw [State.raise_eq]
  rw [State.fileAt_eq n _ 2, State.fileAt_eq n _ 1, State.fileAt_eq n s 0]

/-- A filing at one port leaves the other ports. -/
theorem State.fileAt_ports_of_ne (n : Notice) (s : State) {l k : Link} (h : k ≠ l) :
    (State.fileAt n s l).ports.get k = s.ports.get k := by
  rcases State.fileAt_cases n s l with e | e <;> rw [e]
  simp [h]

@[simp] theorem State.fileAt_powered (n : Notice) (s : State) (l : Link) : (State.fileAt n s l).powered = s.powered := by
  rw [State.fileAt_eq]
@[simp] theorem State.fileAt_pins (n : Notice) (s : State) (l : Link) : (State.fileAt n s l).pins = s.pins := by
  rw [State.fileAt_eq]
@[simp] theorem State.fileAt_cfg (n : Notice) (s : State) (l : Link) : (State.fileAt n s l).cfg = s.cfg := by
  rw [State.fileAt_eq]
@[simp] theorem State.fileAt_orders (n : Notice) (s : State) (l : Link) : (State.fileAt n s l).orders = s.orders := by
  rw [State.fileAt_eq]
@[simp] theorem State.fileAt_hoses (n : Notice) (s : State) (l : Link) : (State.fileAt n s l).hoses = s.hoses := by
  rw [State.fileAt_eq]
@[simp] theorem State.fileAt_islands (n : Notice) (s : State) (l : Link) : (State.fileAt n s l).islands = s.islands := by
  rw [State.fileAt_eq]
@[simp] theorem State.fileAt_tanks (n : Notice) (s : State) (l : Link) : (State.fileAt n s l).tanks = s.tanks := by
  rw [State.fileAt_eq]
@[simp] theorem State.fileAt_accounts (n : Notice) (s : State) (l : Link) : (State.fileAt n s l).accounts = s.accounts := by
  rw [State.fileAt_eq]
@[simp] theorem State.fileAt_journal (n : Notice) (s : State) (l : Link) : (State.fileAt n s l).journal = s.journal := by
  rw [State.fileAt_eq]
@[simp] theorem State.fileAt_shut (n : Notice) (s : State) (l : Link) : (State.fileAt n s l).shut = s.shut := by
  rw [State.fileAt_eq]
@[simp] theorem State.fileAt_supply (n : Notice) (s : State) (l : Link) : (State.fileAt n s l).supply = s.supply := by
  rw [State.fileAt_eq]
@[simp] theorem State.fileAt_reports (n : Notice) (s : State) (l : Link) : (State.fileAt n s l).reports = s.reports := by
  rw [State.fileAt_eq]
@[simp] theorem State.fileAt_ends (n : Notice) (s : State) (l : Link) : (State.fileAt n s l).ends = s.ends := by
  rw [State.fileAt_eq]
@[simp] theorem State.fileAt_pending (n : Notice) (s : State) (l : Link) : (State.fileAt n s l).pending = s.pending := by
  rw [State.fileAt_eq]
@[simp] theorem State.raise_powered (s : State) (n : Notice) : (s.raise n).powered = s.powered := by rw [State.raise_eq_ports]
@[simp] theorem State.raise_pins (s : State) (n : Notice) : (s.raise n).pins = s.pins := by rw [State.raise_eq_ports]
@[simp] theorem State.raise_cfg (s : State) (n : Notice) : (s.raise n).cfg = s.cfg := by rw [State.raise_eq_ports]
@[simp] theorem State.raise_orders (s : State) (n : Notice) : (s.raise n).orders = s.orders := by rw [State.raise_eq_ports]
@[simp] theorem State.raise_hoses (s : State) (n : Notice) : (s.raise n).hoses = s.hoses := by rw [State.raise_eq_ports]
@[simp] theorem State.raise_islands (s : State) (n : Notice) : (s.raise n).islands = s.islands := by rw [State.raise_eq_ports]
@[simp] theorem State.raise_tanks (s : State) (n : Notice) : (s.raise n).tanks = s.tanks := by rw [State.raise_eq_ports]
@[simp] theorem State.raise_accounts (s : State) (n : Notice) : (s.raise n).accounts = s.accounts := by rw [State.raise_eq_ports]
@[simp] theorem State.raise_journal (s : State) (n : Notice) : (s.raise n).journal = s.journal := by rw [State.raise_eq_ports]
@[simp] theorem State.raise_shut (s : State) (n : Notice) : (s.raise n).shut = s.shut := by rw [State.raise_eq_ports]
@[simp] theorem State.raise_supply (s : State) (n : Notice) : (s.raise n).supply = s.supply := by rw [State.raise_eq_ports]
@[simp] theorem State.raise_reports (s : State) (n : Notice) : (s.raise n).reports = s.reports := by rw [State.raise_eq_ports]
@[simp] theorem State.raise_ends (s : State) (n : Notice) : (s.raise n).ends = s.ends := by rw [State.raise_eq_ports]
@[simp] theorem State.raise_pending (s : State) (n : Notice) : (s.raise n).pending = s.pending := by rw [State.raise_eq_ports]
@[simp] theorem State.raiseKind_powered (s : State) (k : NoticeKind) : (s.raiseKind k).powered = s.powered :=
  State.raise_powered s _
@[simp] theorem State.raiseKind_pins (s : State) (k : NoticeKind) : (s.raiseKind k).pins = s.pins :=
  State.raise_pins s _
@[simp] theorem State.raiseKind_cfg (s : State) (k : NoticeKind) : (s.raiseKind k).cfg = s.cfg :=
  State.raise_cfg s _
@[simp] theorem State.raiseKind_orders (s : State) (k : NoticeKind) : (s.raiseKind k).orders = s.orders :=
  State.raise_orders s _
@[simp] theorem State.raiseKind_hoses (s : State) (k : NoticeKind) : (s.raiseKind k).hoses = s.hoses :=
  State.raise_hoses s _
@[simp] theorem State.raiseKind_islands (s : State) (k : NoticeKind) : (s.raiseKind k).islands = s.islands :=
  State.raise_islands s _
@[simp] theorem State.raiseKind_tanks (s : State) (k : NoticeKind) : (s.raiseKind k).tanks = s.tanks :=
  State.raise_tanks s _
@[simp] theorem State.raiseKind_accounts (s : State) (k : NoticeKind) : (s.raiseKind k).accounts = s.accounts :=
  State.raise_accounts s _
@[simp] theorem State.raiseKind_journal (s : State) (k : NoticeKind) : (s.raiseKind k).journal = s.journal :=
  State.raise_journal s _
@[simp] theorem State.raiseKind_shut (s : State) (k : NoticeKind) : (s.raiseKind k).shut = s.shut :=
  State.raise_shut s _
@[simp] theorem State.raiseKind_supply (s : State) (k : NoticeKind) : (s.raiseKind k).supply = s.supply :=
  State.raise_supply s _
@[simp] theorem State.raiseKind_reports (s : State) (k : NoticeKind) : (s.raiseKind k).reports = s.reports :=
  State.raise_reports s _
@[simp] theorem State.raiseKind_ends (s : State) (k : NoticeKind) : (s.raiseKind k).ends = s.ends :=
  State.raise_ends s _
@[simp] theorem State.raiseKind_pending (s : State) (k : NoticeKind) : (s.raiseKind k).pending = s.pending :=
  State.raise_pending s _
@[simp] theorem State.raiseAt_powered (s : State) (k : NoticeKind) (i : IslandNo) : (s.raiseAt k i).powered = s.powered :=
  State.raise_powered s _
@[simp] theorem State.raiseAt_pins (s : State) (k : NoticeKind) (i : IslandNo) : (s.raiseAt k i).pins = s.pins :=
  State.raise_pins s _
@[simp] theorem State.raiseAt_cfg (s : State) (k : NoticeKind) (i : IslandNo) : (s.raiseAt k i).cfg = s.cfg :=
  State.raise_cfg s _
@[simp] theorem State.raiseAt_orders (s : State) (k : NoticeKind) (i : IslandNo) : (s.raiseAt k i).orders = s.orders :=
  State.raise_orders s _
@[simp] theorem State.raiseAt_hoses (s : State) (k : NoticeKind) (i : IslandNo) : (s.raiseAt k i).hoses = s.hoses :=
  State.raise_hoses s _
@[simp] theorem State.raiseAt_islands (s : State) (k : NoticeKind) (i : IslandNo) : (s.raiseAt k i).islands = s.islands :=
  State.raise_islands s _
@[simp] theorem State.raiseAt_tanks (s : State) (k : NoticeKind) (i : IslandNo) : (s.raiseAt k i).tanks = s.tanks :=
  State.raise_tanks s _
@[simp] theorem State.raiseAt_accounts (s : State) (k : NoticeKind) (i : IslandNo) : (s.raiseAt k i).accounts = s.accounts :=
  State.raise_accounts s _
@[simp] theorem State.raiseAt_journal (s : State) (k : NoticeKind) (i : IslandNo) : (s.raiseAt k i).journal = s.journal :=
  State.raise_journal s _
@[simp] theorem State.raiseAt_shut (s : State) (k : NoticeKind) (i : IslandNo) : (s.raiseAt k i).shut = s.shut :=
  State.raise_shut s _
@[simp] theorem State.raiseAt_supply (s : State) (k : NoticeKind) (i : IslandNo) : (s.raiseAt k i).supply = s.supply :=
  State.raise_supply s _
@[simp] theorem State.raiseAt_reports (s : State) (k : NoticeKind) (i : IslandNo) : (s.raiseAt k i).reports = s.reports :=
  State.raise_reports s _
@[simp] theorem State.raiseAt_ends (s : State) (k : NoticeKind) (i : IslandNo) : (s.raiseAt k i).ends = s.ends :=
  State.raise_ends s _
@[simp] theorem State.raiseAt_pending (s : State) (k : NoticeKind) (i : IslandNo) : (s.raiseAt k i).pending = s.pending :=
  State.raise_pending s _
@[simp] theorem State.answer_powered (s : State) (l : Link) (tag : Half) (kind : Byte) (a : Answer) :
    (s.answer l tag kind a).powered = s.powered := rfl
@[simp] theorem State.answer_pins (s : State) (l : Link) (tag : Half) (kind : Byte) (a : Answer) :
    (s.answer l tag kind a).pins = s.pins := rfl
@[simp] theorem State.answer_cfg (s : State) (l : Link) (tag : Half) (kind : Byte) (a : Answer) :
    (s.answer l tag kind a).cfg = s.cfg := rfl
@[simp] theorem State.answer_orders (s : State) (l : Link) (tag : Half) (kind : Byte) (a : Answer) :
    (s.answer l tag kind a).orders = s.orders := rfl
@[simp] theorem State.answer_hoses (s : State) (l : Link) (tag : Half) (kind : Byte) (a : Answer) :
    (s.answer l tag kind a).hoses = s.hoses := rfl
@[simp] theorem State.answer_islands (s : State) (l : Link) (tag : Half) (kind : Byte) (a : Answer) :
    (s.answer l tag kind a).islands = s.islands := rfl
@[simp] theorem State.answer_tanks (s : State) (l : Link) (tag : Half) (kind : Byte) (a : Answer) :
    (s.answer l tag kind a).tanks = s.tanks := rfl
@[simp] theorem State.answer_accounts (s : State) (l : Link) (tag : Half) (kind : Byte) (a : Answer) :
    (s.answer l tag kind a).accounts = s.accounts := rfl
@[simp] theorem State.answer_journal (s : State) (l : Link) (tag : Half) (kind : Byte) (a : Answer) :
    (s.answer l tag kind a).journal = s.journal := rfl
@[simp] theorem State.answer_shut (s : State) (l : Link) (tag : Half) (kind : Byte) (a : Answer) :
    (s.answer l tag kind a).shut = s.shut := rfl
@[simp] theorem State.answer_supply (s : State) (l : Link) (tag : Half) (kind : Byte) (a : Answer) :
    (s.answer l tag kind a).supply = s.supply := rfl
@[simp] theorem State.answer_reports (s : State) (l : Link) (tag : Half) (kind : Byte) (a : Answer) :
    (s.answer l tag kind a).reports = s.reports := rfl
@[simp] theorem State.answer_ends (s : State) (l : Link) (tag : Half) (kind : Byte) (a : Answer) :
    (s.answer l tag kind a).ends = s.ends := rfl
@[simp] theorem State.answer_pending (s : State) (l : Link) (tag : Half) (kind : Byte) (a : Answer) :
    (s.answer l tag kind a).pending = s.pending := rfl

/-- What a notice does at a port: filed when its role receives the kind and its record mask holds it, else nothing. -/
theorem State.raise_port (s : State) (n : Notice) (l : Link) :
    (s.raise n).ports.get l =
      if roleReceives (s.cfg.links.get l).role n.kind && inMask (s.cfg.links.get l).record n.kind then
        (s.ports.get l).withNotices (s.cfg.links.get l).attention
          ((s.ports.get l).notices.modify n.kind.index fun e => some (fileEntry n e))
      else s.ports.get l := by
  have key : ∀ (u : State) (k : Link), u.cfg = s.cfg → (State.fileAt n u k).ports.get l =
      if l = k then (if roleReceives (s.cfg.links.get l).role n.kind && inMask (s.cfg.links.get l).record n.kind then
        (u.ports.get l).withNotices (s.cfg.links.get l).attention
          ((u.ports.get l).notices.modify n.kind.index fun e => some (fileEntry n e))
      else u.ports.get l) else u.ports.get l := by
    intro u k hu
    by_cases h : l = k
    · subst h
      unfold State.fileAt
      simp only [hu]
      split <;> simp
    · simp [h, State.fileAt_ports_of_ne n u h]
  have h0 := key s 0 rfl
  have h1 := key (State.fileAt n s 0) 1 (by simp)
  have h2 := key (State.fileAt n (State.fileAt n s 0) 1) 2 (by simp)
  rw [State.raise_eq, h2]
  fin_cases l <;> simp_all

/-! ## Replies -/

@[simp] theorem Port.place_notices (r : Reply) (p : Port) : (p.place r).notices = p.notices := by
  unfold Port.place; split <;> rfl

@[simp] theorem Port.place_attention (r : Reply) (p : Port) : (p.place r).attention = p.attention := by
  unfold Port.place; split <;> rfl

@[simp] theorem Port.place_queue (r : Reply) (p : Port) : (p.place r).queue = p.queue := by
  unfold Port.place; split <;> rfl

@[simp] theorem Port.place_receiver (r : Reply) (p : Port) : (p.place r).receiver = p.receiver := by
  unfold Port.place; split <;> rfl

@[simp] theorem Port.place_frameTimer (r : Reply) (p : Port) : (p.place r).frameTimer = p.frameTimer := by
  unfold Port.place; split <;> rfl

@[simp] theorem Port.place_frameErrors (r : Reply) (p : Port) : (p.place r).frameErrors = p.frameErrors := by
  unfold Port.place; split <;> rfl

@[simp] theorem Port.place_custody (r : Reply) (p : Port) : (p.place r).custody = p.custody := by
  unfold Port.place; split <;> rfl

/-- All that an answer does to its port: the next request is taken up, and the reply is placed or discarded. -/
theorem Port.answered_cases (role : Role) (l : Link) (r : Reply) (p : Port) :
    (p.custody = .silenced ∧ p.answered role l r = p.advance role l)
      ∨ (p.custody ≠ .silenced ∧ p.answered role l r = Port.place r (p.advance role l)) := by
  unfold Port.answered
  by_cases h : p.custody = .silenced <;> simp [h]

@[simp] theorem Port.advance_queue (role : Role) (l : Link) (p : Port) : (p.advance role l).queue = p.queue.drop 1 := rfl
@[simp] theorem Port.advance_custody (role : Role) (l : Link) (p : Port) :
    (p.advance role l).custody = custodyOf role l (p.queue.drop 1) := rfl
@[simp] theorem Port.advance_sending (role : Role) (l : Link) (p : Port) : (p.advance role l).sending = p.sending := rfl
@[simp] theorem Port.advance_waiting (role : Role) (l : Link) (p : Port) : (p.advance role l).waiting = p.waiting := rfl
@[simp] theorem Port.advance_notices (role : Role) (l : Link) (p : Port) : (p.advance role l).notices = p.notices := rfl
@[simp] theorem Port.advance_attention (role : Role) (l : Link) (p : Port) :
    (p.advance role l).attention = p.attention := rfl
@[simp] theorem Port.advance_receiver (role : Role) (l : Link) (p : Port) : (p.advance role l).receiver = p.receiver := rfl
@[simp] theorem Port.advance_frameTimer (role : Role) (l : Link) (p : Port) :
    (p.advance role l).frameTimer = p.frameTimer := rfl
@[simp] theorem Port.advance_frameErrors (role : Role) (l : Link) (p : Port) :
    (p.advance role l).frameErrors = p.frameErrors := rfl

@[simp] theorem Port.answered_queue (role : Role) (l : Link) (r : Reply) (p : Port) :
    (p.answered role l r).queue = p.queue.drop 1 := by
  rcases p.answered_cases role l r with ⟨-, e⟩ | ⟨-, e⟩ <;> simp [e]
@[simp] theorem Port.answered_custody (role : Role) (l : Link) (r : Reply) (p : Port) :
    (p.answered role l r).custody = custodyOf role l (p.queue.drop 1) := by
  rcases p.answered_cases role l r with ⟨-, e⟩ | ⟨-, e⟩ <;> simp [e]
@[simp] theorem Port.answered_notices (role : Role) (l : Link) (r : Reply) (p : Port) :
    (p.answered role l r).notices = p.notices := by
  rcases p.answered_cases role l r with ⟨-, e⟩ | ⟨-, e⟩ <;> simp [e]
@[simp] theorem Port.answered_attention (role : Role) (l : Link) (r : Reply) (p : Port) :
    (p.answered role l r).attention = p.attention := by
  rcases p.answered_cases role l r with ⟨-, e⟩ | ⟨-, e⟩ <;> simp [e]
@[simp] theorem Port.answered_receiver (role : Role) (l : Link) (r : Reply) (p : Port) :
    (p.answered role l r).receiver = p.receiver := by
  rcases p.answered_cases role l r with ⟨-, e⟩ | ⟨-, e⟩ <;> simp [e]
@[simp] theorem Port.answered_frameTimer (role : Role) (l : Link) (r : Reply) (p : Port) :
    (p.answered role l r).frameTimer = p.frameTimer := by
  rcases p.answered_cases role l r with ⟨-, e⟩ | ⟨-, e⟩ <;> simp [e]
@[simp] theorem Port.answered_frameErrors (role : Role) (l : Link) (r : Reply) (p : Port) :
    (p.answered role l r).frameErrors = p.frameErrors := by
  rcases p.answered_cases role l r with ⟨-, e⟩ | ⟨-, e⟩ <;> simp [e]

/-- Whether a port may make a request: it is with its owner, or its kind is permitted (R176, R179). -/
theorem State.mayMake_iff (s : State) (l : Link) (k : Kind) :
    s.mayMake l k = true ↔ (s.ports.get l).custody ≠ .untaken ∨ permitted (s.cfg.links.get l).role k = true := by
  simp [State.mayMake]

/-- An answer changes the port of the link and nothing else. -/
theorem State.answer_eq (s : State) (l : Link) (tag : Half) (kind : Byte) (a : Answer) :
    s.answer l tag kind a = { s with ports := (s.answer l tag kind a).ports } := rfl

/-- All that the taking of a request can do (R176): nothing, a decoding refusal, NOT_PERMITTED, or the owner's answer. -/
theorem State.serve_cases {α : Type} (s : State) (self : Instr) (l : Link) (tag : Half) (k : Kind) (b : Sent α)
    (owner : α → State → Answer × State) :
    (s.canTake l self = false ∧ s.serve self l tag k b owner = s)
      ∨ (s.canTake l self = true ∧ ∃ r, b = .undecodable r
          ∧ s.serve self l tag k b owner = s.answer l tag (kindByte k) (refuse r.code))
      ∨ (s.canTake l self = true ∧ (∃ a, b = .fields a) ∧ s.mayMake l k = false
          ∧ s.serve self l tag k b owner = s.answer l tag (kindByte k) (refuse .notPermitted))
      ∨ (s.canTake l self = true ∧ s.mayMake l k = true
          ∧ ∃ a, b = .fields a
            ∧ s.serve self l tag k b owner = (owner a s).2.answer l tag (kindByte k) (owner a s).1) := by
  unfold State.serve
  by_cases h : s.canTake l self = true
  · cases b with
    | undecodable r => exact .inr (.inl ⟨h, r, rfl, by simp [h]⟩)
    | fields a =>
      by_cases hp : s.mayMake l k = true
      · exact .inr (.inr (.inr ⟨h, hp, a, rfl, by simp [h, hp]⟩))
      · exact .inr (.inr (.inl ⟨h, ⟨a, rfl⟩, by simpa using hp, by simp [h, hp]⟩))
  · exact .inl ⟨by simpa using h, by simp [h]⟩

/-- What a running part does with an event, and a part that does not run. -/
theorem State.whileRunning_cases (s : State) (f : State → State) :
    (s.running = true ∧ s.whileRunning f = f s) ∨ (s.running = false ∧ s.whileRunning f = s) := by
  unfold State.whileRunning
  cases h : s.running <;> simp

end Sys2Proof.Machine
end

