-- ==== Sys2Proof/Laws/Work.lean ====
section
/-! SUPPORT. What the work of the bay can do to a state: whatever a hose channel, the stock unit, the order unit, the
account unit, the journal and the shutdown unit do, it leaves the working configuration, the supply, the pins and the queue
of commands, it takes no report to the shutdown unit off its way, and it acts on the ports only by raising notices. One
lemma for each operation. -/

namespace Sys2Proof.Machine

/-- `t` comes from `s` by work of the bay. -/
structure Work (s t : State) : Prop where
  powered : t.powered = s.powered
  pins : t.pins = s.pins
  cfg : t.cfg = s.cfg
  supply : t.supply = s.supply
  pending : t.pending = s.pending
  told : ∃ rs : List Report, t.reports = s.reports ++ rs
  filed : ∃ ns : List Notice, t.ports = (ns.foldl State.raise s).ports

theorem State.raise_ports_congr {s t : State} (n : Notice) (hc : s.cfg = t.cfg) (hp : s.ports = t.ports) :
    (s.raise n).ports = (t.raise n).ports := by
  have : ∀ l : Link, (s.raise n).ports.get l = (t.raise n).ports.get l := by
    intro l; rw [State.raise_port, State.raise_port, hc, hp]
  ext i hi
  exact this ⟨i, hi⟩

theorem State.raises_cfg (ns : List Notice) : ∀ s : State, (ns.foldl State.raise s).cfg = s.cfg := by
  induction ns with
  | nil => intro s; rfl
  | cons n ns ih => intro s; simp [List.foldl, ih]

theorem State.raises_ports_congr (ns : List Notice) : ∀ {s t : State}, s.cfg = t.cfg → s.ports = t.ports →
    (ns.foldl State.raise s).ports = (ns.foldl State.raise t).ports := by
  induction ns with
  | nil => intro s t _ hp; exact hp
  | cons n ns ih => intro s t hc hp; exact ih (by simp [hc]) (State.raise_ports_congr n hc hp)

/-- What changes none of these fields is work of the bay. -/
theorem Work.same {s t : State} (h₁ : t.powered = s.powered) (h₂ : t.pins = s.pins) (h₃ : t.cfg = s.cfg)
    (h₄ : t.supply = s.supply) (h₅ : t.pending = s.pending) (h₆ : t.reports = s.reports) (h₇ : t.ports = s.ports) :
    Work s t :=
  ⟨h₁, h₂, h₃, h₄, h₅, ⟨[], by rw [h₆, List.append_nil]⟩, [], h₇⟩

theorem Work.refl (s : State) : Work s s := .same rfl rfl rfl rfl rfl rfl rfl

theorem Work.trans {s t u : State} (h : Work s t) (k : Work t u) : Work s u := by
  obtain ⟨ns, hn⟩ := h.filed
  obtain ⟨ms, hm⟩ := k.filed
  obtain ⟨rs, hr⟩ := h.told
  obtain ⟨qs, hq⟩ := k.told
  refine ⟨k.powered.trans h.powered, k.pins.trans h.pins, k.cfg.trans h.cfg, k.supply.trans h.supply,
    k.pending.trans h.pending, ⟨rs ++ qs, by rw [hq, hr, List.append_assoc]⟩, ns ++ ms, ?_⟩
  rw [hm, List.foldl_append]
  exact State.raises_ports_congr ms (by rw [State.raises_cfg, h.cfg]) hn

theorem Work.ite {p : Prop} [Decidable p] {s t u : State} (h : Work s t) (k : Work s u) : Work s (if p then t else u) := by
  split <;> assumption

theorem Work.iteAfter {p : Prop} [Decidable p] {s t : State} (h : Work s t) : Work s (if p then t else s) :=
  h.ite (Work.refl s)

theorem Work.foldl {α : Type} (f : State → α → State) (h : ∀ s a, Work s (f s a)) (l : List α) :
    ∀ s, Work s (l.foldl f s) := by
  induction l with
  | nil => intro s; exact Work.refl s
  | cons a l ih => intro s; exact (h s a).trans (ih _)

/-! ## Changes of one record -/

theorem State.modHose_work (s : State) (h f) : Work s (s.modHose h f) := .same rfl rfl rfl rfl rfl rfl rfl
theorem State.modTank_work (s : State) (t f) : Work s (s.modTank t f) := .same rfl rfl rfl rfl rfl rfl rfl
theorem State.modIsland_work (s : State) (i f) : Work s (s.modIsland i f) := .same rfl rfl rfl rfl rfl rfl rfl
theorem State.setOrder_work (s : State) (i o) : Work s (s.setOrder i o) := .same rfl rfl rfl rfl rfl rfl rfl
theorem State.modOrder_work (s : State) (i f) : Work s (s.modOrder i f) := .same rfl rfl rfl rfl rfl rfl rfl
theorem State.modStep_work (s : State) (r f) : Work s (s.modStep r f) := .same rfl rfl rfl rfl rfl rfl rfl
theorem State.modShut_work (s : State) (f) : Work s (s.modShut f) := .same rfl rfl rfl rfl rfl rfl rfl
theorem State.modAccount_work (s : State) (m f) : Work s (s.modAccount m f) := .same rfl rfl rfl rfl rfl rfl rfl
theorem State.setEntry_work (s : State) (o e) : Work s (s.setEntry o e) := .same rfl rfl rfl rfl rfl rfl rfl
theorem State.report_work (s : State) (r) : Work s (s.report r) := ⟨rfl, rfl, rfl, rfl, rfl, ⟨[r], rfl⟩, [], rfl⟩
theorem State.alignOutputs_work (s : State) : Work s s.alignOutputs := .same rfl rfl rfl rfl rfl rfl rfl
theorem State.raise_work (s : State) (n : Notice) : Work s (s.raise n) := 
  ⟨by simp, by simp, by simp, by simp, by simp, ⟨[], by simp⟩, [n], rfl⟩
theorem State.raiseKind_work (s : State) (k) : Work s (s.raiseKind k) := s.raise_work _
theorem State.raiseAt_work (s : State) (k i) : Work s (s.raiseAt k i) := s.raise_work _

/-! ## The journal, the stock unit and the account unit -/

theorem State.journalLowTest_work (s : State) (n) : Work s (s.journalLowTest n) := by
  unfold State.journalLowTest; exact (s.raiseKind_work _).iteAfter

theorem State.journalWaitingTest_work (s : State) (n) : Work s (s.journalWaitingTest n) := by
  unfold State.journalWaitingTest; exact (s.raiseKind_work _).iteAfter

theorem State.journalReserve_work (s : State) : Work s s.journalReserve := by
  unfold State.journalReserve
  refine Work.trans ?_ (State.journalLowTest_work _ _)
  exact .same rfl rfl rfl rfl rfl rfl rfl

theorem State.writeReserved_work (s : State) (c b) : Work s (s.writeReserved c b).2 := by
  unfold State.writeReserved
  refine Work.trans ?_ (State.journalWaitingTest_work _ _)
  exact .same rfl rfl rfl rfl rfl rfl rfl

theorem State.writeUnreserved_work (s : State) (c b) : Work s (s.writeUnreserved c b).2 := by
  unfold State.writeUnreserved
  refine Work.trans (Work.trans ?_ (State.journalWaitingTest_work _ _)) (State.journalLowTest_work _ _)
  exact .same rfl rfl rfl rfl rfl rfl rfl

theorem State.lowTest_work (s : State) (a b) : Work s (s.lowTest a b) := by
  unfold State.lowTest; exact (s.raiseKind_work _).iteAfter

theorem State.changeStock_work (s : State) (t f) : Work s (s.changeStock t f) :=
  (s.modTank_work t f).trans (State.lowTest_work _ _ _)

theorem State.grant_work (s : State) (t q) : Work s (s.grant t q) := s.changeStock_work _ _
theorem State.chargeEnd_work (s : State) (st x n) : Work s (s.chargeEnd st x n) := s.changeStock_work _ _
theorem State.chargeStray_work (s : State) (t n) : Work s (s.chargeStray t n) := s.changeStock_work _ _

theorem State.openAccount_work (s : State) (i m h) : Work s (s.openAccount i m h) := by
  dsimp only [State.openAccount]
  split
  all_goals exact Work.ite ((s.modAccount_work _ _).trans (State.raiseKind_work _ _)) (s.modAccount_work _ _)

theorem State.takeSummary_work (s : State) (m) : Work s (s.takeSummary m) := by
  dsimp only [State.takeSummary]
  split
  all_goals exact Work.ite ((s.modAccount_work _ _).trans (State.raiseKind_work _ _)) (s.modAccount_work _ _)

theorem State.endReceipt_work (s : State) (t r b) : Work s (s.endReceipt t r b).2 :=
  (s.writeReserved_work _ _).trans (State.modTank_work _ _ _)

theorem State.cancelReceipt_work (s : State) (t r) : Work s (s.cancelReceipt t r).2 :=
  (s.endReceipt_work _ _ _).trans (State.modTank_work _ _ _)

/-! ## Metering and gauging -/

theorem State.gaugeTempAt_work (t x) (s : State) (h) : Work s (State.gaugeTempAt t x s h) := by
  unfold State.gaugeTempAt
  split
  · exact (s.modStep_work _ _).iteAfter
  · exact Work.refl s

theorem State.gaugeTemp_work (s : State) (t x) : Work s (s.gaugeTemp t x) :=
  Work.foldl _ (fun s h => State.gaugeTempAt_work t x s h) _ s

theorem State.probe_work (s : State) (h r) : Work s (s.probe h r) := by
  unfold State.probe
  cases r
  · dsimp only
    split
    · exact Work.ite ((s.modHose_work _ _).trans (State.modStep_work _ _ _)) (s.modHose_work _ _)
    · exact s.modHose_work _ _
  · dsimp only
    split
    · exact (s.modStep_work _ _).iteAfter
    · exact Work.refl s

theorem State.gaugeFault_work (s : State) (t) : Work s (s.gaugeFault t) := by
  dsimp only [State.gaugeFault]
  exact Work.ite (s.modTank_work _ _) ((s.modTank_work _ _).trans (State.report_work _ _))

theorem State.gaugeFaulty_work (s : State) (t) : Work s (s.gaugeFaulty t) := by
  dsimp only [State.gaugeFaulty]
  exact Work.iteAfter (Work.ite ((s.modTank_work _ _).trans (State.gaugeFault_work _ _)) (s.modTank_work _ _))

theorem State.gaugeStale_work (s : State) (t) : Work s (s.gaugeStale t) := by
  unfold State.gaugeStale
  exact ((s.modTank_work _ _).trans (State.gaugeFault_work _ _)).iteAfter

theorem State.gaugeValid_work (s : State) (t l x) : Work s (s.gaugeValid t l x) := by
  have h (a b c) : Work s (((s.modTank t a).gaugeTemp t b).modTank t c) :=
    (s.modTank_work _ _).trans ((State.gaugeTemp_work _ _ _).trans (State.modTank_work _ _ _))
  dsimp only [State.gaugeValid]
  exact Work.iteAfter (Work.ite ((h _ _ _).trans (State.report_work _ _)) (h _ _ _))

theorem State.probeLevel_work (s : State) (t b) : Work s (s.probeLevel t b) := by
  unfold State.probeLevel
  exact (s.modTank_work _ _).trans (State.report_work _ _).iteAfter

theorem State.leakQuiet_work (s : State) (t) : Work s (s.leakQuiet t) := by
  unfold State.leakQuiet
  exact (s.modTank_work _ _).iteAfter

/-! ## Hose channels -/

theorem State.sendEnd_work (s : State) (st rep) : Work s (s.sendEnd st rep) := by
  refine Work.trans ((s.chargeEnd_work st rep.target rep.figures.net).trans
    (State.modHose_work _ st.hose Channel.dropStep)) ?_
  exact .same rfl rfl rfl rfl rfl rfl rfl

theorem State.endWaiting_work (s : State) (r st e c) : Work s (s.endWaiting r st e c) := s.sendEnd_work _ _

theorem State.runOnCheck_work (s : State) (r) : Work s (s.runOnCheck r) := by
  unfold State.runOnCheck
  split
  · exact Work.refl s
  · exact ((s.modStep_work _ _).trans (State.report_work _ _)).iteAfter

theorem State.settle_work (s : State) (r st e c) : Work s (s.settle r st e c) :=
  (s.modHose_work _ _).trans ((State.modStep_work _ _ _).trans (State.runOnCheck_work _ _))

theorem State.enterRunning_work (s : State) (r st) : Work s (s.enterRunning r st) := by
  dsimp only [State.enterRunning]
  exact Work.ite ((s.modStep_work _ _).trans (State.settle_work _ _ _ _ _))
    ((s.modStep_work _ _).trans (State.modHose_work _ _ _))

theorem State.applyClaim_work (s : State) (r st d w a) : Work s (s.applyClaim r st d w a) := by
  cases a with
  | refused e => exact s.endWaiting_work _ _ _ _
  | granted q => exact (s.grant_work _ _).trans ((State.modStep_work _ _ _).trans (State.enterRunning_work _ _ _))

theorem State.claim_work (s : State) (r st) : Work s (s.claim r st) := by
  unfold State.claim
  split
  · exact s.endWaiting_work _ _ _ _
  · exact s.applyClaim_work _ _ _ _ _

theorem State.tryClaim_work (s : State) (h) : Work s (s.tryClaim h) := by
  unfold State.tryClaim
  dsimp only
  split
  · exact Work.refl s
  · exact Work.iteAfter (Work.ite ((s.modHose_work _ _).trans (State.enterRunning_work _ _ _))
      ((s.modHose_work _ _).trans (State.claim_work _ _ _)))

theorem State.startStep_work (s : State) (r st) : Work s (s.startStep r st) :=
  (s.modHose_work _ _).trans ((State.modStep_work _ _ _).trans (State.tryClaim_work _ _))

theorem State.coupleWait_work (s : State) (h) : Work s (s.coupleWait h) := by
  unfold State.coupleWait
  split
  · exact Work.refl s
  · exact (s.endWaiting_work _ _ _ _).iteAfter

theorem State.couple_work (s : State) (h) : Work s (s.couple h) := (s.modHose_work _ _).trans (State.tryClaim_work _ _)

theorem State.uncouple_work (s : State) (h) : Work s (s.uncouple h) := by
  dsimp only [State.uncouple]
  split
  · exact s.modHose_work _ _
  · exact Work.ite ((s.modHose_work _ _).trans (State.settle_work _ _ _ _ _)) (s.modHose_work _ _)

theorem State.runningPulse_work (s : State) (r st) : Work s (s.runningPulse r st) := by
  dsimp only [State.runningPulse]
  refine Work.ite ((s.modHose_work _ _).trans (State.settle_work _ _ _ _ _)) (Work.ite ?_ (s.modHose_work _ _))
  exact (s.modHose_work _ _).trans ((State.modStep_work _ _ _).trans (State.modHose_work _ _ _))

theorem State.meteredPulse_work (s : State) (r st) : Work s (s.meteredPulse r st) := by
  dsimp only [State.meteredPulse]
  refine Work.ite ((s.modStep_work _ _).trans (State.runningPulse_work _ _ _)) (Work.ite ?_ (s.modStep_work _ _))
  exact (s.modStep_work _ _).trans ((State.modHose_work _ _ _).trans (State.runOnCheck_work _ _))

theorem State.priceStray_work (s : State) (h) : Work s (s.priceStray h) := by
  unfold State.priceStray
  dsimp only
  split
  · exact Work.refl s
  · exact ((s.modHose_work _ _).trans (State.chargeStray_work _ _ _)).iteAfter

theorem State.strayPulse_work (s : State) (h) : Work s (s.strayPulse h) := by
  have h (f) : Work s ((s.modHose h f).priceStray h) := (s.modHose_work _ _).trans (State.priceStray_work _ _)
  dsimp only [State.strayPulse]
  exact Work.ite ((h _).trans (State.report_work _ _)) (h _)

theorem State.pulse_work (s : State) (h) : Work s (s.pulse h) := by
  unfold State.pulse
  split
  · exact s.strayPulse_work _
  · exact Work.ite (s.meteredPulse_work _ _) (s.strayPulse_work _)

theorem State.stall_work (s : State) (h) : Work s (s.stall h) := by
  unfold State.stall
  split
  · exact Work.refl s
  · exact (s.settle_work _ _ _ _).iteAfter

theorem State.rateWindow_work (s : State) (h) : Work s (s.rateWindow h) := by
  unfold State.rateWindow
  dsimp only
  split
  · exact Work.refl s
  · exact Work.iteAfter (Work.trans (s.report_work _).iteAfter (State.modHose_work _ _ _))

theorem State.settleEnd_work (s : State) (h) : Work s (s.settleEnd h) := by
  unfold State.settleEnd
  split
  · exact Work.refl s
  · exact (s.sendEnd_work _ _).iteAfter

theorem State.strayQuiet_work (s : State) (h) : Work s (s.strayQuiet h) := by
  unfold State.strayQuiet
  exact (s.modHose_work _ _).iteAfter

theorem State.suspend_work (s : State) (r st x) : Work s (s.suspend r st x) :=
  (s.modHose_work _ _).trans (State.modStep_work _ _ _)

theorem State.leavingAt_work (s : State) (h) : Work s (s.leavingAt h) := by
  unfold State.leavingAt
  split
  · exact Work.refl s
  · exact (s.suspend_work _ _ _).iteAfter

theorem State.presentAt_work (s : State) (h) : Work s (s.presentAt h) := by
  unfold State.presentAt
  split
  · exact Work.refl s
  · refine Work.ite (s.tryClaim_work _) (Work.iteAfter ?_)
    split
    · exact s.settle_work _ _ _ _
    · exact Work.ite (s.enterRunning_work _ _) (s.settle_work _ _ _ _)

theorem State.warnedAt_work (s : State) (h) : Work s (s.warnedAt h) := by
  unfold State.warnedAt
  split
  · exact Work.refl s
  · refine Work.ite (s.suspend_work _ _ _) (Work.ite (s.modStep_work _ _) (Work.iteAfter ?_))
    exact (s.modHose_work _ _).trans (State.modStep_work _ _ _)

theorem State.rewait_work (s : State) (r st) : Work s (s.rewait r st) :=
  (s.modHose_work _ _).trans (State.modStep_work _ _ _)

theorem State.resumeStep_work (s : State) (r st) : Work s (s.resumeStep r st) := by
  unfold State.resumeStep
  refine Work.ite ((s.rewait_work _ _).trans (State.tryClaim_work _ _)) ?_
  split
  · exact s.settle_work _ _ _ _
  · exact Work.ite (s.modStep_work _ _) (Work.ite (s.enterRunning_work _ _) (s.rewait_work _ _))

theorem State.closeStep_work (s : State) (r st e) : Work s (s.closeStep r st e) := by
  unfold State.closeStep
  exact Work.ite (s.endWaiting_work _ _ _ _) (s.settle_work _ _ _ _).iteAfter

theorem State.tripStep_work (s : State) (r st c) : Work s (s.tripStep r st c) := by
  unfold State.tripStep
  exact Work.ite (s.endWaiting_work _ _ _ _) (Work.ite (s.settle_work _ _ _ _) (s.modStep_work _ _).iteAfter)

theorem State.resetStep_work (s : State) (r st) : Work s (s.resetStep r st) := s.sendEnd_work _ _

/-! ## The order unit -/

theorem State.handOff_work (s : State) (i o e) : Work s (s.handOff i o e) := by
  dsimp only [State.handOff]
  exact (s.takeSummary_work _).trans ((State.writeReserved_work _ _ _).trans ((State.setOrder_work _ _ _).trans
    ((State.modIsland_work _ _ _).trans ((State.setOrder_work _ _ _).trans (State.raiseAt_work _ _ _)))))

theorem State.endOrder_work (s : State) (i) : Work s (s.endOrder i) := by
  unfold State.endOrder
  split
  · exact Work.refl s
  · exact s.handOff_work _ _ _

theorem State.endIfDone_work (s : State) (i) : Work s (s.endIfDone i) := by
  unfold State.endIfDone
  split
  · exact Work.refl s
  · exact (s.endOrder_work _).iteAfter

theorem State.startOne_work (s : State) (p) : Work s (s.startOne p) := by
  unfold State.startOne
  split
  · exact (s.modStep_work _ _).trans (State.raiseAt_work _ _ _)
  · exact s.startStep_work _ _

theorem State.stopOnError_work (s : State) (i) : Work s (s.stopOnError i) :=
  (s.modOrder_work _ _).trans (State.endIfDone_work _ _)

theorem State.startGroup_work (s : State) (i g m) : Work s (s.startGroup i g m).1 := by
  dsimp only [State.startGroup]
  split
  · exact (s.modOrder_work _ _).trans ((Work.foldl _ State.startOne_work m _).trans (State.stopOnError_work _ _))
  · exact (s.modOrder_work _ _).trans (Work.foldl _ State.startOne_work m _)

theorem State.tryStart_work (n : Nat) : ∀ (s : State) (i), Work s (State.tryStart n s i) := by
  induction n with
  | zero => intro s i; exact Work.refl s
  | succ n ih =>
    intro s i
    unfold State.tryStart
    split
    · exact Work.refl s
    · split
      · exact Work.refl s
      · refine Work.iteAfter (Work.ite ?_ ?_)
        · exact (s.modOrder_work _ _).trans (State.raiseAt_work _ _ _)
        · refine Work.trans (s.startGroup_work _ _ _) (Work.iteAfter ?_)
          split
          · exact Work.refl _
          · exact Work.ite (ih _ _) (State.endOrder_work _ _)

theorem State.nextGroup_work (s : State) (i) : Work s (s.nextGroup i) := State.tryStart_work 8 s i

theorem State.completeHold_work (s : State) (i) : Work s (s.completeHold i) := by
  unfold State.completeHold
  split
  · exact Work.refl s
  · exact Work.ite ((s.modOrder_work _ _).trans (State.raiseAt_work _ _ _))
      ((s.modOrder_work _ _).trans (State.endOrder_work _ _))

theorem State.course_work (s : State) (i b) : Work s (s.course i b) := by
  unfold State.course
  split
  · exact Work.refl s
  · exact Work.ite (s.stopOnError_work _) (Work.ite (s.completeHold_work _) (Work.ite (s.endIfDone_work _)
      (Work.iteAfter (Work.ite (s.nextGroup_work _) (s.endOrder_work _)))))

theorem State.takeEnd_work (s : State) (e) : Work s (s.takeEnd e) := by
  unfold State.takeEnd
  split
  · exact Work.refl s
  · exact (s.modStep_work _ _).trans ((State.raiseAt_work _ _ _).trans (State.course_work _ _ _))

theorem State.takeEnds_work (n : Nat) : ∀ s : State, Work s (State.takeEnds n s) := by
  induction n with
  | zero => intro s; exact .same rfl rfl rfl rfl rfl rfl rfl
  | succ n ih =>
    intro s
    unfold State.takeEnds
    split
    · exact Work.refl s
    · refine Work.trans ?_ (ih _)
      refine Work.trans ?_ (State.takeEnd_work _ _)
      exact .same rfl rfl rfl rfl rfl rfl rfl

theorem State.drain_work (s : State) : Work s s.drain := State.takeEnds_work 64 s

theorem State.settleAll_work (s : State) : Work s s.settleAll := s.drain_work.trans (State.alignOutputs_work _)

theorem State.createOrder_work (s : State) (f i l) : Work s (s.createOrder f i l) :=
  (s.setOrder_work _ _).trans ((State.openAccount_work _ _ _ _).trans (State.journalReserve_work _))

theorem State.resumeOrder_work (s : State) (i) : Work s (s.resumeOrder i) :=
  Work.foldl _ (fun s (p : StepRef × Step) => (s.resumeStep_work p.1 p.2).iteAfter) _ s

theorem State.startIfIdle_work (s : State) (i) : Work s (s.startIfIdle i) := by
  unfold State.startIfIdle
  split
  · exact Work.refl s
  · exact Work.ite (Work.refl s) (s.nextGroup_work _)

theorem State.closeSteps_work (s : State) (i f) : Work s (s.closeSteps i f) :=
  Work.foldl _ (fun s (p : StepRef × Step) => (s.closeStep_work p.1 p.2 (f p.2)).iteAfter) _ s

theorem State.warnOrder_work (s : State) (i) : Work s (s.warnOrder i) := by
  unfold State.warnOrder
  split
  · exact Work.refl s
  · refine Work.ite (Work.refl s) (Work.ite (s.modOrder_work _ _) ?_)
    exact (s.modOrder_work _ _).trans (Work.ite (Work.refl _) (State.raiseAt_work _ _ _))

theorem State.departure_work (s : State) (i) : Work s (s.departure i) := by
  dsimp only [State.departure]
  split
  · exact Work.refl s
  · exact (Work.ite ((s.report_work _).trans ((State.modOrder_work _ _ _).trans (State.closeSteps_work _ _ _)))
      ((s.modOrder_work _ _).trans (State.closeSteps_work _ _ _))).trans
        ((State.drain_work _).trans (State.endIfDone_work _ _))

theorem State.tripOrder_work (s : State) (i) : Work s (s.tripOrder i) := s.modOrder_work _ _

theorem State.resetOne_work (s : State) (p) : Work s (s.resetOne p) := by
  have h : Work (s.resetStep p.1 p.2) { s.resetStep p.1 p.2 with ends := [] } := .same rfl rfl rfl rfl rfl rfl rfl
  dsimp only [State.resetOne]
  exact Work.iteAfter ((s.resetStep_work _ _).trans (h.trans ((State.modStep_work _ _ _).trans
    (State.raiseAt_work _ _ _))))

theorem State.resetAt_work (s : State) (r) : Work s (s.resetAt r) := by
  dsimp only [State.resetAt]
  split
  · exact .refl s
  · exact s.resetOne_work _

theorem State.resetHandOff_work (s : State) (i) : Work s (s.resetHandOff i) := by
  dsimp only [State.resetHandOff]
  split
  · exact s.modOrder_work _ _
  · exact (s.modOrder_work _ _).trans (State.handOff_work _ _ _ _)

/-! ## The shutdown unit and the presence monitor -/

theorem State.tripOrders_work (s : State) (o) : Work s (s.tripOrders o) := by
  cases o
  · exact Work.foldl _ State.tripOrder_work _ s
  · exact s.tripOrder_work _
  · exact Work.refl s
  · exact Work.refl s

theorem State.tripHoseAt_work (o c) (s : State) (h) : Work s (State.tripHoseAt o c s h) := by
  unfold State.tripHoseAt
  split
  · exact Work.refl s
  · exact (s.tripStep_work _ _ _).iteAfter

theorem State.endDone_work (s : State) : Work s s.endDone := Work.foldl _ State.endIfDone_work _ s

theorem State.trip_work (s : State) (r) : Work s (s.trip r) := by
  dsimp only [State.trip]
  exact (s.setEntry_work _ _).trans ((State.tripOrders_work _ _).trans
    ((Work.foldl _ (fun s h => State.tripHoseAt_work _ _ s h) _ _).trans ((State.alignOutputs_work _).trans
      ((State.raiseKind_work _ _).trans ((State.drain_work _).trans ((State.endDone_work _).trans
        (State.alignOutputs_work _)))))))

theorem State.applyReport_work (s : State) (r) : Work s (s.applyReport r) := by
  dsimp only [State.applyReport]
  split
  · exact Work.refl s
  · exact (s.modShut_work _).trans (State.raiseKind_work _ _)
  · split
    · exact s.setEntry_work _ _
    · exact s.trip_work _

theorem State.setPresence_work (s : State) (i p t) : Work s (s.setPresence i p t) := s.modIsland_work _ _

theorem State.enterLeaving_work (s : State) (i) : Work s (s.enterLeaving i) :=
  (s.setPresence_work _ _ _).trans (Work.foldl _ State.leavingAt_work _ _)

theorem State.enterPresent_work (s : State) (i) : Work s (s.enterPresent i) :=
  (s.setPresence_work _ _ _).trans ((Work.foldl _ State.presentAt_work _ _).trans
    ((State.drain_work _).trans (State.nextGroup_work _ _)))

theorem State.detectorOn_work (s : State) (i) : Work s (s.detectorOn i) := by
  dsimp only [State.detectorOn]
  split
  · exact (s.modIsland_work _ _).trans (State.setPresence_work _ _ _ _)
  · exact (s.modIsland_work _ _).trans (State.enterPresent_work _ _)
  · exact s.modIsland_work _ _
  · exact s.modIsland_work _ _

theorem State.detectorOff_work (s : State) (i) : Work s (s.detectorOff i) := by
  dsimp only [State.detectorOff]
  split
  · exact (s.modIsland_work _ _).trans (State.setPresence_work _ _ _ _)
  · exact (s.modIsland_work _ _).trans (State.enterLeaving_work _ _)
  · exact s.modIsland_work _ _
  · exact s.modIsland_work _ _

theorem State.arrivalExpiry_work (s : State) (i) : Work s (s.arrivalExpiry i) := by
  unfold State.arrivalExpiry
  exact (s.enterPresent_work _).iteAfter

theorem State.leavingExpiry_work (s : State) (i) : Work s (s.leavingExpiry i) := by
  unfold State.leavingExpiry
  exact ((s.setPresence_work _ _ _).trans (State.departure_work _ _)).iteAfter

theorem State.floatLevel_work (s : State) (i b) : Work s (s.floatLevel i b) := by
  dsimp only [State.floatLevel]
  exact Work.ite ((s.modIsland_work _ _).trans (State.report_work _ _)) (s.modIsland_work _ _)

theorem State.stopLevel_work (s : State) (b) : Work s (s.stopLevel b) := by
  dsimp only [State.stopLevel]
  exact Work.ite ((s.modShut_work _).trans (State.applyReport_work _ _)) (s.modShut_work _)

end Sys2Proof.Machine
end

