-- ==== Sys2Proof/Laws/Requests.lean ====
section
/-! SUPPORT. What the taking of a request comes to, and what membership in the lists of steps means. -/

namespace Sys2Proof.Machine

open Sys2Proof.Safety

/-! ## Answers -/

theorem Port.place_list (r : Reply) (p : Port) : ((p.place r).sending, (p.place r).waiting) = listWith r p := by
  unfold Port.place listWith
  split <;> simp_all

theorem custodyOf_takenUp (role : Role) (l : Link) (q : List (List Byte)) : TakenUp role l q (custodyOf role l q) := by
  unfold TakenUp custodyOf handable
  cases q with
  | nil => simp
  | cons body rest =>
    cases h : requestInfo (decodeBody l body) with
    | none => simp [h]
    | some i => 
      cases hu : i.undecodable <;> cases hp : permitted role i.kind <;> simp [h, hu, hp]

/-- An answer changes nothing but the port that made the request, as `OnlyAnswered` says. -/
theorem State.answer_only (s : State) (l : Link) (tag : Half) (kind : Byte) (a : Answer) :
    OnlyAnswered s (s.answer l tag kind a) l (replyTo tag kind a) := by
  have h : (s.answer l tag kind a).ports.get l
      = Port.answered (s.cfg.links.get l).role l (replyTo tag kind a) (s.ports.get l) := by
    simp [State.answer]
  refine ⟨⟨?_, ?_, ?_, ?_, ?_, ?_⟩, ?_, ?_, ?_, rfl⟩
  · rw [h]; simp
  · rw [h, Port.answered_queue, Port.answered_custody]; exact custodyOf_takenUp _ _ _
  · rw [h]
    rcases (s.ports.get l).answered_cases (s.cfg.links.get l).role l (replyTo tag kind a) with ⟨hc, e⟩ | ⟨hc, e⟩
    · rw [e, if_pos hc]; rfl
    · rw [e, if_neg hc, Port.place_list]; rfl
  · rw [h]; simp
  · rw [h]; simp
  · rw [h]; simp
  · intro k hk
    simp [State.answer, hk]
  · rw [h]; simp
  · rw [h]; simp

theorem reply_eq (tag : Half) (k : Kind) (c : Code) (r : Results) : reply tag k c r = replyTo tag (kindByte k) (c, r) := rfl

/-- A decoded request that its port may make is answered by its owner. -/
theorem State.serve_admissible {α : Type} {s : State} {self : Instr} {l : Link} {k : Kind} (h : Admissible s l k self)
    (tag : Half) (a : α) (owner : α → State → Answer × State) :
    s.serve self l tag k (.fields a) owner = (owner a s).2.answer l tag (kindByte k) (owner a s).1 := by
  simp [State.serve, h.1, (State.mayMake_iff s l k).mpr h.2]

/-- The outcome of an admissible request whose owner answers `(c, r)` and leaves `u`: `u` with the request answered. -/
theorem State.serve_only {α : Type} {s u : State} {self : Instr} {l : Link} {k : Kind} (h : Admissible s l k self)
    (tag : Half) (a : α) (owner : α → State → Answer × State) {c : Code} {r : Results} (ho : owner a s = ((c, r), u)) :
    OnlyAnswered u (s.serve self l tag k (.fields a) owner) l (reply tag k c r) := by
  rw [State.serve_admissible h, ho]
  exact State.answer_only _ _ _ _ _

/-! ## Steps -/

theorem mem_allIslands (i : IslandNo) : i ∈ allIslands := by revert i; decide

theorem State.mem_stepsOf {s : State} {i : IslandNo} {r : StepRef} {st : Step} :
    (r, st) ∈ s.stepsOf i ↔ r.island = i ∧ HasStep s r st := by
  unfold State.stepsOf HasStep
  cases ho : s.orders.get i with
  | none => 
    constructor
    · intro h; simp at h
    · rintro ⟨rfl, o, h, -⟩; simp [ho] at h
  | some o =>
    constructor
    · intro h
      obtain ⟨⟨x, k⟩, hm, he⟩ := List.mem_map.mp h
      obtain ⟨rfl, rfl⟩ := Prod.mk.inj he
      have := List.mem_zipIdx_iff_getElem?.mp hm
      exact ⟨rfl, o, ho, this⟩
    · rintro ⟨rfl, o', h, hk⟩
      rw [ho] at h; cases h
      exact List.mem_map.mpr ⟨(st, r.idx), List.mem_zipIdx_iff_getElem?.mpr hk, rfl⟩

theorem State.mem_allSteps {s : State} {r : StepRef} {st : Step} : (r, st) ∈ s.allSteps ↔ HasStep s r st := by
  unfold State.allSteps
  rw [List.mem_flatMap]
  constructor
  · rintro ⟨i, -, h⟩; exact (State.mem_stepsOf.mp h).2
  · intro h; exact ⟨r.island, mem_allIslands _, State.mem_stepsOf.mpr ⟨rfl, h⟩⟩

theorem State.stepAt_eq_some {s : State} {r : StepRef} {st : Step} : s.stepAt r = some st ↔ HasStep s r st := by
  unfold State.stepAt HasStep
  rw [Option.bind_eq_some_iff]

theorem Step.isLive_iff (st : Step) : st.isLive = true ↔ st.state ≠ .ended ∧ st.state ≠ .notRun := by
  simp [Step.isLive]

theorem State.hoseInUse_iff (s : State) (h : HoseNo) : s.hoseInUse h = true ↔ HoseInUse s h := by
  unfold State.hoseInUse HoseInUse
  rw [List.any_eq_true]
  constructor
  · rintro ⟨⟨r, st⟩, hm, h⟩
    simp only [Bool.and_eq_true, decide_eq_true_eq, Step.isLive_iff] at h
    exact ⟨r, st, State.mem_allSteps.mp hm, h.1, h.2⟩
  · rintro ⟨r, st, hm, hh, hl⟩
    exact ⟨(r, st), State.mem_allSteps.mpr hm, by simp [hh, Step.isLive_iff, hl]⟩

theorem State.tankInUse_iff (s : State) (t : TankNo) : s.tankInUse t = true ↔ TankInUse s t := by
  unfold State.tankInUse TankInUse
  rw [Bool.or_eq_true, Bool.or_eq_true, decide_eq_true_eq, or_assoc]
  refine or_congr Iff.rfl (or_congr Iff.rfl ?_)
  rw [List.any_eq_true]
  constructor
  · rintro ⟨⟨r, st⟩, hm, h⟩
    simp only [Bool.and_eq_true, decide_eq_true_eq, Step.isLive_iff] at h
    exact ⟨r, st, State.mem_allSteps.mp hm, h.1, h.2⟩
  · rintro ⟨r, st, hm, hh, hl⟩
    exact ⟨(r, st), State.mem_allSteps.mpr hm, by simp [hh, Step.isLive_iff, hl]⟩

end Sys2Proof.Machine
end

