-- ==== Sys2Proof/Laws/Stock.lean ====
section
/-! SUPPORT. What the notices, the journal and the stock unit come to in the words of the statements: one equation for each
operation. -/

namespace Sys2Proof.Machine

open Sys2Proof.Safety

/-! ## Unit numbers and tables -/

theorem unitOf_val {n : Nat} (i : Fin n) : unitOf n i.val = some i := by simp [unitOf]
theorem unitOf_of_lt {n k : Nat} (h : k < n) : unitOf n k = some ⟨k, h⟩ := by simp [unitOf, h]
theorem unitOf_of_le {n k : Nat} (h : n ≤ k) : unitOf n k = none := by simp [unitOf]; omega

theorem Table.modify_congr {α : Type} {n : Nat} (v : Table α n) (i : Fin n) (f g : α → α) (h : f (v.get i) = g (v.get i)) :
    v.modify i f = v.modify i g := by
  simp [Table.modify, h]

theorem Table.modify_modify {α : Type} {n : Nat} (v : Table α n) (i : Fin n) (f g : α → α) :
    (v.modify i f).modify i g = v.modify i fun x => g (f x) := by
  ext j hj
  have h₁ := Table.modify_get (v.modify i f) i ⟨j, hj⟩ g
  have h₂ := Table.modify_get v i ⟨j, hj⟩ (fun x => g (f x))
  have h₃ := Table.modify_get v i ⟨j, hj⟩ f
  change Vector.get _ ⟨j, hj⟩ = Vector.get _ ⟨j, hj⟩
  rw [h₁, h₂]
  split
  · simp
  · rw [h₃]; simp [*]

/-! ## Notices -/

theorem State.raiseKind_eq (s : State) (k : NoticeKind) : s.raiseKind k = { s with ports := raised s [notice k] } :=
  State.raise_eq_ports s _

theorem State.raiseAt_eq (s : State) (k : NoticeKind) (i : IslandNo) :
    s.raiseAt k i = { s with ports := raised s [noticeAt k i] } :=
  State.raise_eq_ports s _

theorem raised_nil (s : State) : raised s [] = s.ports := rfl

theorem raised_congr {s t : State} (ns : List Notice) (hc : s.cfg = t.cfg) (hp : s.ports = t.ports) :
    raised s ns = raised t ns := State.raises_ports_congr ns hc hp

theorem raised_append (s : State) (a b : List Notice) : raised s (a ++ b) = raised { s with ports := raised s a } b := by
  unfold raised
  rw [List.foldl_append]
  exact State.raises_ports_congr b (State.raises_cfg a s) rfl

theorem State.ite_raiseKind {p : Prop} [Decidable p] (s : State) (k : NoticeKind) :
    (if p then s.raiseKind k else s) = { s with ports := raised s (noticeIf p (notice k)) } := by
  unfold noticeIf
  split
  · exact State.raiseKind_eq _ _
  · rw [raised_nil]

/-! ## The journal (R139 to R143) -/

/-- A reserved place: the count rises by one, and JOURNAL_LOW is raised when the free count reaches 8 from above. -/
theorem State.journalReserve_eq (s : State) (h : s.journal.records.length + s.journal.reserved < 64) :
    s.journalReserve = { s with
      journal := { s.journal with reserved := s.journal.reserved + 1 }
      ports := raised s (noticeIf (s.journal.records.length + s.journal.reserved = 55) (notice .journalLow)) } := by
  unfold State.journalReserve State.journalLowTest
  have : (s.journal.free = Config.journalLowMark + 1
      ∧ ({ s.journal with reserved := s.journal.reserved + 1 } : Journal).free = Config.journalLowMark)
      ↔ s.journal.records.length + s.journal.reserved = 55 := by
    simp only [Journal.free, Journal.count, Config.journalLowMark, Config.journalPlaces]; omega
  rw [if_congr this rfl rfl, State.ite_raiseKind]
  congr 1
  exact raised_congr _ rfl rfl

theorem State.journalWaitingTest_eq (s : State) (c : Bool) (b : RecordBody) (r : Nat) :
    State.journalWaitingTest { s with journal := { s.journal.append c b with reserved := r } } s.journal.count
      = { s with
          journal := { s.journal.append c b with reserved := r }
          ports := raised s (noticeIf (s.journal.records = []) (notice .journalWaiting)) } := by
  unfold State.journalWaitingTest
  have : (s.journal.count = 0 ∧ ({ s.journal.append c b with reserved := r } : Journal).count = 1)
      ↔ s.journal.records = [] := by
    simp only [Journal.count, Journal.append, List.length_append, List.length_singleton]
    rw [List.length_eq_zero_iff]
    exact ⟨fun h => h.1, fun h => by simp [h]⟩
  rw [if_congr this rfl rfl, State.ite_raiseKind]
  congr 1
  exact raised_congr _ rfl rfl

/-- A record written into a reserved place. -/
theorem State.writeReserved_eq (s : State) (c : Bool) (b : RecordBody) :
    s.writeReserved c b = (s.journal.next, { s with
      journal := withRecord s.journal c b 1
      ports := raised s (noticeIf (s.journal.records = []) (notice .journalWaiting)) }) := by
  unfold State.writeReserved
  rw [State.journalWaitingTest_eq]
  rfl

/-- A record written into a free place. -/
theorem State.writeUnreserved_eq (s : State) (c : Bool) (b : RecordBody)
    (h : s.journal.records.length + s.journal.reserved < 64) :
    s.writeUnreserved c b = (s.journal.next, { s with
      journal := withRecord s.journal c b 0
      ports := raised s (noticeIf (s.journal.records = []) (notice .journalWaiting)
        ++ noticeIf (s.journal.records.length + s.journal.reserved = 55) (notice .journalLow)) }) := by
  unfold State.writeUnreserved
  have e : State.journalWaitingTest { s with journal := s.journal.append c b } s.journal.count = _ :=
    State.journalWaitingTest_eq s c b s.journal.reserved
  rw [e]
  refine congrArg (Prod.mk _) ?_
  unfold State.journalLowTest
  rw [if_congr (Q := s.journal.records.length + s.journal.reserved = 55) _ rfl rfl, State.ite_raiseKind, raised_append]
  · congr 1
    exact raised_congr _ rfl rfl
  · simp only [Journal.free, Journal.count, Journal.append, List.length_append, List.length_singleton,
      Config.journalLowMark, Config.journalPlaces]
    omega

/-! ## The stock unit (R93) -/

/-- A change of a tank's figures: TANK_LOW is raised when the available quantity or the room passes below the reorder
level. -/
theorem State.changeStock_eq (s : State) (k : TankNo) (f : Tank → Tank) :
    s.changeStock k f = { s with
      tanks := s.tanks.modify k f
      ports := raised s
        (noticeIf (lowPassed (s.cfg.tanks.get k) (s.tanks.get k) (f (s.tanks.get k))) (notice .tankLow)) } := by
  unfold State.changeStock State.lowTest
  rw [if_congr (Q := lowPassed (s.cfg.tanks.get k) (s.tanks.get k) (f (s.tanks.get k))) _ rfl rfl, State.ite_raiseKind]
  · congr 1
    exact raised_congr _ rfl rfl
  · simp [isLow, lowPassed]

/-! ## Requests that go no further (R176, R178, R202) -/

theorem State.serve_untaken {α : Type} {s : State} {self : Instr} {l : Link} (h : s.canTake l self = false) (tag : Half)
    (k : Kind) (b : Sent α) (owner : α → State → Answer × State) : s.serve self l tag k b owner = s := by
  simp [State.serve, h]

theorem State.serve_undecodable {α : Type} {s : State} {self : Instr} {l : Link} (h : s.canTake l self = true) (tag : Half)
    (k : Kind) (r : DecodeRefusal) (owner : α → State → Answer × State) :
    OnlyAnswered s (s.serve self l tag k (.undecodable r) owner) l (reply tag k r.code .nothing) := by
  simp only [State.serve, h, if_true]
  exact State.answer_only _ _ _ _ _

theorem State.serve_forbidden {α : Type} {s : State} {self : Instr} {l : Link} {k : Kind} (h : s.canTake l self = true)
    (hp : s.mayMake l k = false) (tag : Half) (a : α) (owner : α → State → Answer × State) :
    OnlyAnswered s (s.serve self l tag k (.fields a) owner) l (reply tag k .notPermitted .nothing) := by
  simp only [State.serve, h, hp, if_true]
  exact State.answer_only _ _ _ _ _

end Sys2Proof.Machine
end

