-- ==== Sys2Proof/Laws/Outputs.lean ====
section
/-! SUPPORT. What the end of a command comes to: no end report is left, and the outputs follow the map and the valves. -/

namespace Sys2Proof.Machine

open Sys2Proof.Safety

theorem mem_allHoses (h : HoseNo) : h ∈ allHoses := by revert h; decide
theorem mem_allTanks (t : TankNo) : t ∈ allTanks := by revert t; decide

theorem State.drain_of_nil {s : State} (h : s.ends = []) : s.drain = s := by
  simp only [State.drain, State.takeEnds, h]

theorem State.isLatched_iff (s : State) (o : Scope) : s.isLatched o = true ↔ s.entryAt o ≠ none := by
  simp [State.isLatched, Option.isSome_iff_ne_none]

theorem State.pumpDue_iff (s : State) (t : TankNo) :
    s.pumpDue t = true ↔ (∃ h : HoseNo, s.drives t h = true) ∧ s.entryAt (.tank t) = none ∧ s.entryAt .bay = none := by
  unfold State.pumpDue State.tankShut
  simp only [Bool.and_eq_true, List.any_eq_true, mem_allHoses, true_and, Bool.not_eq_true', Bool.or_eq_false_iff]
  have e (o : Scope) : s.isLatched o = false ↔ s.entryAt o = none := by
    rw [← Bool.not_eq_true, State.isLatched_iff, not_not]
  rw [e, e]

/-- Outputs brought into line follow the map and the valves, and nothing else has changed. -/
theorem State.alignOutputs_follow {s u : State} (h : u.shut = s.shut) : OutputsFollow s u.alignOutputs := by
  refine ⟨by simp [State.alignOutputs, State.modShut, h], ?_, ?_⟩
  · change (!u.isLatched .bay) = true ↔ u.entryAt .bay = none
    rw [Bool.not_eq_true', ← Bool.not_eq_true, State.isLatched_iff, not_not]
  · intro k
    have : (u.alignOutputs).shut.pumps.get k = u.pumpDue k := by
      simp [State.alignOutputs, State.modShut, Vector.get_eq_getElem]
    rw [this]
    exact State.pumpDue_iff u k

/-- The end of a command that gave no end report. -/
theorem State.settleAll_follow {s u : State} (he : u.ends = []) (h : u.shut = s.shut) :
    OutputsFollow s u.settleAll ∧ u.settleAll = { u with shut := u.settleAll.shut } := by
  rw [State.settleAll, State.drain_of_nil he]
  exact ⟨State.alignOutputs_follow h, rfl⟩

end Sys2Proof.Machine
end

