-- ==== Sys2Proof/WellFormed.lean ====
section
/-! DEFINITION. Which commands can be sent at all: every field fits the bytes that Chapter 11 gives it, every counted
list fits its count byte, and an UNKNOWN_KIND_REQUEST names a kind byte that is not in Table 11-1. A command that is not
well formed has no spelling on a link; a field that fits its bytes and is out of range is well formed, because its owner
answers it. -/

namespace Sys2Proof

/-- A field of one byte (section 11.2). -/
def fits8 (n : Nat) : Bool := decide (n < 256)

/-- A field of two bytes. -/
def fits16 (n : Nat) : Bool := decide (n < 65536)

/-- A field of four bytes. -/
def fits32 (n : Nat) : Bool := decide (n < 4294967296)

/-- A signed field of four bytes. -/
def fitsSigned32 (x : Int) : Bool := decide (-2147483648 ≤ x) && decide (x ≤ 2147483647)

/-- An optional field of one byte whose absent code is 0xFF. -/
def fitsOptional8 : Option Nat → Bool
  | none => true
  | some n => decide (n < 255)

/-- An hour reading as the decoder lets it pass: absent, or 0 to 9,999,999 (R203). -/
def fitsHours : Option Nat → Bool
  | none => true
  | some n => decide (n ≤ Config.maxHours)

/-- A temperature field: two bytes, signed. -/
def fitsTemperature (x : Int) : Bool := decide (-32768 ≤ x) && decide (x ≤ 32767)

/-- The fields of a body that decodes fit; a body that does not decode is always one that can be sent. -/
def Sent.all {α : Type} (p : α → Bool) : Sent α → Bool
  | .fields a => p a
  | .undecodable _ => true

/-- The fields of ORDER_ADMIT fit, with at most the 34 steps that a body of 250 bytes holds. -/
def AdmitFields.fits (a : AdmitFields) : Bool :=
  fits8 a.island && fits16 a.machine && fitsHours a.hour && decide (a.steps.length ≤ 34)
    && a.steps.all (fun st => fits8 st.hose && fits32 st.preset)

/-- The fields of HOSE_SET fit. -/
def HoseSetFields.fits (f : HoseSetFields) : Bool :=
  fits8 f.hose && fits8 f.island && fitsOptional8 f.tank && fits32 f.factor && fits32 f.slowDown && fits16 f.stallTime
    && fits16 f.settleTime && fits16 f.maxPulses && fits32 f.runOnLimit && fits16 f.coupleWait && fits32 f.stepLimit
    && fits16 f.strayThreshold && fits8 f.enabled

/-- The fields of TANK_SET fit. -/
def TankSetFields.fits (f : TankSetFields) : Bool :=
  fits8 f.tank && fits8 f.fluid && fits32 f.capacity && fits32 f.lowLimit && fits32 f.highLimit && fits32 f.reorder
    && fits32 f.minStart && fits32 f.tolerance && fits32 f.leakThreshold && fits16 f.quietTime && fits16 f.staleTime

/-- The fields of ACCOUNT_CREATE and ACCOUNT_EDIT fit. -/
def AccountFields.fits (f : AccountFields) : Bool := fits16 f.machine && fits32 f.capacity && fits16 f.margin

/-- The fields of LUBE_SET fit, with at most the 18 entries that a body of 250 bytes holds. -/
def LubeFields.fits (f : LubeFields) : Bool :=
  fits16 f.machine && decide (f.entries.length ≤ 18)
    && f.entries.all (fun e => fits8 e.fluid && fits32 e.interval && fitsHours e.lastService && fits32 e.minQuantity)

/-- The fields of STRAP_LOAD fit, with at most the 40 points that a body of 250 bytes holds. -/
def StrapFields.fits (f : StrapFields) : Bool :=
  fits8 f.tank && decide (f.points.length ≤ 40) && f.points.all (fun q => fits16 q.level && fits32 q.volume)

/-- The commands that can be sent. -/
def Instr.wellFormed : Instr → Bool
  | .orderAdmit _ _ b => b.all AdmitFields.fits
  | .stepStop _ _ b => b.all (fun f => fits8 f.island && fits8 f.index)
  | .orderHold _ _ b | .orderContinue _ _ b | .orderCancel _ _ b | .orderRead _ _ b | .islandRead _ _ b | .tankRead _ _ b
  | .hoseRead _ _ b | .receiptOpen _ _ b | .receiptCancel _ _ b | .tripIsland _ _ b | .tripTank _ _ b | .tripHose _ _ b =>
    b.all fits8
  | .accountRead _ _ b | .accountBlock _ _ b | .accountUnblock _ _ b | .accountDelete _ _ b | .hoursConfirm _ _ b =>
    b.all fits16
  | .clockSet _ _ b | .journalRelease _ _ b => b.all fits32
  | .journalRead _ _ b => b.all (fun sel => match sel with | .oldest => true | .byNumber n => fits32 n)
  | .accountNext _ _ b => b.all (fun f => fits16 f.above)
  | .hoseSet _ _ b => b.all HoseSetFields.fits
  | .islandSet _ _ b => b.all (fun f => fits8 f.island && fits8 f.enabled && fits16 f.arrival && fits16 f.leaving)
  | .tankSet _ _ b => b.all TankSetFields.fits
  | .fluidSet _ _ b => b.all (fun f => fits8 f.fluid && fits8 f.isDefined && fits16 f.beta)
  | .strapLoad _ _ b => b.all StrapFields.fits
  | .accountLimitsSet _ _ b => b.all (fun f => fits32 f.jumpLimit && fits32 f.minSpan)
  | .linkSet _ _ b => b.all (fun f => fits8 f.link)
  | .receiptClose _ _ b =>
    b.all (fun f => fits8 f.tank && (match f.docket with | none => true | some q => fits32 q && decide (0 < q)))
  | .stockSet _ _ b => b.all (fun f => fits8 f.tank && fitsSigned32 f.book)
  | .accountCreate _ _ b | .accountEdit _ _ b => b.all AccountFields.fits
  | .hoursRebase _ _ b => b.all (fun f => fits16 f.machine && fitsHours f.reading)
  | .lubeSet _ _ b => b.all LubeFields.fits
  | .unknownKindRequest _ _ kind => (Kind.ofCode kind.toNat).isNone
  | .probeReading _ r => match r with | .valid x => fitsTemperature x | .faulty => true
  | .gaugeReadingValid _ level x => fits16 level && fitsTemperature x
  | .shutdownRead .. | .warnRead .. | .journalStatus .. | .clockRead .. | .supplyRead .. | .identify .. | .causeSet ..
  | .settingsSave .. | .shutdownClear .. | .tripBay .. | .noticeFetch .. | .noticeMaskSet .. | .linkStatus ..
  | .linkReset .. | .linkByteReceived .. | .frameTimerExpiry _ | .replySent _ | .meterPulse _ | .hoseCoupled _
  | .hoseUncoupled _ | .detectorAsserted _ | .detectorNegated _ | .arrivalDebounceExpiry _ | .leavingDebounceExpiry _
  | .sumpFloatChange .. | .gaugeReadingFaulty _ | .gaugeStaleExpiry _ | .overfillProbeChange .. | .leakQuietExpiry _
  | .emergencyStopChange _ | .coupleWaitExpiry _ | .stallTimerExpiry _ | .rateWindowExpiry _ | .settleTimerExpiry _
  | .strayQuietExpiry _ | .shutdownReport _ | .saveCompletion _ | .powerFailWarningAsserted | .powerFailWarningNegated
  | .supplyLoss _ | .powerOn .. | .externalResetAsserted _ | .externalResetNegated .. | .bayClockTick => true

end Sys2Proof
end

