-- ==== Sys2Proof/Laws/PerInstr.lean ====
section
/-! SUPPORT. What is said of every command, one lemma for each: Table 11-1 reads the kind of a request back from its code, and
a request whose body does not decode is always one that can be sent. -/

namespace Sys2Proof.Laws.Sendable

open Sys2Proof.Machine Sys2Proof.Safety

/-- A request's kind is the kind of its kind byte in Table 11-1, and a request that does not decode is well formed (its body
is any run of bytes). -/
def Statement (i : Instr) : Prop :=
  ∀ q, requestInfo i = some q → Kind.ofCode q.kind.code = some q.kind ∧ (q.undecodable ≠ none → i.wellFormed = true)

/-- A request: the kind comes back from its byte, and decoding fails only by the body. -/
theorem of_request {i : Instr} {l : Link} {tag : Half} {k : Kind} {r : Option DecodeRefusal}
    (h : requestInfo i = some ⟨l, tag, k, r⟩) (hk : Kind.ofCode k.code = some k) (hw : r ≠ none → i.wellFormed = true) :
    Statement i := by
  intro q hq
  rw [h] at hq
  cases hq
  exact ⟨hk, hw⟩

/-- An event is no request. -/
theorem of_event {i : Instr} (h : requestInfo i = none) : Statement i := by
  intro q hq
  rw [h] at hq
  cases hq

theorem orderAdmit (l : Link) (tag : Half) (b : Sent AdmitFields) : Statement (.orderAdmit l tag b) := by
  cases b <;> exact of_request rfl (by decide) fun h => (by first | exact absurd rfl h | rfl)

theorem orderHold (l : Link) (tag : Half) (b : Sent Nat) : Statement (.orderHold l tag b) := by
  cases b <;> exact of_request rfl (by decide) fun h => (by first | exact absurd rfl h | rfl)

theorem orderContinue (l : Link) (tag : Half) (b : Sent Nat) : Statement (.orderContinue l tag b) := by
  cases b <;> exact of_request rfl (by decide) fun h => (by first | exact absurd rfl h | rfl)

theorem orderCancel (l : Link) (tag : Half) (b : Sent Nat) : Statement (.orderCancel l tag b) := by
  cases b <;> exact of_request rfl (by decide) fun h => (by first | exact absurd rfl h | rfl)

theorem stepStop (l : Link) (tag : Half) (b : Sent StopFields) : Statement (.stepStop l tag b) := by
  cases b <;> exact of_request rfl (by decide) fun h => (by first | exact absurd rfl h | rfl)

theorem orderRead (l : Link) (tag : Half) (b : Sent Nat) : Statement (.orderRead l tag b) := by
  cases b <;> exact of_request rfl (by decide) fun h => (by first | exact absurd rfl h | rfl)

theorem islandRead (l : Link) (tag : Half) (b : Sent Nat) : Statement (.islandRead l tag b) := by
  cases b <;> exact of_request rfl (by decide) fun h => (by first | exact absurd rfl h | rfl)

theorem tankRead (l : Link) (tag : Half) (b : Sent Nat) : Statement (.tankRead l tag b) := by
  cases b <;> exact of_request rfl (by decide) fun h => (by first | exact absurd rfl h | rfl)

theorem hoseRead (l : Link) (tag : Half) (b : Sent Nat) : Statement (.hoseRead l tag b) := by
  cases b <;> exact of_request rfl (by decide) fun h => (by first | exact absurd rfl h | rfl)

theorem shutdownRead (l : Link) (tag : Half) (b : Sent ShutdownSelect) : Statement (.shutdownRead l tag b) := by
  cases b <;> exact of_request rfl (by decide) fun h => (by first | exact absurd rfl h | rfl)

theorem warnRead (l : Link) (tag : Half) (b : Sent Unit) : Statement (.warnRead l tag b) := by
  cases b <;> exact of_request rfl (by decide) fun h => (by first | exact absurd rfl h | rfl)

theorem journalRead (l : Link) (tag : Half) (b : Sent JournalSelect) : Statement (.journalRead l tag b) := by
  cases b <;> exact of_request rfl (by decide) fun h => (by first | exact absurd rfl h | rfl)

theorem journalStatus (l : Link) (tag : Half) (b : Sent Unit) : Statement (.journalStatus l tag b) := by
  cases b <;> exact of_request rfl (by decide) fun h => (by first | exact absurd rfl h | rfl)

theorem accountRead (l : Link) (tag : Half) (b : Sent Nat) : Statement (.accountRead l tag b) := by
  cases b <;> exact of_request rfl (by decide) fun h => (by first | exact absurd rfl h | rfl)

theorem accountNext (l : Link) (tag : Half) (b : Sent NextFields) : Statement (.accountNext l tag b) := by
  cases b <;> exact of_request rfl (by decide) fun h => (by first | exact absurd rfl h | rfl)

theorem clockRead (l : Link) (tag : Half) (b : Sent Unit) : Statement (.clockRead l tag b) := by
  cases b <;> exact of_request rfl (by decide) fun h => (by first | exact absurd rfl h | rfl)

theorem supplyRead (l : Link) (tag : Half) (b : Sent Unit) : Statement (.supplyRead l tag b) := by
  cases b <;> exact of_request rfl (by decide) fun h => (by first | exact absurd rfl h | rfl)

theorem identify (l : Link) (tag : Half) (b : Sent Unit) : Statement (.identify l tag b) := by
  cases b <;> exact of_request rfl (by decide) fun h => (by first | exact absurd rfl h | rfl)

theorem hoseSet (l : Link) (tag : Half) (b : Sent HoseSetFields) : Statement (.hoseSet l tag b) := by
  cases b <;> exact of_request rfl (by decide) fun h => (by first | exact absurd rfl h | rfl)

theorem islandSet (l : Link) (tag : Half) (b : Sent IslandSetFields) : Statement (.islandSet l tag b) := by
  cases b <;> exact of_request rfl (by decide) fun h => (by first | exact absurd rfl h | rfl)

theorem tankSet (l : Link) (tag : Half) (b : Sent TankSetFields) : Statement (.tankSet l tag b) := by
  cases b <;> exact of_request rfl (by decide) fun h => (by first | exact absurd rfl h | rfl)

theorem fluidSet (l : Link) (tag : Half) (b : Sent FluidSetFields) : Statement (.fluidSet l tag b) := by
  cases b <;> exact of_request rfl (by decide) fun h => (by first | exact absurd rfl h | rfl)

theorem strapLoad (l : Link) (tag : Half) (b : Sent StrapFields) : Statement (.strapLoad l tag b) := by
  cases b <;> exact of_request rfl (by decide) fun h => (by first | exact absurd rfl h | rfl)

theorem causeSet (l : Link) (tag : Half) (b : Sent CauseSetFields) : Statement (.causeSet l tag b) := by
  cases b <;> exact of_request rfl (by decide) fun h => (by first | exact absurd rfl h | rfl)

theorem accountLimitsSet (l : Link) (tag : Half) (b : Sent LimitsFields) : Statement (.accountLimitsSet l tag b) := by
  cases b <;> exact of_request rfl (by decide) fun h => (by first | exact absurd rfl h | rfl)

theorem linkSet (l : Link) (tag : Half) (b : Sent LinkSetFields) : Statement (.linkSet l tag b) := by
  cases b <;> exact of_request rfl (by decide) fun h => (by first | exact absurd rfl h | rfl)

theorem clockSet (l : Link) (tag : Half) (b : Sent Nat) : Statement (.clockSet l tag b) := by
  cases b <;> exact of_request rfl (by decide) fun h => (by first | exact absurd rfl h | rfl)

theorem settingsSave (l : Link) (tag : Half) (b : Sent Unit) : Statement (.settingsSave l tag b) := by
  cases b <;> exact of_request rfl (by decide) fun h => (by first | exact absurd rfl h | rfl)

theorem receiptOpen (l : Link) (tag : Half) (b : Sent Nat) : Statement (.receiptOpen l tag b) := by
  cases b <;> exact of_request rfl (by decide) fun h => (by first | exact absurd rfl h | rfl)

theorem receiptClose (l : Link) (tag : Half) (b : Sent CloseFields) : Statement (.receiptClose l tag b) := by
  cases b <;> exact of_request rfl (by decide) fun h => (by first | exact absurd rfl h | rfl)

theorem receiptCancel (l : Link) (tag : Half) (b : Sent Nat) : Statement (.receiptCancel l tag b) := by
  cases b <;> exact of_request rfl (by decide) fun h => (by first | exact absurd rfl h | rfl)

theorem stockSet (l : Link) (tag : Half) (b : Sent StockSetFields) : Statement (.stockSet l tag b) := by
  cases b <;> exact of_request rfl (by decide) fun h => (by first | exact absurd rfl h | rfl)

theorem accountCreate (l : Link) (tag : Half) (b : Sent AccountFields) : Statement (.accountCreate l tag b) := by
  cases b <;> exact of_request rfl (by decide) fun h => (by first | exact absurd rfl h | rfl)

theorem accountEdit (l : Link) (tag : Half) (b : Sent AccountFields) : Statement (.accountEdit l tag b) := by
  cases b <;> exact of_request rfl (by decide) fun h => (by first | exact absurd rfl h | rfl)

theorem accountBlock (l : Link) (tag : Half) (b : Sent Nat) : Statement (.accountBlock l tag b) := by
  cases b <;> exact of_request rfl (by decide) fun h => (by first | exact absurd rfl h | rfl)

theorem accountUnblock (l : Link) (tag : Half) (b : Sent Nat) : Statement (.accountUnblock l tag b) := by
  cases b <;> exact of_request rfl (by decide) fun h => (by first | exact absurd rfl h | rfl)

theorem accountDelete (l : Link) (tag : Half) (b : Sent Nat) : Statement (.accountDelete l tag b) := by
  cases b <;> exact of_request rfl (by decide) fun h => (by first | exact absurd rfl h | rfl)

theorem hoursConfirm (l : Link) (tag : Half) (b : Sent Nat) : Statement (.hoursConfirm l tag b) := by
  cases b <;> exact of_request rfl (by decide) fun h => (by first | exact absurd rfl h | rfl)

theorem hoursRebase (l : Link) (tag : Half) (b : Sent RebaseFields) : Statement (.hoursRebase l tag b) := by
  cases b <;> exact of_request rfl (by decide) fun h => (by first | exact absurd rfl h | rfl)

theorem lubeSet (l : Link) (tag : Half) (b : Sent LubeFields) : Statement (.lubeSet l tag b) := by
  cases b <;> exact of_request rfl (by decide) fun h => (by first | exact absurd rfl h | rfl)

theorem journalRelease (l : Link) (tag : Half) (b : Sent Nat) : Statement (.journalRelease l tag b) := by
  cases b <;> exact of_request rfl (by decide) fun h => (by first | exact absurd rfl h | rfl)

theorem shutdownClear (l : Link) (tag : Half) (b : Sent Scope) : Statement (.shutdownClear l tag b) := by
  cases b <;> exact of_request rfl (by decide) fun h => (by first | exact absurd rfl h | rfl)

theorem tripBay (l : Link) (tag : Half) (b : Sent Unit) : Statement (.tripBay l tag b) := by
  cases b <;> exact of_request rfl (by decide) fun h => (by first | exact absurd rfl h | rfl)

theorem tripIsland (l : Link) (tag : Half) (b : Sent Nat) : Statement (.tripIsland l tag b) := by
  cases b <;> exact of_request rfl (by decide) fun h => (by first | exact absurd rfl h | rfl)

theorem tripTank (l : Link) (tag : Half) (b : Sent Nat) : Statement (.tripTank l tag b) := by
  cases b <;> exact of_request rfl (by decide) fun h => (by first | exact absurd rfl h | rfl)

theorem tripHose (l : Link) (tag : Half) (b : Sent Nat) : Statement (.tripHose l tag b) := by
  cases b <;> exact of_request rfl (by decide) fun h => (by first | exact absurd rfl h | rfl)

theorem noticeFetch (l : Link) (tag : Half) (b : Sent Unit) : Statement (.noticeFetch l tag b) := by
  cases b <;> exact of_request rfl (by decide) fun h => (by first | exact absurd rfl h | rfl)

theorem noticeMaskSet (l : Link) (tag : Half) (b : Sent MaskFields) : Statement (.noticeMaskSet l tag b) := by
  cases b <;> exact of_request rfl (by decide) fun h => (by first | exact absurd rfl h | rfl)

theorem linkStatus (l : Link) (tag : Half) (b : Sent Unit) : Statement (.linkStatus l tag b) := by
  cases b <;> exact of_request rfl (by decide) fun h => (by first | exact absurd rfl h | rfl)

theorem linkReset (l : Link) (tag : Half) (b : Sent Unit) : Statement (.linkReset l tag b) := by
  cases b <;> exact of_request rfl (by decide) fun h => (by first | exact absurd rfl h | rfl)

theorem unknownKindRequest (l : Link) (tag : Half) (kind : Byte) : Statement (.unknownKindRequest l tag kind) := of_event rfl

theorem linkByteReceived (l : Link) (b : Byte) : Statement (.linkByteReceived l b) := of_event rfl

theorem frameTimerExpiry (l : Link) : Statement (.frameTimerExpiry l) := of_event rfl

theorem replySent (l : Link) : Statement (.replySent l) := of_event rfl

theorem meterPulse (h : HoseNo) : Statement (.meterPulse h) := of_event rfl

theorem probeReading (h : HoseNo) (r : ProbeReading) : Statement (.probeReading h r) := of_event rfl

theorem hoseCoupled (h : HoseNo) : Statement (.hoseCoupled h) := of_event rfl

theorem hoseUncoupled (h : HoseNo) : Statement (.hoseUncoupled h) := of_event rfl

theorem detectorAsserted (i : IslandNo) : Statement (.detectorAsserted i) := of_event rfl

theorem detectorNegated (i : IslandNo) : Statement (.detectorNegated i) := of_event rfl

theorem arrivalDebounceExpiry (i : IslandNo) : Statement (.arrivalDebounceExpiry i) := of_event rfl

theorem leavingDebounceExpiry (i : IslandNo) : Statement (.leavingDebounceExpiry i) := of_event rfl

theorem sumpFloatChange (i : IslandNo) (level : Bool) : Statement (.sumpFloatChange i level) := of_event rfl

theorem gaugeReadingValid (t : TankNo) (level : Nat) (tenths : Int) : Statement (.gaugeReadingValid t level tenths) := of_event rfl

theorem gaugeReadingFaulty (t : TankNo) : Statement (.gaugeReadingFaulty t) := of_event rfl

theorem gaugeStaleExpiry (t : TankNo) : Statement (.gaugeStaleExpiry t) := of_event rfl

theorem overfillProbeChange (t : TankNo) (level : Bool) : Statement (.overfillProbeChange t level) := of_event rfl

theorem leakQuietExpiry (t : TankNo) : Statement (.leakQuietExpiry t) := of_event rfl

theorem emergencyStopChange (level : Bool) : Statement (.emergencyStopChange level) := of_event rfl

theorem coupleWaitExpiry (h : HoseNo) : Statement (.coupleWaitExpiry h) := of_event rfl

theorem stallTimerExpiry (h : HoseNo) : Statement (.stallTimerExpiry h) := of_event rfl

theorem rateWindowExpiry (h : HoseNo) : Statement (.rateWindowExpiry h) := of_event rfl

theorem settleTimerExpiry (h : HoseNo) : Statement (.settleTimerExpiry h) := of_event rfl

theorem strayQuietExpiry (h : HoseNo) : Statement (.strayQuietExpiry h) := of_event rfl

theorem shutdownReport (r : Report) : Statement (.shutdownReport r) := of_event rfl

theorem saveCompletion (e : SaveEnd) : Statement (.saveCompletion e) := of_event rfl

theorem powerFailWarningAsserted : Statement .powerFailWarningAsserted := of_event rfl

theorem powerFailWarningNegated : Statement .powerFailWarningNegated := of_event rfl

theorem supplyLoss (cut : SaveCut) : Statement (.supplyLoss cut) := of_event rfl

theorem powerOn (r : Retention) (run : StartRun) : Statement (.powerOn r run) := of_event rfl

theorem externalResetAsserted (cut : SaveCut) : Statement (.externalResetAsserted cut) := of_event rfl

theorem externalResetNegated (run : StartRun) : Statement (.externalResetNegated run) := of_event rfl

theorem bayClockTick : Statement .bayClockTick := of_event rfl

end Sys2Proof.Laws.Sendable
end

