-- ==== Sys2Proof/Laws/StartUp.lean ====
section
/-! SUPPORT. What a start-up does with its actions: it takes a first part of them, and all of them or none of the last one. -/

namespace Sys2Proof.Machine

@[simp] theorem State.outputsOff_shut (s : State) :
    s.outputsOff.shut = { s.shut with relay := false, pumps := Vector.replicate 10 false } := rfl
@[simp] theorem State.outputsOff_supply (s : State) : s.outputsOff.supply = s.supply := rfl
@[simp] theorem State.outputsOff_orders (s : State) : s.outputsOff.orders = s.orders := rfl
@[simp] theorem State.outputsOff_hoses (s : State) : s.outputsOff.hoses = s.hoses := rfl
@[simp] theorem State.outputsOff_powered (s : State) : s.outputsOff.powered = s.powered := rfl

@[simp] theorem State.startUp_whole (s : State) (plan) : s.startUp plan .whole = plan.foldl State.startAction s := rfl

/-- A start-up that goes no further than `n` actions: the state after a first part of its actions that lacks the last one, the
outputs off and the start-up under way. -/
theorem State.startUp_actions (s : State) (plan : List StartAction) (n : Nat) :
    ∃ taken left : List StartAction, plan.dropLast = taken ++ left ∧ taken.length ≤ n ∧
      (left ≠ [] → taken.length = n) ∧
      s.startUp plan (.actions n) = (taken.foldl State.startAction s).outputsOff.modSupply fun u => { u with starting := true } := by
  refine ⟨plan.dropLast.take n, plan.dropLast.drop n, (List.take_append_drop ..).symm, List.length_take_le .., fun h => ?_, rfl⟩
  have : n < plan.dropLast.length := by rwa [ne_eq, List.drop_eq_nil_iff, Nat.not_le] at h
  rw [List.length_take]
  omega

@[simp] theorem State.startUp_actions_running (s : State) (plan) (n : Nat) :
    (s.startUp plan (.actions n)).running = false := by
  simp [State.startUp, State.running]

@[simp] theorem State.startUp_actions_starting (s : State) (plan) (n : Nat) :
    (s.startUp plan (.actions n)).supply.starting = true := rfl

/-- A start-up is its first actions and then the others, started from what the first leave. -/
theorem State.startUp_append (s : State) (first rest : List StartAction) :
    s.startUp (first ++ rest) .whole = (first.foldl State.startAction s).startUp rest .whole := by
  simp [List.foldl_append]

end Sys2Proof.Machine
end

