-- ==== Sys2Proof/Tests/Slice0.lean ====
section
/-! SUPPORT. Tests of the model: commands that are not well formed, the book's worked examples, and for each statement of
Obligations.lean a state and operands that meet its hypotheses. Expected values come from the book or are worked out by hand
from its rules. -/

namespace Sys2Proof.Tests

set_option Elab.async false

open Sys2Proof Sys2Proof.Machine Sys2Proof.Safety

/-! ## A small bay -/

/-- Hose 0 draws diesel from tank 0 at island 0: 100 mL a pulse, slow-down 500 mL. -/
def hose0 : HoseCfg := { HoseCfg.default with tank := some 0, slowDown := 500, enabled := true }

/-- Tank 0: diesel, low limit 1,000 mL, high limit 900,000 mL. -/
def tank0 : TankCfg :=
  { TankCfg.default with capacity := 1000000, lowLimit := 1000, highLimit := 900000, reorder := 5000 }

def config : Settings :=
  { Settings.default with
    hoses := Settings.default.hoses.put 0 hose0
    islands := Settings.default.islands.put 0 { enabled := true, arrival := 30, leaving := 15 }
    tanks := Settings.default.tanks.put 0 tank0
    straps := Settings.default.straps.put 0 [⟨0, 0⟩, ⟨1000, 1000000⟩]
    fluids := Settings.default.fluids.put 0 { isDefined := true, kind := .fuel, beta := 8 } }

/-- An account that may draw fluid 0. -/
def account (m : Nat) : Account :=
  { machine := m, cls := .haul, state := .active, fluids := 1, capacity := 0, lastHours := some 1000, reviewHours := none,
    markHours := some 1000, carry := 0, rate := 0, margin := 10, highUse := none, lifetimeFuel := 0, lifetimeOther := 0,
    inUse := none, lube := [] }

/-- The bay at work: the clock set, nothing latched, a machine present at island 0, 500,000 mL in tank 0. -/
def bay : State :=
  { State.reset with
    cfg := config
    ports := Vector.replicate 3 Port.initial
    islands := State.reset.islands.put 0 { Island.initial with presence := .present, level := true }
    tanks := State.reset.tanks.put 0
      { Tank.initial with
        state := .inService, book := 500000, staleTimer := some 600
        gauge := { Gauge.initial with valid := true, temp := 150, level := 500, gross := 500000, net := 500000 } }
    accounts := [account 7]
    shut := { State.reset.shut with map := Vector.replicate 31 none, relay := true }
    supply := { State.reset.supply with clock := 1000, clockSet := true, unsaved := false } }

/-- The context of a step of hose 0. -/
def context : StepContext :=
  { tank := 0, fluid := 0, fluidKind := .fuel, beta := 8, factor := 100000, slowDown := 500, stallTime := 10,
    settleTime := 20, maxPulses := 20000, runOnLimit := 50000, coupleWait := 120, stepLimit := 2000000000,
    capacityBound := none }

/-- A PRESET step of 2,000 mL at hose 0, waiting to be coupled. -/
def waiting : Step :=
  { kind := .preset, hose := 0, preset := some 2000, isParallel := false, holdBefore := false, stopOnError := false,
    ctx := context, state := .waitingCouple, target := 0, limitedBy := .unbounded, grossAcc := 0, netAcc := 0,
    netAtClose := none, suspension := none, endStatus := none, tempHeld := false, tempClamped := false, cause := none,
    runOnReported := false, temp := 150, tempSource := .gauge, clampedNow := false, c7 := 10000000, final := none }

/-- The step at full flow, with `n` pulses metered at the standard temperature. -/
def running (n : Nat) : Step :=
  { waiting with state := .runningFast, target := 2000, grossAcc := n * 100000, netAcc := n * 1000000000000 }

/-- The step settling after its target of 2,000 mL. -/
def settling : Step :=
  { running 20 with state := .settling, netAtClose := some 2000, endStatus := some .complete }

/-- An order for machine 7 with some steps. -/
def order (st : OrderState) (hold : Option HoldReason) (steps : List Step) : Order :=
  { machine := 7, hour := none, admissionClock := 900, clockNotSet := false, state := st, hold := hold, gapTaken := none,
    group := 1, endStatus := none, seq := none, steps := steps }

/-- The bay with an order at island 0. -/
def bayWith (o : Order) : State :=
  { bay with
    orders := bay.orders.put 0 (some o)
    journal := { bay.journal with reserved := 1 }
    accounts := [{ account 7 with inUse := some 0 }] }

/-- The bay with hose 0 taking its step of the order. -/
def bayAt (o : Order) (f : Channel → Channel) : State :=
  { bayWith o with hoses := bay.hoses.modify 0 fun k => f { k with step := some ⟨0, 0⟩ } }

def atWait : State := bayAt (order .active none [waiting]) fun k => { k with coupleTimer := some 1200 }

/-- The step runs: 2,000 mL are reserved in tank 0 and the pump is on. -/
def atRun (n : Nat) : State :=
  { bayAt (order .active none [running n]) (fun k =>
      { k with coupled := true, valve := .full, stallTimer := some 100, rateTimer := some 10 }) with
    tanks := bay.tanks.modify 0 fun k => { k with reserved := 2000, leak := .busy, quietTimer := none }
    shut := { bay.shut with pumps := bay.shut.pumps.put 0 true } }

def atSettle : State :=
  { bayAt (order .active none [settling]) (fun k => { k with coupled := true, settleTimer := some 20 }) with
    tanks := bay.tanks.modify 0 fun k => { k with reserved := 2000, leak := .busy, quietTimer := none } }

/-! ## Commands that are not well formed: one for each check -/

theorem test_wf_island_byte : (Instr.orderHold 0 1 (.fields 256)).wellFormed = false := by decide
theorem test_wf_machine_word : (Instr.accountRead 0 1 (.fields 65536)).wellFormed = false := by decide
theorem test_wf_clock_word : (Instr.clockSet 0 1 (.fields 4294967296)).wellFormed = false := by decide
theorem test_wf_admit_hours : (Instr.orderAdmit 0 1 (.fields ⟨0, 1, some 10000000, []⟩)).wellFormed = false := by decide
theorem test_wf_admit_preset :
    (Instr.orderAdmit 0 1 (.fields ⟨0, 1, none, [⟨none, 0, 0, 4294967296⟩]⟩)).wellFormed = false := by decide
theorem test_wf_admit_steps :
    (Instr.orderAdmit 0 1 (.fields ⟨0, 1, none, List.replicate 35 ⟨none, 0, 0, 0⟩⟩)).wellFormed = false := by decide
theorem test_wf_stop_index : (Instr.stepStop 0 1 (.fields ⟨0, 256⟩)).wellFormed = false := by decide
theorem test_wf_journal_number : (Instr.journalRead 0 1 (.fields (.byNumber 4294967296))).wellFormed = false := by decide
theorem test_wf_next_above : (Instr.accountNext 0 1 (.fields ⟨65536, .all, none⟩)).wellFormed = false := by decide
theorem test_wf_hose_tank :
    (Instr.hoseSet 0 1 (.fields ⟨0, 0, some 255, 50, 0, 1, 5, 1, 0, 10, 1000, 1, 1⟩)).wellFormed = false := by decide
theorem test_wf_island_times : (Instr.islandSet 0 1 (.fields ⟨0, 1, 65536, 5⟩)).wellFormed = false := by decide
theorem test_wf_tank_capacity :
    (Instr.tankSet 0 1 (.fields ⟨0, .supply, 0, 4294967296, 0, 0, 0, 0, 0, 1000, 10, 10, .inService⟩)).wellFormed = false := by
  decide
theorem test_wf_fluid_beta : (Instr.fluidSet 0 1 (.fields ⟨0, 1, .fuel, 65536⟩)).wellFormed = false := by decide
theorem test_wf_strap_points :
    (Instr.strapLoad 0 1 (.fields ⟨0, List.replicate 41 ⟨0, 0⟩⟩)).wellFormed = false := by decide
theorem test_wf_strap_level : (Instr.strapLoad 0 1 (.fields ⟨0, [⟨65536, 0⟩]⟩)).wellFormed = false := by decide
theorem test_wf_limits : (Instr.accountLimitsSet 0 1 (.fields ⟨4294967296, 1⟩)).wellFormed = false := by decide
theorem test_wf_link_byte : (Instr.linkSet 0 1 (.fields ⟨256, .office, 0, 0⟩)).wellFormed = false := by decide
theorem test_wf_docket_zero : (Instr.receiptClose 0 1 (.fields ⟨0, some 0⟩)).wellFormed = false := by decide
theorem test_wf_book_signed : (Instr.stockSet 0 1 (.fields ⟨0, 2147483648, .dip⟩)).wellFormed = false := by decide
theorem test_wf_account_margin :
    (Instr.accountCreate 1 1 (.fields ⟨1, .haul, 0, 0, 65536⟩)).wellFormed = false := by decide
theorem test_wf_rebase_reading : (Instr.hoursRebase 1 1 (.fields ⟨1, some 10000000⟩)).wellFormed = false := by decide
theorem test_wf_lube_entries :
    (Instr.lubeSet 1 1 (.fields ⟨1, List.replicate 19 ⟨0, 1, none, 1⟩⟩)).wellFormed = false := by decide
theorem test_wf_lube_hours : (Instr.lubeSet 1 1 (.fields ⟨1, [⟨0, 1, some 10000000, 1⟩]⟩)).wellFormed = false := by decide
theorem test_wf_known_kind : (Instr.unknownKindRequest 0 1 0x10).wellFormed = false := by decide
theorem test_wf_probe_field : (Instr.probeReading 0 (.valid 32768)).wellFormed = false := by decide
theorem test_wf_gauge_level : (Instr.gaugeReadingValid 0 65536 150).wellFormed = false := by decide
theorem test_wf_gauge_temperature : (Instr.gaugeReadingValid 0 0 (-32769)).wellFormed = false := by decide
theorem test_wf_undecodable_can_be_sent : (Instr.clockSet 0 1 (.undecodable .badLength)).wellFormed = true := by decide

/-! ## The book's worked examples -/

/-- Section 11.1: the CRC of the digits "123456789" is 0x29B1. -/
theorem test_crc_digits : crc16 [0x31, 0x32, 0x33, 0x34, 0x35, 0x36, 0x37, 0x38, 0x39] = 0x29B1 := by decide +kernel

/-- Section 11.4: the body of the admission of Chapter 1. -/
def admissionBody : List Byte :=
  [0x01, 0x08, 0x01, 0x02, 0x11, 0x41, 0x00, 0x01, 0xE7, 0xF0, 0x04,
    0x01, 0x08, 0x04, 0x00, 0x00, 0x00, 0x00, 0x00, 0x09, 0x01, 0x00, 0x00, 0x9C, 0x40,
    0x00, 0x0B, 0x01, 0x00, 0x00, 0x4E, 0x20, 0x00, 0x0A, 0x02, 0x00, 0x00, 0xEA, 0x60]

theorem test_decode_admission : decodeBody 2 admissionBody = .orderAdmit 2 0x0108 (.fields
    { island := 2, machine := 4417, hour := some 124912,
      steps := [⟨some .openFill, 8, 4, 0⟩, ⟨some .preset, 9, 1, 40000⟩, ⟨some .preset, 11, 1, 20000⟩,
        ⟨some .preset, 10, 2, 60000⟩] }) := by decide +kernel

/-- R202: a body a byte too long. -/
theorem test_decode_admission_length :
    decodeBody 2 (admissionBody ++ [0]) = .orderAdmit 2 0x0108 (.undecodable .badLength) := by decide +kernel

/-- R203: an hour reading of 10,000,000 (0x00989680) does not decode. -/
theorem test_decode_admission_hours :
    decodeBody 0 [0, 1, 0x01, 0, 0, 7, 0x00, 0x98, 0x96, 0x80, 0x00] = .orderAdmit 0 1 (.undecodable .outOfRange) := by
  decide +kernel

/-- R202: a kind byte that Table 11-1 does not have. -/
theorem test_decode_unknown_kind : decodeBody 0 [0, 1, 0x7F] = .unknownKindRequest 0 1 0x7F := by decide +kernel

/-- STEP_STOP of step 3 at island 1 (Table 11-1: 0x05). -/
theorem test_decode_step_stop : decodeBody 0 [0, 9, 0x05, 1, 3] = .stepStop 0 9 (.fields ⟨1, 3⟩) := by decide +kernel

/-- STOCK_SET of tank 2 to -1 mL, reason CALIBRATION. -/
theorem test_decode_stock_set :
    decodeBody 0 [0, 9, 0x33, 2, 0xFF, 0xFF, 0xFF, 0xFF, 1] = .stockSet 0 9 (.fields ⟨2, -1, .calibration⟩) := by
  decide +kernel

/-- R203: SHUTDOWN_READ with scope code 31 does not decode. -/
theorem test_decode_scope_range : decodeBody 0 [0, 9, 0x14, 1, 31] = .shutdownRead 0 9 (.undecodable .outOfRange) := by
  decide +kernel

/-- TRIP_TANK of tank 4 and LINK_SET of link 3 to VIEW. -/
theorem test_decode_trip_and_link :
    decodeBody 1 [0, 9, 0x5A, 4] = .tripTank 1 9 (.fields 4)
      ∧ decodeBody 0 [0, 9, 0x27, 3, 3, 0x10, 0x08, 0, 0] = .linkSet 0 9 (.fields ⟨3, .view, 0x1008, 0⟩) := by
  decide +kernel

/-- ACCOUNT_CREATE of machine 4417, HAUL, fluid 0, no capacity, margin 10. -/
theorem test_decode_account :
    decodeBody 1 [0, 9, 0x40, 0x11, 0x41, 0, 0, 1, 0, 0, 0, 0, 0, 10] = .accountCreate 1 9 (.fields ⟨4417, .haul, 1, 0, 10⟩) := by
  decide +kernel

/-- R66: the factors given for reference. -/
theorem test_correction_factors :
    correction 830 (-185) = 10278050 ∧ correction 830 (-120) = 10224100 ∧ correction 830 150 = 10000000
      ∧ correction 830 350 = 9834000 ∧ correction 700 (-400) = 10385000 ∧ correction 1500 (-500) = 10975000
      ∧ correction 1500 800 = 9025000 ∧ correction 0 (-500) = 10000000 := by decide

/-- Section 3.5: rounding at a factor of 50. -/
theorem test_rounding :
    [(450, 4500000000), (500, 5000000000), (1450, 14500000000), (1500, 15000000000)].map
      (fun p => (reportedGross p.1, reportedNet p.2)) = [(0, 0), (1, 1), (1, 1), (2, 2)] := by decide

/-- Section 5.4: the gauge conversion on tank 1. -/
theorem test_gauge_conversion :
    let points : List StrapPoint :=
      [⟨0, 0⟩, ⟨500, 9800000⟩, ⟨1000, 21400000⟩, ⟨1500, 33400000⟩, ⟨2000, 45600000⟩, ⟨2400, 55200000⟩]
    strapGross points 730 = (15136000, false) ∧ gaugedNet 15136000 (correction 830 (-120)) = 15475198
      ∧ strapGross points 2450 = (55200000, true) := by decide

/-- Section 6.6: the order of Chapter 1 at the account of machine 4417. -/
theorem test_consumption :
    let a : Account :=
      { account 4417 with
        lastHours := some 124912, markHours := some 124800, rate := 98000, lifetimeFuel := 8412550000
        lifetimeOther := 96420000, inUse := some 2, lube := [⟨4, 5000, some 119800, 30000⟩] }
    let m : Summary := ⟨4417, 2, some 124912, 1233366, [(0, 1233366), (4, 40011), (5, 60008), (7, 20004)]⟩
    a.lubeDue (some 124912) = [⟨4, 124800, 112, 30000⟩]
      ∧ a.afterOrder 50 1000 m = ({ a with
          lifetimeFuel := 8413783366, lifetimeOther := 96540023, carry := 0, markHours := some 124912, rate := 101030
          highUse := some ⟨1000, 110121, 98000⟩, lube := [⟨4, 5000, some 124912, 30000⟩], inUse := none }, true) := by
  decide +kernel

/-- Section 3.6: a dripping diesel nozzle; the charges of four stray pulses are 10, 11, 10 and 10 mL. -/
def dripping : State :=
  { bay with
    cfg := { config with
      fluids := config.fluids.put 0 { isDefined := true, kind := .fuel, beta := 830 }
      hoses := config.hoses.put 2 { HoseCfg.default with tank := some 0, factor := 10000, enabled := true } }
    hoses := bay.hoses.modify 2 fun k => { k with temp := some (-185) }
    pending := [.meterPulse 2, .meterPulse 2, .meterPulse 2, .meterPulse 2] }

/-- The state that a result gives. -/
def after : Result → State
  | .next t => t
  | _ => State.reset

def stepped : Nat → State → State
  | 0, s => s
  | n + 1, s => stepped n (after (step s))

theorem test_stray_charges :
    [1, 2, 3, 4].map (fun n => ((stepped n dripping).hoses.get 2).strayCharged) = [10, 21, 31, 41]
      ∧ ((stepped 4 dripping).tanks.get 0).book = 500000 - 41 ∧ ((stepped 4 dripping).tanks.get 0).unassigned = 41
      ∧ ((stepped 4 dripping).hoses.get 2).strayAcc = 411122000000 ∧ ((stepped 4 dripping).hoses.get 2).strayCount = 4 := by
  decide +kernel

/-- Section 11.3 and 11.1: IDENTIFY on link 1 of a fresh part, as it is sent: start byte, length, tag, kind, OK and the
fields of R186, then a CRC under which the frame checks. -/
theorem test_identify_frame :
    let f := ((after (exec (.identify 0 0x0102 (.fields ())) bay)).ports.get 0).outgoing.getD []
    f.take 6 = [0xA5, 17, 0x01, 0x02, 0x1C, 0x00] ∧ f.length = 21 ∧ crc16 (f.drop 1) = 0 := by
  decide +kernel

/-- Section 9.8: while the noise costs link 3 a frame error, tag 41 is with its owner and two more requests wait. A LINK_RESET
now discards those two, finds one with its owner, and carries the count of 1; the answer to 41 then puts no reply on the list,
and its request leaves the queue. -/
def busyLink : State :=
  { bay with ports := bay.ports.modify 2 fun p =>
      { p with queue := [[0, 41, 0x06, 0], [0, 42, 0x07, 0], [0, 43, 0x08, 8]], custody := .handed, frameErrors := 1 } }

theorem test_link_reset_with_owner :
    let t := after (exec (.linkReset 2 50 (.fields ())) busyLink)
    (t.ports.get 2).queue = [[0, 41, 0x06, 0]] ∧ (t.ports.get 2).frameErrors = 0
      ∧ (t.ports.get 2).sending.map (·.results) = some (.linkReset 2 true 1) := by decide +kernel

theorem test_silenced_reply :
    let t := after (exec (.linkReset 2 50 (.fields ())) busyLink)
    let u := after (exec (decodeBody 2 [0, 41, 0x06, 0]) t)
    (u.ports.get 2).queue = [] ∧ (u.ports.get 2).waiting = [] ∧ (u.ports.get 2).sending.map (·.tag) = some 50 := by
  decide +kernel

/-! ## States and operands that meet the hypotheses of the statements, at the ends of their ranges -/

theorem admissible {s : State} {l : Link} {k : Kind} {c : Instr}
    (h : (s.canTake l c && permitted (s.cfg.links.get l).role k) = true) : Admissible s l k c := by
  simp only [Bool.and_eq_true] at h
  exact ⟨h.1, .inr h.2⟩

theorem stepOfHose {s : State} {h : HoseNo} {r : StepRef} {st : Step} (h₁ : (s.hoses.get h).step = some r)
    (h₂ : s.stepAt r = some st) (h₃ : st.hose = h) : StepOfHose s h r st := ⟨h₁, State.stepAt_eq_some.mp h₂, h₃⟩

/-- A part without supply. -/
def off : State := { bay with powered := false }

/-- The bay with its order unit holding nothing but an entry at an object. -/
def latched (o : Scope) : State := { bay with shut := { bay.shut with map := bay.shut.map.put o.code (some Entry.storeLost) } }

/-- Tank 0 with some of its figures changed. -/
def tankWith (f : Tank → Tank) : State := { bay with tanks := bay.tanks.modify 0 f }

/-- Tank 0 with an open receipt, its place reserved. -/
def receiving : State :=
  { tankWith (fun k => { k with state := .receiving, receipt := some ⟨900, false, 400000, 0⟩, leak := .busy, quietTimer := none })
    with journal := { bay.journal with reserved := 1 } }

/-- The journal with some reserved places. -/
def reserving (n : Nat) : State := { bay with journal := { bay.journal with reserved := n } }

def record (n : Nat) : Record :=
  { seq := n, clockNotSet := false, body := .stockAdjust { tank := 0, reason := .dip, oldBook := 0, newBook := 1, clock := 5 } }

def withRecords : State := { bay with journal := { records := [record 3, record 4], reserved := 0, next := 5 } }

/-- The bay with one account. -/
def withAcc (a : Account) : State := { bay with accounts := [a] }

/-! ### Requests and reads -/

theorem witness_IdleStepMovesTimersOnly :
    bay.pending = [] ∧ bay.running = true ∧ off.pending = [] ∧ off.running = false := by decide +kernel

theorem witness_UndecodableRequestGoesNoFurther :
    requestInfo (.clockSet 0 1 (.undecodable .badLength)) = some ⟨0, 1, .clockSet, some .badLength⟩
      ∧ bay.canTake 0 (.clockSet 0 1 (.undecodable .badLength)) = true
      ∧ requestInfo (.causeSet 2 1 (.undecodable .outOfRange)) = some ⟨2, 1, .causeSet, some .outOfRange⟩
      ∧ bay.canTake 2 (.causeSet 2 1 (.undecodable .outOfRange)) = true := by decide +kernel

theorem witness_ForbiddenRequestIsNotPermitted :
    requestInfo (.clockSet 1 1 (.fields 5)) = some ⟨1, 1, .clockSet, none⟩ ∧ bay.canTake 1 (.clockSet 1 1 (.fields 5)) = true
      ∧ (bay.ports.get 1).custody = .untaken ∧ permitted (bay.cfg.links.get 1).role .clockSet = false := by decide +kernel

theorem witness_ReadsChangeNoState :
    requestInfo (.identify 2 1 (.fields ())) = some ⟨2, 1, .identify, none⟩ ∧ bay.canTake 2 (.identify 2 1 (.fields ())) = true
      ∧ bay.canTake 0 (.orderRead 0 1 (.undecodable .badLength)) = true := by decide +kernel

theorem witness_UnknownKindIsAnswered :
    bay.canTake 0 (.unknownKindRequest 0 1 0x7F) = true ∧ Kind.ofCode (0x7F : Byte).toNat = none
      ∧ bay.canTake 0 (.unknownKindRequest 0 1 0x63) = true ∧ Kind.ofCode (0x63 : Byte).toNat ≠ none := by decide +kernel

theorem witness_IdentifyNamesThePart : Admissible bay 0 .identify (.identify 0 1 (.fields ())) :=
  admissible (by decide +kernel)

theorem witness_UnitReadsCarryTheUnit :
    Admissible (atRun 5) 2 .orderRead (.orderRead 2 1 (.fields 0)) ∧ Admissible (atRun 5) 2 .orderRead (.orderRead 2 1 (.fields 4))
      ∧ Admissible bay 1 .islandRead (.islandRead 1 1 (.fields 3)) ∧ Admissible bay 1 .tankRead (.tankRead 1 1 (.fields 9))
      ∧ Admissible (atRun 5) 1 .hoseRead (.hoseRead 1 1 (.fields 0)) ∧ Admissible bay 1 .hoseRead (.hoseRead 1 1 (.fields 15))
      ∧ (bay.orders.get 3 = none ∧ (bay.hoses.get 15).step = none)
      ∧ StepOfHose (atRun 5) 0 ⟨0, 0⟩ (running 5) :=
  ⟨admissible (by decide +kernel), admissible (by decide +kernel), admissible (by decide +kernel), admissible (by decide +kernel),
    admissible (by decide +kernel), admissible (by decide +kernel), by decide +kernel, stepOfHose rfl rfl rfl⟩

theorem witness_BlockReadsCarryTheBlock :
    Admissible bay 0 .clockRead (.clockRead 0 1 (.fields ())) ∧ Admissible bay 1 .warnRead (.warnRead 1 1 (.fields ()))
      ∧ Admissible bay 2 .supplyRead (.supplyRead 2 1 (.fields ())) ∧ Admissible bay 0 .linkStatus (.linkStatus 0 1 (.fields ())) :=
  ⟨admissible (by decide +kernel), admissible (by decide +kernel), admissible (by decide +kernel), admissible (by decide +kernel)⟩

/-! ### Configuration -/

/-- HOSE_SET with every field at an end of its range. -/
def hoseFields (h : Nat) : HoseSetFields := ⟨h, 3, some 9, 500000, 1000000, 120, 5, 20000, 50000, 600, 2000000000, 255, 1⟩

theorem witness_HoseSetReplacesConfiguration :
    Admissible bay 0 .hoseSet (.hoseSet 0 1 (.fields (hoseFields 15))) ∧ HoseFieldsInRange (hoseFields 15)
      ∧ ¬ HoseInUse bay 15 ∧ Admissible bay 0 .hoseSet (.hoseSet 0 1 (.fields (hoseFields 16)))
      ∧ Admissible (atRun 5) 0 .hoseSet (.hoseSet 0 1 (.fields (hoseFields 0))) ∧ HoseFieldsInRange (hoseFields 0)
      ∧ HoseInUse (atRun 5) 0 ∧ ¬ HoseFieldsInRange { hoseFields 0 with factor := 49 } := by
  refine ⟨admissible (by decide +kernel), by simp [HoseFieldsInRange, hoseFields], ?_, admissible (by decide +kernel),
    admissible (by decide +kernel), by simp [HoseFieldsInRange, hoseFields], ?_, by simp [HoseFieldsInRange, hoseFields]⟩
  · rw [← State.hoseInUse_iff]; decide +kernel
  · rw [← State.hoseInUse_iff]; decide +kernel

theorem witness_SmallConfigurationRequests :
    Admissible bay 0 .islandSet (.islandSet 0 1 (.fields ⟨3, 1, 100, 5⟩)) ∧ bay.orders.get 3 = none
      ∧ Admissible bay 0 .islandSet (.islandSet 0 1 (.fields ⟨4, 1, 100, 5⟩))
      ∧ Admissible atWait 0 .islandSet (.islandSet 0 1 (.fields ⟨0, 0, 5, 100⟩)) ∧ atWait.orders.get 0 ≠ none
      ∧ Admissible bay 0 .causeSet (.causeSet 0 1 (.fields ⟨.linkTrip, .warn⟩))
      ∧ Admissible bay 0 .causeSet (.causeSet 0 1 (.fields ⟨.linkTrip, .trip⟩))
      ∧ Admissible bay 0 .causeSet (.causeSet 0 1 (.fields ⟨.overfill, .warn⟩))
      ∧ Admissible bay 0 .accountLimitsSet (.accountLimitsSet 0 1 (.fields ⟨100000, 10000⟩))
      ∧ Admissible bay 0 .accountLimitsSet (.accountLimitsSet 0 1 (.fields ⟨0, 10000⟩)) :=
  ⟨admissible (by decide +kernel), by decide +kernel, admissible (by decide +kernel), admissible (by decide +kernel),
    by decide +kernel, admissible (by decide +kernel), admissible (by decide +kernel), admissible (by decide +kernel),
    admissible (by decide +kernel), admissible (by decide +kernel)⟩

/-- TANK_SET with every field at an end of its range. -/
def tankFields (t low reorder : Nat) : TankSetFields :=
  ⟨t, .supply, 15, 2000000000, low, 2000000000, reorder, 100000, 10000000, 1000, 240, 600, .inService⟩

theorem witness_TankSetReplacesConfiguration :
    Admissible bay 0 .tankSet (.tankSet 0 1 (.fields (tankFields 9 0 0))) ∧ TankFieldsInRange (tankFields 9 0 0)
      ∧ ¬ TankInUse bay 9 ∧ Admissible bay 0 .tankSet (.tankSet 0 1 (.fields (tankFields 10 0 0)))
      ∧ ¬ TankFieldsInRange { tankFields 9 0 0 with state := .receiving }
      ∧ Admissible (atRun 5) 0 .tankSet (.tankSet 0 1 (.fields (tankFields 0 0 0))) ∧ TankFieldsInRange (tankFields 0 0 0)
      ∧ TankInUse (atRun 5) 0
      ∧ ((tankFields 0 0 499001).role = (bay.cfg.tanks.get 0).role
        ∧ (bay.cfg.tanks.get 0).reorder ≤ stockQuantity (bay.cfg.tanks.get 0) (bay.tanks.get 0))
      ∧ ¬ TankInUse bay 0
      ∧ (let c := { bay.cfg.tanks.get 0 with reorder := 499001 };
        stockQuantity c (bay.tanks.get 0) < 499001
          ∧ stockQuantity c (bay.tanks.get 0) ≤ stockQuantity (bay.cfg.tanks.get 0) (bay.tanks.get 0)) := by
  refine ⟨admissible (by decide +kernel), by simp [TankFieldsInRange, tankFields], ?_, admissible (by decide +kernel),
    by simp [TankFieldsInRange, tankFields], admissible (by decide +kernel), by simp [TankFieldsInRange, tankFields], ?_,
    by decide +kernel, ?_, by decide +kernel⟩
  · rw [← State.tankInUse_iff]; decide +kernel
  · rw [← State.tankInUse_iff]; decide +kernel
  · rw [← State.tankInUse_iff]; decide +kernel

/-- Whether a TANK_SET on tank 0, whose available quantity is 499,000 mL, leaves TANK_LOW pending at link 0. -/
def tankSetLow (low reorder : Nat) : Option Bool :=
  match exec (.tankSet 0 1 (.fields { tankFields 0 low reorder with fluid := 0 })) bay with
  | .next t => some ((t.ports.get 0).notices.get NoticeKind.tankLow.index).isSome
  | _ => none

/-- R93: a quantity left at 499,000 mL and a reorder level above it give the notice, one raised to 500,000 mL gives none. -/
theorem test_tank_set_low : tankSetLow 1000 499001 = some true ∧ tankSetLow 0 500001 = some false := by decide +kernel

theorem witness_FluidAndStrappingRequests :
    Admissible bay 0 .fluidSet (.fluidSet 0 1 (.fields ⟨15, 1, .fuel, 1500⟩))
      ∧ Admissible bay 0 .fluidSet (.fluidSet 0 1 (.fields ⟨16, 1, .fuel, 1500⟩))
      ∧ (¬ ∃ k, (bay.cfg.tanks.get k).fluid = 15 ∧ TankInUse bay k)
      ∧ Admissible (atRun 5) 0 .fluidSet (.fluidSet 0 1 (.fields ⟨0, 0, .fuel, 0⟩))
      ∧ (∃ k, ((atRun 5).cfg.tanks.get k).fluid = 0 ∧ TankInUse (atRun 5) k)
      ∧ Admissible bay 0 .strapLoad (.strapLoad 0 1 (.fields ⟨9, [⟨0, 0⟩, ⟨20000, 2000000000⟩]⟩))
      ∧ GoodStrapping [⟨0, 0⟩, ⟨20000, 2000000000⟩] ∧ (bay.tanks.get 9).receipt = none
      ∧ Admissible bay 0 .strapLoad (.strapLoad 0 1 (.fields ⟨10, []⟩)) ∧ ¬ GoodStrapping [⟨0, 0⟩]
      ∧ Admissible receiving 0 .strapLoad (.strapLoad 0 1 (.fields ⟨0, [⟨0, 0⟩, ⟨1, 0⟩]⟩))
      ∧ GoodStrapping [⟨0, 0⟩, ⟨1, 0⟩] ∧ (receiving.tanks.get 0).receipt ≠ none := by
  refine ⟨admissible (by decide +kernel), admissible (by decide +kernel), ?_, admissible (by decide +kernel), ⟨0, rfl, ?_⟩,
    admissible (by decide +kernel), by simp [GoodStrapping], by decide +kernel, admissible (by decide +kernel),
    by simp [GoodStrapping], admissible (by decide +kernel), by simp [GoodStrapping], by decide +kernel⟩
  · have h : ∀ k : TankNo, (bay.cfg.tanks.get k).fluid ≠ 15 := by decide +kernel
    exact fun ⟨k, hk, _⟩ => h k hk
  · rw [← State.tankInUse_iff]; decide +kernel

theorem witness_LinkSetAndNoticeMaskSet :
    Admissible bay 0 .linkSet (.linkSet 0 1 (.fields ⟨3, .view, 0x1FFF, 0⟩)) ∧ (∃ j : Link, j ≠ 2 ∧ (bay.cfg.links.get j).role = .office)
      ∧ Admissible bay 0 .linkSet (.linkSet 0 1 (.fields ⟨1, .view, 0x1FFF, 0⟩))
      ∧ (∀ j : Link, j ≠ 0 → (bay.cfg.links.get j).role ≠ .office)
      ∧ Admissible bay 0 .linkSet (.linkSet 0 1 (.fields ⟨4, .view, 0x1FFF, 0⟩))
      ∧ Admissible bay 0 .linkSet (.linkSet 0 1 (.fields ⟨1, .office, 0x2000, 0⟩))
      ∧ Admissible bay 1 .noticeMaskSet (.noticeMaskSet 1 1 (.fields ⟨0x1FFF, 0x1FFF⟩))
      ∧ Admissible bay 1 .noticeMaskSet (.noticeMaskSet 1 1 (.fields ⟨0, 0x2000⟩)) :=
  ⟨admissible (by decide +kernel), by decide +kernel, admissible (by decide +kernel), by decide +kernel,
    admissible (by decide +kernel), admissible (by decide +kernel), admissible (by decide +kernel), admissible (by decide +kernel)⟩

theorem witness_ClockSetAndTick :
    Admissible bay 0 .clockSet (.clockSet 0 1 (.fields 4294967295)) ∧ Admissible bay 0 .clockSet (.clockSet 0 1 (.fields 4294967296))
      ∧ bay.supply.clock < 4294967295 :=
  ⟨admissible (by decide +kernel), admissible (by decide +kernel), by decide +kernel⟩

def saving : State := { bay with supply := { bay.supply with snapshot := some config } }
def inHold : State := { bay with supply := { bay.supply with state := .hold, warning := true } }

theorem witness_SettingsSaveAndItsEnd :
    Admissible bay 0 .settingsSave (.settingsSave 0 1 (.fields ())) ∧ bay.supply.snapshot = none ∧ bay.supply.state = .normal
      ∧ Admissible saving 0 .settingsSave (.settingsSave 0 1 (.fields ())) ∧ saving.supply.snapshot = some config
      ∧ Admissible inHold 0 .settingsSave (.settingsSave 0 1 (.fields ())) ∧ inHold.supply.snapshot = none
      ∧ inHold.supply.state = .hold ∧ bay.running = true ∧ saving.running = true :=
  ⟨admissible (by decide +kernel), rfl, rfl, admissible (by decide +kernel), rfl, admissible (by decide +kernel), rfl, rfl, rfl, rfl⟩

/-! ### Stock and journal -/

theorem witness_ReceiptOpenHoldsAPlace :
    Admissible bay 0 .receiptOpen (.receiptOpen 0 1 (.fields 0)) ∧ Admissible bay 0 .receiptOpen (.receiptOpen 0 1 (.fields 10))
      ∧ ((bay.cfg.tanks.get 0).role = .supply ∧ (bay.tanks.get 0).state = .inService ∧ (bay.tanks.get 0).gauge.valid = true
        ∧ bay.entryAt (.tank 0) = none ∧ bay.entryAt .bay = none ∧ bay.journal.records.length + bay.journal.reserved < 64)
      ∧ Admissible (reserving 55) 0 .receiptOpen (.receiptOpen 0 1 (.fields 0))
      ∧ Admissible (reserving 64) 0 .receiptOpen (.receiptOpen 0 1 (.fields 0))
      ∧ (Admissible (latched (.tank 0)) 0 .receiptOpen (.receiptOpen 0 1 (.fields 0)) ∧ (latched (.tank 0)).entryAt (.tank 0) ≠ none)
      ∧ (bay.tanks.get 9).state ≠ .inService
      ∧ Admissible (tankWith fun k => { k with gauge := Gauge.initial }) 0 .receiptOpen (.receiptOpen 0 1 (.fields 0)) :=
  ⟨admissible (by decide +kernel), admissible (by decide +kernel), by decide +kernel, admissible (by decide +kernel),
    admissible (by decide +kernel), ⟨admissible (by decide +kernel), by decide +kernel⟩, by decide +kernel,
    admissible (by decide +kernel)⟩

theorem witness_ReceiptCloseAndCancel :
    Admissible receiving 0 .receiptClose (.receiptClose 0 1 (.fields ⟨0, some 1⟩))
      ∧ Admissible receiving 0 .receiptClose (.receiptClose 0 1 (.fields ⟨0, none⟩))
      ∧ (receiving.tanks.get 0).state = .receiving ∧ (receiving.tanks.get 0).receipt = some ⟨900, false, 400000, 0⟩
      ∧ (receiving.tanks.get 0).gauge.valid = true
      ∧ Admissible receiving 0 .receiptClose (.receiptClose 0 1 (.fields ⟨0, some 2000000000⟩))
      ∧ Admissible receiving 0 .receiptClose (.receiptClose 0 1 (.fields ⟨0, some 2000000001⟩))
      ∧ Admissible bay 0 .receiptClose (.receiptClose 0 1 (.fields ⟨9, none⟩)) ∧ (bay.tanks.get 9).state ≠ .receiving
      ∧ Admissible bay 0 .receiptClose (.receiptClose 0 1 (.fields ⟨10, none⟩))
      ∧ Admissible receiving 0 .receiptCancel (.receiptCancel 0 1 (.fields 0))
      ∧ Admissible bay 0 .receiptCancel (.receiptCancel 0 1 (.fields 9))
      ∧ Admissible bay 0 .receiptCancel (.receiptCancel 0 1 (.fields 10)) :=
  ⟨admissible (by decide +kernel), admissible (by decide +kernel), rfl, rfl, rfl, admissible (by decide +kernel),
    admissible (by decide +kernel), admissible (by decide +kernel), by decide +kernel, admissible (by decide +kernel),
    admissible (by decide +kernel), admissible (by decide +kernel), admissible (by decide +kernel)⟩

theorem witness_StockSetWritesTheBook :
    Admissible bay 0 .stockSet (.stockSet 0 1 (.fields ⟨0, 2147483647, .dip⟩))
      ∧ Admissible bay 0 .stockSet (.stockSet 0 1 (.fields ⟨9, -2147483648, .other⟩))
      ∧ (bay.tanks.get 9).reserved = 0 ∧ (bay.tanks.get 9).receipt = none
      ∧ Admissible bay 0 .stockSet (.stockSet 0 1 (.fields ⟨0, 2147483648, .dip⟩))
      ∧ Admissible bay 0 .stockSet (.stockSet 0 1 (.fields ⟨10, 0, .dip⟩))
      ∧ (Admissible (atRun 5) 0 .stockSet (.stockSet 0 1 (.fields ⟨0, 0, .dip⟩)) ∧ 0 < ((atRun 5).tanks.get 0).reserved)
      ∧ Admissible (reserving 64) 0 .stockSet (.stockSet 0 1 (.fields ⟨0, 0, .dip⟩)) :=
  ⟨admissible (by decide +kernel), admissible (by decide +kernel), rfl, rfl, admissible (by decide +kernel),
    admissible (by decide +kernel), ⟨admissible (by decide +kernel), by decide +kernel⟩, admissible (by decide +kernel)⟩

theorem witness_JournalReleaseTakesTheOldest :
    Admissible withRecords 0 .journalRelease (.journalRelease 0 1 (.fields 3)) ∧ withRecords.journal.records = [record 3, record 4]
      ∧ Admissible withRecords 0 .journalRelease (.journalRelease 0 1 (.fields 4))
      ∧ Admissible withRecords 0 .journalRelease (.journalRelease 0 1 (.fields 0))
      ∧ Admissible bay 0 .journalRelease (.journalRelease 0 1 (.fields 1)) ∧ bay.journal.records = [] :=
  ⟨admissible (by decide +kernel), rfl, admissible (by decide +kernel), admissible (by decide +kernel),
    admissible (by decide +kernel), rfl⟩

theorem witness_JournalReadsCarryRecords :
    Admissible withRecords 2 .journalRead (.journalRead 2 1 (.fields .oldest))
      ∧ Admissible withRecords 2 .journalRead (.journalRead 2 1 (.fields (.byNumber 4)))
      ∧ Admissible withRecords 2 .journalRead (.journalRead 2 1 (.fields (.byNumber 5)))
      ∧ Admissible withRecords 2 .journalRead (.journalRead 2 1 (.fields (.byNumber 0)))
      ∧ (∃ r ∈ withRecords.journal.records, r.seq = 4) ∧ (∀ r ∈ withRecords.journal.records, r.seq ≠ 5)
      ∧ Admissible bay 2 .journalRead (.journalRead 2 1 (.fields .oldest)) ∧ bay.journal.records = []
      ∧ Admissible bay 2 .journalStatus (.journalStatus 2 1 (.fields ())) :=
  ⟨admissible (by decide +kernel), admissible (by decide +kernel), admissible (by decide +kernel), admissible (by decide +kernel),
    by decide +kernel, by decide +kernel, admissible (by decide +kernel), rfl, admissible (by decide +kernel)⟩

/-! ### Accounts -/

theorem witness_AccountCreateAndEdit :
    Admissible bay 1 .accountCreate (.accountCreate 1 1 (.fields ⟨65534, .light, 0xFFFF, 2000000000, 100⟩))
      ∧ AccountFieldsInRange ⟨65534, .light, 0xFFFF, 2000000000, 100⟩ ∧ bay.findAccount 65534 = none ∧ bay.accounts.length < 512
      ∧ Admissible bay 1 .accountCreate (.accountCreate 1 1 (.fields ⟨65535, .light, 0, 0, 0⟩))
      ∧ ¬ AccountFieldsInRange ⟨65535, .light, 0, 0, 0⟩
      ∧ Admissible bay 1 .accountCreate (.accountCreate 1 1 (.fields ⟨7, .light, 0, 0, 0⟩)) ∧ AccountFieldsInRange ⟨7, .light, 0, 0, 0⟩
      ∧ bay.findAccount 7 = some (account 7) ∧ (account 7).inUse = none
      ∧ Admissible bay 1 .accountEdit (.accountEdit 1 1 (.fields ⟨7, .light, 0, 0, 0⟩))
      ∧ Admissible bay 1 .accountEdit (.accountEdit 1 1 (.fields ⟨1, .light, 0, 0, 0⟩)) ∧ bay.findAccount 1 = none
      ∧ Admissible atWait 1 .accountEdit (.accountEdit 1 1 (.fields ⟨7, .light, 0, 0, 0⟩))
      ∧ atWait.findAccount 7 = some { account 7 with inUse := some 0 } :=
  ⟨admissible (by decide +kernel), by unfold AccountFieldsInRange; decide, by decide +kernel, by decide +kernel,
    admissible (by decide +kernel), by unfold AccountFieldsInRange; decide,
    admissible (by decide +kernel), by unfold AccountFieldsInRange; decide, by decide +kernel, rfl, admissible (by decide +kernel),
    admissible (by decide +kernel), by decide +kernel, admissible (by decide +kernel), by decide +kernel⟩

/-- A full table: machines 1 to 512. -/
def fullTable : State := { bay with accounts := (List.range 512).map fun n => account (n + 1) }

theorem witness_full_table :
    Admissible fullTable 1 .accountCreate (.accountCreate 1 1 (.fields ⟨513, .haul, 0, 0, 0⟩)) ∧ fullTable.findAccount 513 = none
      ∧ 512 ≤ fullTable.accounts.length :=
  ⟨admissible (by decide +kernel), by decide +kernel, by decide +kernel⟩

def blocked : State := withAcc { account 7 with state := .blocked, reviewHours := some 9 }
def inReview : State := withAcc { account 7 with state := .review, reviewHours := some 9000 }

theorem witness_AccountBlockAndUnblock :
    Admissible bay 1 .accountBlock (.accountBlock 1 1 (.fields 7)) ∧ bay.findAccount 7 = some (account 7)
      ∧ Admissible bay 1 .accountBlock (.accountBlock 1 1 (.fields 65534)) ∧ bay.findAccount 65534 = none
      ∧ Admissible bay 1 .accountBlock (.accountBlock 1 1 (.fields 0))
      ∧ Admissible blocked 1 .accountUnblock (.accountUnblock 1 1 (.fields 7))
      ∧ blocked.findAccount 7 = some { account 7 with state := .blocked, reviewHours := some 9 }
      ∧ Admissible blocked 1 .accountBlock (.accountBlock 1 1 (.fields 7))
      ∧ Admissible bay 1 .accountUnblock (.accountUnblock 1 1 (.fields 7))
      ∧ Admissible bay 1 .accountUnblock (.accountUnblock 1 1 (.fields 1))
      ∧ Admissible bay 1 .accountUnblock (.accountUnblock 1 1 (.fields 65535)) :=
  ⟨admissible (by decide +kernel), by decide +kernel, admissible (by decide +kernel), by decide +kernel, admissible (by decide +kernel),
    admissible (by decide +kernel), by decide +kernel, admissible (by decide +kernel), admissible (by decide +kernel),
    admissible (by decide +kernel), admissible (by decide +kernel)⟩

def lube (last : Option Nat) : LubeEntry := ⟨15, 100000, last, 2000000000⟩

theorem witness_AccountDeleteAndLubeSet :
    Admissible bay 1 .accountDelete (.accountDelete 1 1 (.fields 7)) ∧ Admissible bay 1 .accountDelete (.accountDelete 1 1 (.fields 1))
      ∧ Admissible bay 1 .accountDelete (.accountDelete 1 1 (.fields 65535))
      ∧ Admissible atWait 1 .accountDelete (.accountDelete 1 1 (.fields 7))
      ∧ Admissible bay 1 .lubeSet (.lubeSet 1 1 (.fields ⟨7, [lube (some 9999999)]⟩))
      ∧ ((lube (some 9999999)).fluid ≤ 15 ∧ ∀ h, (lube (some 9999999)).lastService = some h → h ≤ 9999999)
      ∧ Admissible bay 1 .lubeSet (.lubeSet 1 1 (.fields ⟨7, [lube none, lube none]⟩))
      ∧ (¬ [lube none, lube none].Pairwise fun a b => a.fluid ≠ b.fluid)
      ∧ Admissible bay 1 .lubeSet (.lubeSet 1 1 (.fields ⟨7, [⟨16, 1, none, 1⟩]⟩))
      ∧ Admissible bay 1 .lubeSet (.lubeSet 1 1 (.fields ⟨1, []⟩))
      ∧ Admissible atWait 1 .lubeSet (.lubeSet 1 1 (.fields ⟨7, []⟩)) :=
  ⟨admissible (by decide +kernel), admissible (by decide +kernel), admissible (by decide +kernel), admissible (by decide +kernel),
    admissible (by decide +kernel), by simp [lube], admissible (by decide +kernel), by simp, admissible (by decide +kernel),
    admissible (by decide +kernel), admissible (by decide +kernel)⟩

theorem witness_HoursConfirmTakesTheReviewReading :
    Admissible inReview 1 .hoursConfirm (.hoursConfirm 1 1 (.fields 7))
      ∧ inReview.findAccount 7 = some { account 7 with state := .review, reviewHours := some 9000 }
      ∧ Admissible bay 1 .hoursConfirm (.hoursConfirm 1 1 (.fields 7)) ∧ (account 7).state ≠ .review
      ∧ Admissible atWait 1 .hoursConfirm (.hoursConfirm 1 1 (.fields 7))
      ∧ Admissible bay 1 .hoursConfirm (.hoursConfirm 1 1 (.fields 65534)) ∧ bay.findAccount 65534 = none
      ∧ Admissible bay 1 .hoursConfirm (.hoursConfirm 1 1 (.fields 65535)) :=
  ⟨admissible (by decide +kernel), by decide +kernel, admissible (by decide +kernel), by decide, admissible (by decide +kernel),
    admissible (by decide +kernel), by decide +kernel, admissible (by decide +kernel)⟩

theorem witness_HoursRebaseShiftsServices :
    Admissible bay 1 .hoursRebase (.hoursRebase 1 1 (.fields ⟨7, some 9999999⟩)) ∧ bay.findAccount 7 = some (account 7)
      ∧ Admissible bay 1 .hoursRebase (.hoursRebase 1 1 (.fields ⟨1, some 0⟩)) ∧ bay.findAccount 1 = none
      ∧ Admissible bay 1 .hoursRebase (.hoursRebase 1 1 (.fields ⟨7, none⟩))
      ∧ Admissible bay 1 .hoursRebase (.hoursRebase 1 1 (.fields ⟨0, some 0⟩))
      ∧ Admissible atWait 1 .hoursRebase (.hoursRebase 1 1 (.fields ⟨7, some 0⟩)) :=
  ⟨admissible (by decide +kernel), by decide +kernel, admissible (by decide +kernel), by decide +kernel, admissible (by decide +kernel),
    admissible (by decide +kernel), admissible (by decide +kernel)⟩

theorem witness_AccountReadsFindAccounts :
    Admissible bay 2 .accountRead (.accountRead 2 1 (.fields 7)) ∧ Admissible bay 2 .accountRead (.accountRead 2 1 (.fields 65534))
      ∧ Admissible bay 2 .accountRead (.accountRead 2 1 (.fields 0))
      ∧ Admissible bay 2 .accountNext (.accountNext 2 1 (.fields ⟨0, .all, some .haul⟩)) ∧ AccountsLaw bay
      ∧ (∃ a ∈ bay.accounts, 0 < a.machine ∧ a.cls = .haul)
      ∧ Admissible bay 2 .accountNext (.accountNext 2 1 (.fields ⟨65534, .all, none⟩))
      ∧ (∀ a ∈ bay.accounts, ¬ 65534 < a.machine)
      ∧ Admissible bay 2 .accountNext (.accountNext 2 1 (.fields ⟨65535, .all, none⟩)) :=
  ⟨admissible (by decide +kernel), admissible (by decide +kernel), admissible (by decide +kernel), admissible (by decide +kernel),
    ⟨by decide +kernel, by decide +kernel, by decide +kernel⟩, by decide +kernel, admissible (by decide +kernel), by decide +kernel,
    admissible (by decide +kernel)⟩

/-! ### The shutdown unit -/

/-- Every step in flight is its hose's step: the premise of the statements on closings, resumptions and restorations. -/
def Matched (s : State) : Prop := ∀ r st, HasStep s r st → InFlight st → StepOfHose s st.hose r st

/-- Two steps in flight of one hose are one step, where every step in flight is its hose's. -/
theorem Matched.unique {s : State} (m : Matched s) (r : StepRef) (st : Step) (q : StepRef) (w : Step) (h₁ : HasStep s r st)
    (f₁ : InFlight st) (h₂ : HasStep s q w) (f₂ : InFlight w) (e : st.hose = w.hose) : r = q :=
  Option.some.inj (((m r st h₁ f₁).1.symm.trans (by rw [e])).trans (m q w h₂ f₂).1)

/-- Every step in flight is its hose's where there is one, the first of the order at island 0 and the step of hose 0. -/
theorem matched {s : State} {o : Order} {st : Step} {rest : List Step} (ho : s.orders.get 0 = some o)
    (hi : ∀ i, i ≠ 0 → s.orders.get i = none) (hs : o.steps = st :: rest) (hr : ∀ w ∈ rest, ¬ InFlight w)
    (hh : st.hose = 0) (hc : (s.hoses.get 0).step = some ⟨0, 0⟩) : Matched s := by
  rintro ⟨i, k⟩ w ⟨p, hp, hw⟩ hwf
  refine ⟨?_, ⟨p, hp, hw⟩, rfl⟩
  by_cases h0 : i = 0
  · subst h0
    obtain rfl : o = p := Option.some.inj (ho.symm.trans hp)
    cases k with
    | zero => simp [hs] at hw; subst hw; rw [hh]; exact hc
    | succ k =>
      simp only [hs, List.getElem?_cons_succ] at hw
      exact absurd hwf (hr w (List.mem_of_getElem? hw))
  · simp [hi i h0] at hp

/-- The one order of a bay with an order at island 0 only holds every step there is. -/
theorem hasStep_only {s : State} {o : Order} (ho : s.orders.get 0 = some o) (hi : ∀ i, i ≠ 0 → s.orders.get i = none)
    {r : StepRef} {st : Step} (h : HasStep s r st) : r.island = 0 ∧ o.steps[r.idx]? = some st := by
  obtain ⟨p, hp, hw⟩ := h
  by_cases h0 : r.island = 0
  · rw [h0] at hp
    obtain rfl : o = p := Option.some.inj (ho.symm.trans hp)
    exact ⟨h0, hw⟩
  · simp [hi _ h0] at hp

/-- References and steps agree in both directions, in a bay with orders at island 0 only. -/
def Agrees (s : State) : Prop :=
  Matched s ∧ ∀ h r st, Refers s h r st → st.hose = h ∧ r.island = 0

/-- They do where each step in flight of the one order is its hose's, and each hose's reference names a step of its own. -/
theorem agrees {s : State} {o : Order} (ho : s.orders.get 0 = some o) (hi : ∀ i, i ≠ 0 → s.orders.get i = none)
    (hf : ∀ p ∈ o.steps.zipIdx, InFlight p.1 → (s.hoses.get p.1.hose).step = some ⟨0, p.2⟩)
    (hh : ∀ h : HoseNo, ∀ r ∈ (s.hoses.get h).step, ∀ p ∈ o.steps.zipIdx, p.2 = r.idx → p.1.hose = h) : Agrees s := by
  refine ⟨fun r st hr hs => ⟨?_, hr, rfl⟩, fun h r st hr => ?_⟩
  · obtain ⟨h0, hk⟩ := hasStep_only ho hi hr
    have := hf (st, r.idx) (List.mem_zipIdx_iff_getElem?.mpr hk) hs
    rw [this]
    exact congrArg some (by cases r; simp at h0; simp [h0])
  · obtain ⟨h0, hk⟩ := hasStep_only ho hi hr.2
    exact ⟨hh h r hr.1 (st, r.idx) (List.mem_zipIdx_iff_getElem?.mpr hk) rfl, h0⟩

theorem Agrees.atTheirHoses {s : State} (a : Agrees s) (i : IslandNo) : AtTheirHoses s i := fun _ st h f => a.1 _ st h f

theorem Agrees.hosesAgree {s : State} (a : Agrees s) (o : Scope) : HosesAgree s o :=
  ⟨fun q st h f _ => a.1 q st h f, fun h q st e hs _ => (a.2 h q st ⟨e, hs⟩).1⟩

theorem Agrees.islandAgrees {s : State} (a : Agrees s) : IslandAgrees s 0 := fun h r st _ hr => a.2 h r st hr

/-- Another step of the same group, still waiting, at hose 1. -/
def beside : Step := { waiting with hose := 1, isParallel := true }

/-- The bay with an order of two steps, hose 0 coupled and taking the first, hose 1 the second. -/
def atBoth (o : Order) : State :=
  { bayAt o (fun k => { k with coupled := true, valve := .full, stallTimer := some 100 }) with
    hoses := (bay.hoses.modify 0 fun k =>
      { k with step := some ⟨0, 0⟩, coupled := true, valve := .full, stallTimer := some 100 }).modify 1 fun k =>
      { k with step := some ⟨0, 1⟩, coupleTimer := some 5 } }

theorem atBoth_agrees : ∀ st ∈ [OrderState.active, .held, .ending],
    Agrees (atBoth (order st none [running 5, beside])) ∧ Agrees (atBoth (order st none [waiting, beside])) := by
  intro st hst
  simp only [List.mem_cons, List.not_mem_nil, or_false] at hst
  rcases hst with rfl | rfl | rfl <;>
    exact ⟨agrees rfl (by decide +kernel) (by decide +kernel) (by decide +kernel),
      agrees rfl (by decide +kernel) (by decide +kernel) (by decide +kernel)⟩

theorem atWait_agrees : Agrees atWait := agrees rfl (by decide +kernel) (by decide +kernel) (by decide +kernel)

theorem bay_books : BooksLaw bay := (by decide +kernel : ∀ k : TankNo, _ ∧ _)

theorem witness_ShutdownReadListsTheMap :
    Admissible (latched (.hose 15)) 2 .shutdownRead (.shutdownRead 2 1 (.fields (.all .bay)))
      ∧ Admissible (latched (.hose 15)) 2 .shutdownRead (.shutdownRead 2 1 (.fields (.one (.hose 15))))
      ∧ (latched (.hose 15)).entryAt (.hose 15) ≠ none ∧ (latched (.hose 15)).entryAt .bay = none :=
  ⟨admissible (by decide +kernel), admissible (by decide +kernel), by decide +kernel, by decide +kernel⟩

theorem witness_ShutdownClearRemovesTheEntry :
    Admissible (latched .bay) 0 .shutdownClear (.shutdownClear 0 1 (.fields .bay))
      ∧ (latched .bay).entryAt .bay = some Entry.storeLost
      ∧ ¬ ConditionHolds (latched .bay) .storeLost .bay ∧ (latched .bay).shut.stop = false
      ∧ Admissible bay 0 .shutdownClear (.shutdownClear 0 1 (.fields (.hose 15))) ∧ bay.entryAt (.hose 15) = none
      ∧ (let s := { latched .bay with shut := { (latched .bay).shut with stop := true } };
        Admissible s 0 .shutdownClear (.shutdownClear 0 1 (.fields .bay)) ∧ s.shut.stop = true) :=
  ⟨admissible (by decide +kernel), by decide +kernel, by simp [ConditionHolds], rfl, admissible (by decide +kernel), by decide +kernel,
    admissible (by decide +kernel), rfl⟩

/-- The conditions of the table of R149, each at an object that has it. -/
theorem witness_conditions :
    (let s := { bay with islands := bay.islands.modify 3 fun k => { k with float := true } };
      ConditionHolds s .sumpHigh (.island 3) ∧ ¬ ConditionHolds s .sumpHigh (.island 0))
      ∧ (let s := { bay with tanks := bay.tanks.modify 9 fun k => { k with probe := true } };
        ConditionHolds s .overfill (.tank 9) ∧ ¬ ConditionHolds s .gaugeFault (.tank 9))
      ∧ ¬ ConditionHolds bay .strayFlow (.hose 15) :=
  ⟨⟨.inr (.inl ⟨rfl, 3, rfl, rfl⟩), by simp [ConditionHolds]; decide +kernel⟩,
    ⟨.inr (.inr (.inl ⟨rfl, 9, rfl, rfl⟩)), by simp [ConditionHolds]; decide +kernel⟩,
    by simp [ConditionHolds]; decide +kernel⟩

theorem atRun_matched : Matched (atRun 5) :=
  matched (st := running 5) (rest := []) rfl (by decide +kernel) rfl (by simp) rfl rfl

/-- A trip of hose 0 with the order going on with its other step, and trips of island 0 and the bay with a step that runs. -/
theorem witness_Tripped :
    (let s := atBoth (order .active none [waiting, beside]);
      s.entryAt (.hose 0) = none ∧ s.ends = [] ∧ BooksLaw s ∧ HosesAgree s (.hose 0) ∧ OrdersGoOn s (.hose 0))
      ∧ (let s := atBoth (order .active none [running 5, beside]);
        s.entryAt (.island 0) = none ∧ s.entryAt .bay = none ∧ HosesAgree s (.island 0) ∧ HosesAgree s .bay
          ∧ OrdersGoOn s (.island 0) ∧ OrdersGoOn s .bay) := by
  have one {s : State} {a b : Step} {st : OrderState} {o : Scope} (ho : s.orders.get 0 = some (order st none [a, b]))
      (hi : ∀ i, i ≠ 0 → s.orders.get i = none) (h : ∀ ord, ord = order st none [a, b] →
        let stays (k : Nat) (st : Step) := ord.steps[k]? = some st ∧ ¬ (OnObject o ⟨0, k⟩ st ∧ st.state = .waitingCouple)
        ((ord.state = .ending ∨ o = .bay ∨ o = .island 0) → ∃ k st, stays k st ∧ InFlight st)
        ∧ (ord.state ≠ .ending → o ≠ .bay → o ≠ .island 0 →
          ∀ (n : Nat) (w : Step), ord.steps[n]? = some w → OnObject o ⟨0, n⟩ w → w.state = .waitingCouple →
            (ord.state = .active ∨ ord.state = .held) ∧ w.stopOnError = false
            ∧ ∃ k st, stays k st ∧ groupOf ord.steps k = ord.group ∧ st.state ≠ .ended ∧ st.state ≠ .notRun)) :
      OrdersGoOn s o := by
    intro i p hp
    by_cases h0 : i = 0
    · subst h0
      exact h p (Option.some.inj (hp.symm.trans ho))
    · simp [hi i h0] at hp
  refine ⟨⟨by decide +kernel, rfl, bay_books, (atBoth_agrees .active (by simp)).2.hosesAgree _,
      one rfl (by decide +kernel) ?_⟩, by decide +kernel, by decide +kernel, (atBoth_agrees .active (by simp)).1.hosesAgree _,
      (atBoth_agrees .active (by simp)).1.hosesAgree _, one rfl (by decide +kernel) ?_, one rfl (by decide +kernel) ?_⟩
  · rintro _ rfl
    refine ⟨by simp [order], fun _ _ _ n w hw hn _ => ?_⟩
    match n, hw with
    | 0, hw =>
      obtain rfl : waiting = w := Option.some.inj hw
      exact ⟨.inl rfl, rfl, 1, beside, ⟨rfl, by simp [beside, OnObject, waiting]⟩, by decide +kernel, by decide, by decide⟩
    | 1, hw => obtain rfl : beside = w := Option.some.inj hw
               simp [beside, OnObject, waiting] at hn
    | n + 2, hw => simp [order] at hw
  all_goals
    rintro _ rfl
    exact ⟨fun _ => ⟨0, running 5, ⟨rfl, by decide⟩, by decide⟩, by simp⟩

/-- A trip of island 0, and of the bay, with an order that only its waiting step keeps alive, ACTIVE or in ENDING. -/
theorem witness_tripped_waiting_order :
    atWait.ends = [] ∧ BooksLaw atWait ∧ HosesAgree atWait (.island 0) ∧ HosesAgree atWait .bay
      ∧ atWait.entryAt (.island 0) = none ∧ atWait.entryAt .bay = none
      ∧ (∀ st ∈ [waiting], InFlight st → st.state = .waitingCouple) ∧ (∀ j, j ≠ 0 → atWait.orders.get j = none)
      ∧ (let o := { order .ending none [waiting] with endStatus := some .cancelled };
        o.endStatus ≠ none ∧ ∀ st ∈ o.steps, st.state ≠ .pending) :=
  ⟨rfl, bay_books, atWait_agrees.hosesAgree _, atWait_agrees.hosesAgree _, by decide +kernel, by decide +kernel,
    by simp [waiting], by decide +kernel, by simp, by simp [order, waiting]⟩

theorem witness_TripRequestsLatchOrRepeat :
    Admissible bay 1 .tripBay (.tripBay 1 1 (.fields ())) ∧ bay.entryAt .bay = none
      ∧ Admissible bay 2 .tripIsland (.tripIsland 2 1 (.fields 3)) ∧ bay.entryAt (.island 3) = none
      ∧ Admissible bay 2 .tripTank (.tripTank 2 1 (.fields 9)) ∧ bay.entryAt (.tank 9) = none
      ∧ Admissible (latched (.hose 15)) 2 .tripHose (.tripHose 2 1 (.fields 15))
      ∧ (latched (.hose 15)).entryAt (.hose 15) = some Entry.storeLost
      ∧ Admissible bay 2 .tripIsland (.tripIsland 2 1 (.fields 4)) ∧ Admissible bay 2 .tripTank (.tripTank 2 1 (.fields 10))
      ∧ Admissible bay 2 .tripHose (.tripHose 2 1 (.fields 16)) :=
  ⟨admissible (by decide +kernel), by decide +kernel, admissible (by decide +kernel), by decide +kernel, admissible (by decide +kernel),
    by decide +kernel, admissible (by decide +kernel), by decide +kernel, admissible (by decide +kernel),
    admissible (by decide +kernel), admissible (by decide +kernel)⟩

/-- The bay with one action for every cause. -/
def acting (a : CauseAction) : State := { bay with cfg := { config with actions := Vector.replicate 11 a } }

theorem witness_ReportsFollowTheAction :
    bay.running = true ∧ bay.actionOf .leak = .trip ∧ bay.entryAt (.tank 0) = none
      ∧ (acting .off).actionOf .leak = .off ∧ (acting .off).running = true
      ∧ (acting .warn).actionOf .runOn = .warn ∧ (acting .warn).running = true
      ∧ (latched (.tank 0)).running = true ∧ (latched (.tank 0)).entryAt (.tank 0) = some Entry.storeLost
      ∧ bay.shut.stop = false ∧ bay.entryAt .bay = none ∧ (latched .bay).entryAt .bay = some Entry.storeLost
      ∧ ({ bay with shut := { bay.shut with stop := true } } : State).running = true
      ∧ ((atRun 5).running = true ∧ (atRun 5).shut.stop = false) := by decide +kernel

/-! ### Orders -/

/-- An admission of one PRESET step of 2,000 mL at hose 0 with HOLD_BEFORE. -/
def admitFields : AdmitFields := ⟨0, 7, some 1001, [⟨some .preset, 0, 2, 2000⟩]⟩

def admitCommand (f : AdmitFields) : Instr := .orderAdmit 2 1 (.fields f)

/-- The one step of that admission is well formed at island 0 in every state with the configuration of the small bay there. -/
theorem goodSteps {s : State} (h₁ : (s.cfg.hoses.get 0).tank = some 0) (h₂ : (s.cfg.hoses.get 0).enabled = true)
    (h₃ : (s.cfg.hoses.get 0).island = 0) (h₄ : (s.cfg.fluids.get (s.cfg.tanks.get 0).fluid).isDefined = true)
    (h₅ : (s.cfg.tanks.get 0).role = .supply) : GoodSteps s 0 admitFields.steps := by
  refine ⟨by decide, by decide, fun a ha => ?_, by simp [admitFields], fun j k a b hjk hj hk _ => ?_⟩
  · obtain rfl := List.mem_singleton.mp ha
    exact ⟨.preset, 0, 0, ⟨rfl, rfl, h₁⟩, h₂, h₃, h₄, by simp [h₅], by simp, by decide, by decide⟩
  · match j, k, hj, hk with
    | 0, 0, _, _ => exact absurd rfl hjk
    | 0, k + 1, _, hk => simp [admitFields] at hk
    | j + 1, _, hj, _ => simp [admitFields] at hj

theorem witness_AdmissionChecksInOrder :
    Admissible bay 2 .orderAdmit (admitCommand { admitFields with island := 4 })
      ∧ Admissible bay 2 .orderAdmit (admitCommand { admitFields with island := 3 }) ∧ (bay.cfg.islands.get 3).enabled = false
      ∧ Admissible inHold 2 .orderAdmit (admitCommand admitFields) ∧ inHold.supply.state = .hold
      ∧ (let s := { bay with islands := State.reset.islands };
        Admissible s 2 .orderAdmit (admitCommand admitFields) ∧ (s.islands.get 0).presence ≠ .present)
      ∧ Admissible atWait 2 .orderAdmit (admitCommand admitFields) ∧ atWait.orders.get 0 ≠ none
      ∧ Admissible (latched (.island 0)) 2 .orderAdmit (admitCommand admitFields) ∧ (latched (.island 0)).entryAt (.island 0) ≠ none
      ∧ Admissible bay 2 .orderAdmit (admitCommand { admitFields with machine := 8 }) ∧ bay.findAccount 8 = none
      ∧ Admissible blocked 2 .orderAdmit (admitCommand admitFields)
      ∧ Admissible bay 2 .orderAdmit (admitCommand { admitFields with hour := some 999 }) ∧ (account 7).lastHours = some 1000
      ∧ Admissible bay 2 .orderAdmit (admitCommand { admitFields with steps := [] }) ∧ ¬ GoodSteps bay 0 []
      ∧ (Admissible (latched (.hose 0)) 2 .orderAdmit (admitCommand admitFields) ∧ GoodSteps (latched (.hose 0)) 0 admitFields.steps
        ∧ NamesLatched (latched (.hose 0)) admitFields.steps)
      ∧ (let a := { account 7 with fluids := 0 };
        Admissible (withAcc a) 2 .orderAdmit (admitCommand admitFields) ∧ GoodSteps (withAcc a) 0 admitFields.steps
          ∧ ¬ NamesLatched (withAcc a) admitFields.steps ∧ NamesForbiddenFluid (withAcc a) a admitFields.steps)
      ∧ (Admissible (reserving 64) 2 .orderAdmit (admitCommand admitFields) ∧ GoodSteps (reserving 64) 0 admitFields.steps
        ∧ ¬ NamesForbiddenFluid (reserving 64) (account 7) admitFields.steps
        ∧ 64 ≤ (reserving 64).journal.records.length + (reserving 64).journal.reserved) :=
  ⟨admissible (by decide +kernel), admissible (by decide +kernel), by decide +kernel, admissible (by decide +kernel), rfl,
    ⟨admissible (by decide +kernel), by decide +kernel⟩, admissible (by decide +kernel), by decide +kernel,
    admissible (by decide +kernel), by decide +kernel, admissible (by decide +kernel), by decide +kernel,
    admissible (by decide +kernel), admissible (by decide +kernel), rfl, admissible (by decide +kernel), by simp [GoodSteps],
    ⟨admissible (by decide +kernel), goodSteps rfl rfl rfl rfl rfl,
      ⟨_, List.mem_singleton.mpr rfl, .preset, 0, 0, ⟨rfl, rfl, rfl⟩, .inl (by decide +kernel)⟩⟩,
    ⟨admissible (by decide +kernel), goodSteps rfl rfl rfl rfl rfl, by
      rintro ⟨a, -, _, h, k, -, e | e⟩
      · exact e (by have : ∀ h : HoseNo, bay.entryAt (.hose h) = none := by decide +kernel
                    exact this h)
      · exact e (by have : ∀ k : TankNo, bay.entryAt (.tank k) = none := by decide +kernel
                    exact this k),
      ⟨_, List.mem_singleton.mpr rfl, .preset, 0, 0, ⟨rfl, rfl, rfl⟩, .inl rfl, by decide +kernel⟩⟩,
    admissible (by decide +kernel), goodSteps rfl rfl rfl rfl rfl, by
      rintro ⟨a, ha, _, h, k, ⟨-, hh, hk⟩, -, e⟩
      obtain rfl := List.mem_singleton.mp ha
      obtain rfl : 0 = h := Fin.ext hh
      obtain rfl : (0 : TankNo) = k := Option.some.inj hk
      exact absurd e (by decide +kernel), by decide +kernel⟩

/-- Admissions that pass every check, with nothing reserved and with one place of the journal left. -/
theorem witness_admission_accepted : ∀ n ∈ [0, 63],
    Admissible (reserving n) 2 .orderAdmit (admitCommand admitFields) ∧ GoodSteps (reserving n) 0 admitFields.steps
      ∧ ¬ NamesLatched (reserving n) admitFields.steps ∧ ¬ NamesForbiddenFluid (reserving n) (account 7) admitFields.steps
      ∧ (reserving n).journal.records.length + (reserving n).journal.reserved < 64 := by
  intro n hn
  have hb : ∀ x : Scope, (reserving n).entryAt x = none := fun x => match x with
    | .bay => rfl
    | .island i => (by decide +kernel : ∀ i : IslandNo, bay.entryAt (.island i) = none) i
    | .hose h => (by decide +kernel : ∀ h : HoseNo, bay.entryAt (.hose h) = none) h
    | .tank k => (by decide +kernel : ∀ k : TankNo, bay.entryAt (.tank k) = none) k
  refine ⟨admissible rfl, goodSteps rfl rfl rfl rfl rfl, ?_, ?_, ?_⟩
  · rintro ⟨a, -, _, h, k, -, e | e⟩ <;> exact e (hb _)
  · rintro ⟨a, ha, _, h, k, ⟨-, hh, hk⟩, -, e⟩
    obtain rfl := List.mem_singleton.mp ha
    obtain rfl : 0 = h := Fin.ext hh
    obtain rfl : (0 : TankNo) = k := Option.some.inj hk
    exact absurd e (by decide +kernel : ¬ (account 7).fluids.getLsbD (bay.cfg.tanks.get 0).fluid = false)
  · simp only [List.mem_cons, List.not_mem_nil, or_false] at hn
    rcases hn with rfl | rfl <;> decide +kernel

/-- The step that the admission makes. -/
def admitted : Step :=
  { waiting with state := .pending, holdBefore := true, temp := 150, tempSource := .standard, target := 0 }

theorem witness_AdmissionHoldsAtItsGap :
    Admissible bay 2 .orderAdmit (admitCommand admitFields) ∧ Steady bay
      ∧ admissionChecks admitFields bay = .ok (0, [admitted]) ∧ [admitted].head? = some admitted ∧ admitted.holdBefore = true
      ∧ bay.findAccount admitFields.machine = some (account 7)
      ∧ Admissible bay 2 .orderAdmit (admitCommand { admitFields with hour := some 3001 })
      ∧ Admissible inReview 2 .orderAdmit (admitCommand admitFields)
      ∧ Admissible bay 2 .orderAdmit (admitCommand { admitFields with hour := none })
      ∧ (let f := { admitFields with steps := [⟨some .preset, 0, 0, 2000⟩] };
        let st := { admitted with holdBefore := false };
        Admissible bay 2 .orderAdmit (admitCommand f) ∧ admissionChecks f bay = .ok (0, [st]) ∧ st.holdBefore = false
          ∧ ∀ (k : Nat) (w : Step), [st][k]? = some w → (bay.hoses.get w.hose).coupled = false) :=
  ⟨admissible (by decide +kernel), ⟨rfl, rfl⟩, by rfl, rfl, rfl, by decide +kernel, admissible (by decide +kernel),
    admissible (by decide +kernel), admissible (by decide +kernel), admissible (by decide +kernel), by rfl, rfl, by
      have : ∀ h : HoseNo, (bay.hoses.get h).coupled = false := by decide +kernel
      exact fun _ w _ => this w.hose⟩

/-- The step held for power. -/
def powerHeld : Step := { running 5 with state := .suspended, netAtClose := some 500, suspension := some .power }

def atPower (st : OrderState) (hold : Option HoldReason) : State :=
  bayAt { order st hold [powerHeld] with endStatus := if st = .ending then some .cancelled else none } fun k =>
    { k with coupled := true }

/-- A power hold to be resumed with the supply NORMAL, from HELD(POWER) and from ENDING, and one with the supply in HOLD. -/
theorem witness_resumption :
    (Admissible (atPower .held (some .power)) 2 .orderContinue (.orderContinue 2 1 (.fields 0)) ∧ Steady (atPower .held (some .power))
        ∧ Matched (atPower .held (some .power)))
      ∧ (Admissible (atPower .ending none) 2 .orderContinue (.orderContinue 2 1 (.fields 0)) ∧ Matched (atPower .ending none))
      ∧ (bay.supply.state = .normal ∧ InFlight powerHeld ∧ powerHeld.state = .suspended ∧ powerHeld.suspension = some .power
        ∧ powerHeld.endStatus = none ∧ netOf powerHeld < powerHeld.target)
      ∧ (let s := { atPower .ending none with supply := inHold.supply };
        Admissible s 2 .orderContinue (.orderContinue 2 1 (.fields 0)) ∧ s.supply.state = .hold) :=
  ⟨⟨admissible (by decide +kernel), ⟨rfl, rfl⟩,
      matched (st := powerHeld) (rest := []) rfl (by decide +kernel) rfl (by simp) rfl rfl⟩,
    ⟨admissible (by decide +kernel),
      matched (st := powerHeld) (rest := []) rfl (by decide +kernel) rfl (by simp) rfl rfl⟩,
    ⟨rfl, by decide, rfl, rfl, rfl, by decide +kernel⟩, admissible (by decide +kernel), rfl⟩

/-- An order in HELD(GAP) whose group starts, and one in HELD(REQUEST) whose gap is still to be taken. -/
theorem witness_continued_group :
    (let o := { order .held (some .gap) [admitted] with gapTaken := some 1 };
      Admissible (bayWith o) 2 .orderContinue (.orderContinue 2 1 (.fields 0)) ∧ Steady (bayWith o)
        ∧ ((bayWith o).islands.get 0).presence = .present ∧ o.steps[0]? = some admitted ∧ admitted.state = .pending
        ∧ o.gapTaken = some (groupOf o.steps 0) ∧ GroupFree (bayWith o) 0 o 1)
      ∧ (let o := order .held (some .request) [admitted];
        Admissible (bayWith o) 2 .orderContinue (.orderContinue 2 1 (.fields 0)) ∧ admitted.holdBefore = true
          ∧ o.gapTaken ≠ some (groupOf o.steps 0))
      ∧ Admissible (bayWith (order .ending none [settling])) 2 .orderContinue (.orderContinue 2 1 (.fields 0)) := by
  refine ⟨⟨admissible (by decide +kernel), ⟨rfl, rfl⟩, rfl, rfl, rfl, by decide +kernel, fun k st hk _ => ?_⟩,
    ⟨admissible (by decide +kernel), rfl, by decide +kernel⟩, admissible (by decide +kernel)⟩
  match k, hk with
  | 0, hk =>
    obtain rfl : admitted = st := by simpa [order] using hk
    refine ⟨by decide +kernel, by unfold Covered; decide +kernel, fun j w hj hw _ => ?_⟩
    match j, hj, hw with
    | j + 1, _, hw => simp [order] at hw
  | k + 1, hk => simp [order] at hk

theorem witness_OrderHoldAndContinue :
    Admissible atWait 2 .orderHold (.orderHold 2 1 (.fields 0)) ∧ atWait.orders.get 0 = some (order .active none [waiting])
      ∧ Admissible atWait 2 .orderHold (.orderHold 2 1 (.fields 3)) ∧ atWait.orders.get 3 = none
      ∧ Admissible atWait 2 .orderHold (.orderHold 2 1 (.fields 4))
      ∧ (let s := bayWith (order .active none [admitted]);
        Admissible s 2 .orderHold (.orderHold 2 1 (.fields 0)) ∧ ∀ st ∈ [admitted], st.state = .pending ∨ st.state = .ended ∨ st.state = .notRun)
      ∧ Admissible (bayWith (order .held (some .power) [admitted])) 2 .orderHold (.orderHold 2 1 (.fields 0))
      ∧ Admissible atWait 2 .orderContinue (.orderContinue 2 1 (.fields 0)) ∧ Admissible atWait 2 .orderContinue (.orderContinue 2 1 (.fields 4))
      ∧ Admissible (bayWith (order .holdPending (some .power) [settling])) 2 .orderContinue (.orderContinue 2 1 (.fields 0))
      ∧ Admissible (bayWith (order .holdPending (some .request) [waiting])) 2 .orderContinue (.orderContinue 2 1 (.fields 0))
      ∧ (let s := { bayWith (order .held (some .power) [admitted]) with supply := inHold.supply };
        Admissible s 2 .orderContinue (.orderContinue 2 1 (.fields 0)) ∧ s.supply.state = .hold)
      ∧ (let s := { bayWith (order .held (some .gap) [admitted]) with islands := State.reset.islands };
        Admissible s 2 .orderContinue (.orderContinue 2 1 (.fields 0)) ∧ Steady s ∧ (s.islands.get 0).presence ≠ .present) :=
  ⟨admissible (by decide +kernel), rfl, admissible (by decide +kernel), rfl, admissible (by decide +kernel),
    ⟨admissible (by decide +kernel), by simp [admitted]⟩, admissible (by decide +kernel), admissible (by decide +kernel),
    admissible (by decide +kernel), admissible (by decide +kernel), admissible (by decide +kernel),
    ⟨admissible (by decide +kernel), rfl⟩, admissible (by decide +kernel), ⟨rfl, rfl⟩, by decide +kernel⟩

/-- The step held at an island whose machine is on the way, beyond its run-on limit or not. -/
def suspended : Step := { running 5 with state := .suspended, netAtClose := some 500, suspension := some .presence }
def atSuspend : State := bayAt (order .active none [suspended]) fun k => { k with coupled := true }

theorem atSuspend_agrees : Agrees atSuspend := agrees rfl (by decide +kernel) (by decide +kernel) (by decide +kernel)

/-- A cancel of an order without a started step, with a RUNNING and a waiting step, with a waiting step alone, with a SUSPENDED
step, and in ENDING. -/
theorem witness_CancelOfAWaitingOrderEndsIt :
    (let s := bayWith (order .held (some .gap) [admitted]);
      Admissible s 2 .orderCancel (.orderCancel 2 1 (.fields 0)) ∧ Steady s ∧ BooksLaw s ∧ AtTheirHoses s 0
        ∧ s.orders.get 0 = some (order .held (some .gap) [admitted]) ∧ ∀ st ∈ [admitted], ¬ InFlight st)
      ∧ (let s := atBoth (order .active none [running 5, beside]);
        Admissible s 2 .orderCancel (.orderCancel 2 1 (.fields 0)) ∧ Steady s ∧ BooksLaw s ∧ AtTheirHoses s 0
          ∧ Running (running 5) ∧ beside.state = .waitingCouple)
      ∧ (Admissible atWait 2 .orderCancel (.orderCancel 2 1 (.fields 0)) ∧ AtTheirHoses atWait 0)
      ∧ (Admissible atSuspend 2 .orderCancel (.orderCancel 2 1 (.fields 0)) ∧ AtTheirHoses atSuspend 0)
      ∧ Admissible (bayWith (order .ending none [settling])) 2 .orderCancel (.orderCancel 2 1 (.fields 0))
      ∧ Admissible bay 2 .orderCancel (.orderCancel 2 1 (.fields 3)) ∧ Admissible bay 2 .orderCancel (.orderCancel 2 1 (.fields 4)) :=
  ⟨⟨admissible (by decide +kernel), ⟨rfl, rfl⟩, bay_books,
      (agrees rfl (by decide +kernel) (by decide +kernel) (by decide +kernel)).atTheirHoses 0, rfl, by simp [InFlight, admitted]⟩,
    ⟨admissible (by decide +kernel), ⟨rfl, rfl⟩, bay_books, (atBoth_agrees .active (by simp)).1.atTheirHoses 0, .inl rfl, rfl⟩,
    ⟨admissible (by decide +kernel), atWait_agrees.atTheirHoses 0⟩,
    ⟨admissible (by decide +kernel), atSuspend_agrees.atTheirHoses 0⟩,
    admissible (by decide +kernel), admissible (by decide +kernel), admissible (by decide +kernel)⟩

/-! ### Hoses -/

theorem witness_StepStopClosesTheStep :
    Admissible (atRun 5) 2 .stepStop (.stepStop 2 1 (.fields ⟨0, 1⟩)) ∧ HasStep (atRun 5) ⟨0, 0⟩ (running 5) ∧ Steady (atRun 5)
      ∧ Running (running 5) ∧ (running 5).endStatus = none
      ∧ Admissible (atRun 5) 2 .stepStop (.stepStop 2 1 (.fields ⟨0, 8⟩)) ∧ Admissible (atRun 5) 2 .stepStop (.stepStop 2 1 (.fields ⟨0, 0⟩))
      ∧ Admissible (atRun 5) 2 .stepStop (.stepStop 2 1 (.fields ⟨3, 8⟩)) ∧ (atRun 5).orders.get 3 = none
      ∧ Admissible (atRun 5) 2 .stepStop (.stepStop 2 1 (.fields ⟨4, 9⟩))
      ∧ Admissible atSettle 2 .stepStop (.stepStop 2 1 (.fields ⟨0, 1⟩)) ∧ HasStep atSettle ⟨0, 0⟩ settling
      ∧ Admissible atSuspend 2 .stepStop (.stepStop 2 1 (.fields ⟨0, 1⟩)) ∧ HasStep atSuspend ⟨0, 0⟩ suspended
      ∧ (runsOn suspended = false ∧ runsOn { suspended with netAcc := 50500 * 10000000000 } = false
        ∧ runsOn { suspended with netAcc := 50501 * 10000000000 } = true) :=
  ⟨admissible (by decide +kernel), ⟨_, rfl, rfl⟩, ⟨rfl, rfl⟩, .inl rfl, rfl, admissible (by decide +kernel), admissible (by decide +kernel),
    admissible (by decide +kernel), rfl, admissible (by decide +kernel), admissible (by decide +kernel), ⟨_, rfl, rfl⟩,
    admissible (by decide +kernel), ⟨_, rfl, rfl⟩, by decide +kernel⟩

/-- One pulse short of the slow-down point (at 1,500 mL), one short of the target, and in SETTLING beyond a run-on limit of 99 mL. -/
theorem witness_PulsesAreMeteredToTheStep :
    (Steady (atRun 13) ∧ StepOfHose (atRun 13) 0 ⟨0, 0⟩ (running 13) ∧ Running (running 13) ∧ (running 13).endStatus = none)
      ∧ StepOfHose (atRun 14) 0 ⟨0, 0⟩ (running 14) ∧ (2000 - 500 ≤ netOf (pulsed (running 14)) ∧ netOf (pulsed (running 14)) < 2000)
      ∧ StepOfHose (atRun 19) 0 ⟨0, 0⟩ (running 19) ∧ 2000 ≤ netOf (pulsed (running 19))
      ∧ (Steady atSettle ∧ StepOfHose atSettle 0 ⟨0, 0⟩ settling ∧ settling.netAtClose = some 2000)
      ∧ (context.runOnLimit < netOf { pulsed settling with netAcc := 20501 * 100000000000 } - 0)
      ∧ (Steady atSuspend ∧ StepOfHose atSuspend 0 ⟨0, 0⟩ suspended) :=
  ⟨⟨⟨rfl, rfl⟩, stepOfHose rfl rfl rfl, .inl rfl, rfl⟩, stepOfHose rfl rfl rfl, by decide +kernel, stepOfHose rfl rfl rfl,
    by decide +kernel, ⟨⟨rfl, rfl⟩, stepOfHose rfl rfl rfl, rfl⟩, by decide +kernel, ⟨⟨rfl, rfl⟩, stepOfHose rfl rfl rfl⟩⟩

theorem witness_StrayPulsesAreCountedAndCharged :
    Steady bay ∧ (bay.hoses.get 0).step = none ∧ (bay.cfg.hoses.get 0).enabled = true ∧ (bay.cfg.hoses.get 0).tank = some 0
      ∧ ((bookCharged (-100) (bay.tanks.get 0)).bookLimit = false
        ∧ (bookCharged (-100) { bay.tanks.get 0 with book := -2147483648 }).bookLimit = true)
      ∧ (bay.hoses.get 15).step = none ∧ (bay.cfg.hoses.get 15).tank = none :=
  ⟨⟨rfl, rfl⟩, rfl, rfl, rfl, by decide +kernel, rfl, rfl⟩

theorem witness_ProbeReadingsSetTheTemperature :
    bay.running = true ∧ (bay.hoses.get 15).step = none ∧ (atRun 5).running = true ∧ StepOfHose (atRun 5) 0 ⟨0, 0⟩ (running 5)
      ∧ (running 5).tempSource ≠ .probe
      ∧ (let st := { running 5 with tempSource := .probe };
        StepOfHose (bayAt (order .active none [st]) id) 0 ⟨0, 0⟩ st ∧ st.tempSource = .probe) :=
  ⟨rfl, rfl, rfl, stepOfHose rfl rfl rfl, by decide, stepOfHose rfl rfl rfl, rfl⟩

/-- Two waiting steps, and tank 0 changed. -/
def twoWaiting (f : Tank → Tank) : State :=
  { bayAt (order .active none [waiting, beside]) id with tanks := bay.tanks.modify 0 f }

/-- The claim of 2,000 mL at a tank that holds it to the last millilitre, at one that holds 1 mL less with a minimum start it
meets, at one that holds 4,999 mL less than the minimum start asks, at one OUT_OF_SERVICE and at a latched hose. -/
theorem witness_CouplingClaimsTheStock :
    (off.running = false ∧ bay.running = true ∧ ((atRun 5).hoses.get 0).coupled = true ∧ (bay.hoses.get 15).coupled = false)
      ∧ Steady atWait ∧ (atWait.hoses.get 0).coupled = false ∧ StepOfHose atWait 0 ⟨0, 0⟩ waiting
      ∧ (waiting.state = .waitingCouple ∧ waiting.suspension = none ∧ waiting.target = 0 ∧ waiting.netAcc = 0
        ∧ Wants waiting 2000 .unbounded)
      ∧ (atWait.islands.get 0).presence = .present ∧ atWait.supply.state = .normal ∧ ¬ Covered atWait ⟨0, 0⟩ waiting
      ∧ (atWait.tanks.get 0).state ≠ .outOfService
      ∧ quantityFor (twoWaiting fun k => { k with book := 3000 }) waiting = 2000
      ∧ (let s := twoWaiting fun k => { k with book := 2999 };
        quantityFor s waiting = 1999 ∧ ((s.cfg.tanks.get 0).minStart : Int) = 5000
          ∧ Steady s ∧ StepOfHose s 0 ⟨0, 0⟩ waiting ∧ ¬ Covered s ⟨0, 0⟩ waiting
          ∧ GroupGoesOn (order .active none [waiting, beside]) 0 ∧ waiting.stopOnError = false)
      ∧ (let s := { twoWaiting (fun k => { k with book := 2999 }) with
            cfg := { config with tanks := config.tanks.modify 0 fun c => { c with minStart := 1999 } } };
        quantityFor s waiting = 1999 ∧ ((s.cfg.tanks.get 0).minStart : Int) = 1999)
      ∧ ((twoWaiting fun k => { k with state := .outOfService }).tanks.get 0).state = .outOfService
      ∧ coveringEntry { twoWaiting id with shut := (latched (.hose 0)).shut } ⟨0, 0⟩ waiting = some Entry.storeLost :=
  ⟨by decide +kernel, ⟨rfl, rfl⟩, rfl, stepOfHose rfl rfl rfl,
    ⟨rfl, rfl, rfl, rfl, by decide, by simp [waiting], by simp [waiting, context], .inl ⟨rfl, rfl⟩⟩,
    rfl, rfl, by unfold Covered; decide +kernel, by decide +kernel, by decide +kernel,
    ⟨by decide +kernel, by decide +kernel, ⟨rfl, rfl⟩, stepOfHose rfl rfl rfl, by unfold Covered; decide +kernel,
      ⟨1, beside, by decide, rfl, by decide +kernel, by decide, by decide⟩, rfl⟩,
    by decide +kernel, by decide +kernel, by decide +kernel⟩

theorem witness_ClosingsSettleTheStep :
    Steady (atRun 5) ∧ StepOfHose (atRun 5) 0 ⟨0, 0⟩ (running 5) ∧ Running (running 5) ∧ (running 5).endStatus = none
      ∧ ((atRun 5).hoses.get 0).coupled = true ∧ ((atRun 5).hoses.get 0).stallTimer ≠ none
      ∧ ((atRun 5).hoses.get 15).stallTimer = none
      ∧ (let s := { bay with hoses := bay.hoses.modify 15 fun k => { k with coupled := true } };
        Steady s ∧ (s.hoses.get 15).coupled = true ∧ (s.hoses.get 15).step = none) :=
  ⟨⟨rfl, rfl⟩, stepOfHose rfl rfl rfl, .inl rfl, rfl, rfl, by decide +kernel, rfl, ⟨⟨rfl, rfl⟩, rfl, rfl⟩⟩

/-- Island 0 with an order whose first step ends at hose 0. -/
def atEnd (o : Order) : State := bayAt o fun k => { k with coupled := true, coupleTimer := some 0, settleTimer := some 0 }

theorem settle_ends (o : Order) :
    EndsBy (atEnd o) 0 ⟨0, 0⟩ settling 7 (.settleTimerExpiry 0) (atEnd o) [] .complete 2000 (endedStep settling) :=
  .inr (.inl ⟨rfl, rfl, nofun, rfl, rfl, rfl, by decide +kernel, ⟨fun _ => rfl, fun h => absurd h (by decide)⟩, rfl⟩)

/-- A waiting step with STOP_ON_ERROR, and its end with nothing metered. -/
def failing : Step := { waiting with stopOnError := true }

def unmetered (e : StepEnd) (c : Option Cause) : Step :=
  { failing with
    state := .ended, endStatus := some e, cause := c, final := some { gross := 0, net := 0, overrun := 0, residue := 0 } }

def notCoupled : Step := unmetered .notCoupled none

theorem ends_unmetered (e : StepEnd) (c : Option Cause) : EndedWaiting e c failing (unmetered e c) :=
  ⟨⟨fun h => absurd rfl h, fun _ => ⟨2000, by decide, by simp [failing, waiting], by simp [failing, waiting, context],
    .inl ⟨rfl, rfl⟩⟩⟩, rfl⟩

theorem wait_ends (o : Order) :
    EndsBy (atEnd o) 0 ⟨0, 0⟩ failing 7 (.coupleWaitExpiry 0) (atEnd o) [] .notCoupled 0 notCoupled :=
  .inl ⟨rfl, rfl, nofun, rfl, rfl, rfl, rfl, ends_unmetered _ _⟩

/-- A STEP_STOP, a TRIP_HOSE and a report of a leak of tank 0, each ending the one waiting step of an order in some state. -/
theorem witness_TimersEndTheStep : ∀ st ∈ [OrderState.active, .held, .holdPending, .ending],
    let s := atEnd (order st none [failing])
    let r : Report := .linkTrip (.hose 0) 2
    Steady s ∧ StepOfHose s 0 ⟨0, 0⟩ failing ∧ s.orders.get 0 = some (order st none [failing])
      ∧ EndsBy s 0 ⟨0, 0⟩ failing 7 (.stepStop 2 1 (.fields ⟨0, 1⟩)) s [] .stopped 0 (unmetered .stopped none)
      ∧ EndsBy s 0 ⟨0, 0⟩ failing 7 (.tripHose 2 1 (.fields 0)) (tripEntered s ⟨0, 0⟩ failing 7 r) [notice .trip] .shutdown 0
        (unmetered .shutdown (some .linkTrip))
      ∧ EndsBy s 0 ⟨0, 0⟩ failing 7 (.shutdownReport (.leak 0)) (tripEntered s ⟨0, 0⟩ failing 7 (.leak 0)) [notice .trip]
        .shutdown 0 (unmetered .shutdown (some .leak)) := by
  intro st _ s r
  have hi : ∀ i, i ≠ 0 → s.orders.get i = none := fun i h => by
    have : bay.orders.get i = none := (by decide +kernel : ∀ i : IslandNo, bay.orders.get i = none) i
    simp [s, atEnd, bayAt, bayWith, h, this]
  have hx : ∀ x, x ≠ 0 → (s.hoses.get x).step = none :=
    (by decide +kernel : ∀ x : HoseNo, x ≠ 0 → ((atEnd (order .active none [failing])).hoses.get x).step = none)
  have one (o : Scope) (h : o = .hose 0 ∨ o = .tank 0) (he : s.entryAt o = none) : TripsOne s 0 ⟨0, 0⟩ failing o := by
    refine ⟨h, he, fun q w hq _ _ => ?_, fun x q w hs _ _ => ?_, fun i p h0 hp => by simp [hi i h0] at hp⟩
    · obtain ⟨h0, hk⟩ := hasStep_only (o := order st none [failing]) rfl hi hq
      obtain ⟨i, k⟩ := q
      match k, hk with
      | 0, _ => exact congrArg (StepRef.mk · 0) h0
      | k + 1, hk => simp [order] at hk
    · by_contra h0
      simp [hx x h0] at hs
  exact ⟨⟨rfl, rfl⟩, stepOfHose rfl rfl rfl, rfl,
    .inr (.inr (.inl ⟨⟨2, 1, rfl, by decide, admissible rfl⟩, rfl, rfl, rfl, rfl, rfl, ends_unmetered _ _⟩)),
    .inr (.inr (.inr ⟨r, s, .inr (.inl ⟨2, 1, 0, rfl, admissible rfl, rfl, rfl⟩), one _ (.inl rfl) rfl, rfl, rfl, rfl, rfl,
      rfl, ends_unmetered _ _⟩)),
    .inr (.inr (.inr ⟨.leak 0, s, .inl ⟨rfl, rfl, rfl⟩, one _ (.inr rfl) rfl, rfl, rfl, rfl, rfl, rfl, ends_unmetered _ _⟩))⟩

/-- A PENDING step of a group of its own at hose 1. -/
def next : Step := { admitted with hose := 1 }

/-- The end of the first step of an order: in ENDING; by an error that stops the order, with and without a started step; of a
held order, with a step left or none, or a step still to wait for; and of an ACTIVE order whose group goes on. -/
theorem witness_end_of_a_step :
    (Steady (atEnd (order .active none [settling])) ∧ (atEnd (order .active none [settling])).orders.get 0
        = some (order .active none [settling]))
      ∧ (∀ (st : OrderState) (r : Option HoldReason) (l : List Step),
        StepOfHose (atEnd (order st r (settling :: l))) 0 ⟨0, 0⟩ settling
          ∧ StepOfHose (atEnd (order st r (failing :: l))) 0 ⟨0, 0⟩ failing)
      ∧ (InFlight beside ∧ ¬ InFlight notCoupled ∧ ¬ InFlight (endedStep settling) ∧ ¬ InFlight next ∧ next.state = .pending)
      ∧ (ErrorFor failing.kind .notCoupled ∧ failing.stopOnError = true ∧ ¬ ErrorFor settling.kind .complete)
      ∧ (beside.state ≠ .settling ∧ settling.state = .settling)
      ∧ (let steps := (order .active none [settling, beside]).steps.set 0 (endedStep settling);
        steps[1]? = some beside ∧ groupOf steps 1 = 1 ∧ beside.state ≠ .ended ∧ beside.state ≠ .notRun)
      ∧ ((chargedTank 0 settling 2000 (atSettle.tanks.get 0)).bookLimit = false
        ∧ (chargedTank 0 settling 2000 { atSettle.tanks.get 0 with book := -2147483000 }).bookLimit = true) :=
  ⟨⟨⟨rfl, rfl⟩, rfl⟩, fun _ _ _ => ⟨stepOfHose rfl rfl rfl, stepOfHose rfl rfl rfl⟩, by decide +kernel, by decide,
    ⟨by decide, rfl⟩, ⟨rfl, by decide +kernel, by decide, by decide⟩, by decide +kernel⟩

/-- The end of the last step of a group before a gap: the machine away, the gap to be taken, and the gap taken by this group, whose
hose is free. -/
theorem witness_end_of_a_group :
    (let o := order .active none [settling, next];
      let steps := o.steps.set 0 (endedStep settling);
      (atEnd o).orders.get 0 = some o ∧ steps[1]? = some next
        ∧ (∀ x ∈ steps.take 1, x.state = .ended ∨ x.state = .notRun) ∧ groupOf steps 1 = 2 ∧ next.holdBefore = true
        ∧ o.gapTaken ≠ some 2 ∧ ((atEnd o).islands.get 0).presence = .present
        ∧ ({ atEnd o with islands := State.reset.islands }.islands.get 0).presence ≠ .present
        ∧ ¬ ∃ (j : Nat) (w : Step), steps[j]? = some w ∧ groupOf steps j = o.group ∧ w.state ≠ .ended ∧ w.state ≠ .notRun)
      ∧ (let o := { order .active none [settling, next] with gapTaken := some 2 };
        let p := { o with steps := o.steps.set 0 (endedStep settling) };
        o.gapTaken = some (groupOf p.steps 1)
          ∧ GroupFree { atEnd o with hoses := (atEnd o).hoses.modify 0 freedChannel, orders := putOrder (atEnd o) 0 p } 0 p 2) := by
  refine ⟨⟨rfl, rfl, by decide +kernel, by decide +kernel, rfl, by decide, rfl, by decide +kernel, ?_⟩, by decide +kernel, ?_⟩
  · rintro ⟨j, w, hw, hg, he, -⟩
    match j, hw, hg with
    | 0, hw, _ => exact he (Option.some.inj hw ▸ rfl)
    | 1, _, hg => exact absurd hg (by decide +kernel)
  · intro j w hw hg
    match j, hw, hg with
    | 0, _, hg => exact absurd hg (by decide +kernel)
    | 1, hw, _ =>
      obtain rfl : next = w := Option.some.inj hw
      refine ⟨by decide +kernel, by unfold Covered; decide +kernel, fun k x hk hx hg => ?_⟩
      match k, hk, hx, hg with
      | 0, _, _, hg => exact absurd hg (by decide +kernel)
      | 1, hk, _, _ => exact absurd rfl hk

/-- The last step of an order in any of its states, ended by its timer, the steps beside it ENDED or none; and a last step with
STOP_ON_ERROR of an order in ENDING. -/
theorem witness_LastStepEndsTheOrder : ∀ (st : OrderState) (hold : Option HoldReason),
    let s := atEnd (order st hold [settling])
    Steady s ∧ StepOfHose s 0 ⟨0, 0⟩ settling ∧ s.orders.get 0 = some (order st hold [settling])
      ∧ EndsBy s 0 ⟨0, 0⟩ settling 7 (.settleTimerExpiry 0) s [] .complete 2000 (endedStep settling)
      ∧ ¬ ErrorFor settling.kind .complete ∧ s.findAccount 7 = some { account 7 with inUse := some 0 }
      ∧ EndsBy (atEnd (order .ending none [failing])) 0 ⟨0, 0⟩ failing 7 (.coupleWaitExpiry 0)
        (atEnd (order .ending none [failing])) [] .notCoupled 0 notCoupled
      ∧ (let o := order st hold [settling, notCoupled];
        (∀ (j : Nat) (w : Step), j ≠ 0 → o.steps[j]? = some w → w.state = .ended ∨ w.state = .notRun)
          ∧ (o.steps.set 0 (endedStep settling)).any endedInError = true) :=
  fun st hold => ⟨⟨rfl, rfl⟩, stepOfHose rfl rfl rfl, rfl, settle_ends _, by decide, rfl, wait_ends _, fun j w hj hw => by
      match j, hj, hw with
      | 1, _, hw => exact .inl (Option.some.inj hw ▸ rfl)
      | j + 2, _, hw => simp [order] at hw, rfl⟩

theorem witness_WindowsAndQuietTimers :
    (atRun 5).running = true ∧ StepOfHose (atRun 5) 0 ⟨0, 0⟩ (running 5) ∧ Running (running 5)
      ∧ ((atRun 5).hoses.get 0).rateTimer ≠ none ∧ ((atRun 5).hoses.get 15).rateTimer = none
      ∧ ((atRun 5).hoses.get 15).strayTimer = none
      ∧ (let s := { bay with hoses := bay.hoses.modify 15 fun k => { k with strayTimer := some 1 } };
        s.running = true ∧ (s.hoses.get 15).strayTimer ≠ none) :=
  ⟨rfl, stepOfHose rfl rfl rfl, .inl rfl, by decide +kernel, rfl, rfl, rfl, by decide +kernel⟩

/-! ### Islands, tanks and their inputs -/

/-- The bay with island 0 in some presence state. -/
def presenceIs (p : Presence) (level : Bool) (timer : Option Nat) : State :=
  { bay with islands := bay.islands.put 0 { Island.initial with presence := p, level, timer } }

theorem witness_PresenceFollowsTheDetector :
    Steady bay ∧ ((bay.islands.get 0).level = true ∧ (bay.islands.get 0).presence = .present)
      ∧ (∀ h, (bay.cfg.hoses.get h).island = 0 → (bay.hoses.get h).step = none)
      ∧ ((bay.islands.get 3).level = false ∧ (bay.islands.get 3).presence = .absent ∧ (bay.islands.get 3).timer = none)
      ∧ (let s := presenceIs .arriving true (some 0);
        Steady s ∧ (s.islands.get 0).level = true ∧ (s.islands.get 0).presence = .arriving ∧ (s.islands.get 0).timer ≠ none
          ∧ s.orders.get 0 = none ∧ ∀ h, (s.cfg.hoses.get h).island = 0 → (s.hoses.get h).step = none)
      ∧ (let s := presenceIs .leaving false (some 0);
        Steady s ∧ (s.islands.get 0).presence = .leaving ∧ (s.islands.get 0).timer ≠ none ∧ s.orders.get 0 = none)
      ∧ Steady (atRun 5) ∧ ((atRun 5).islands.get 0).level = true ∧ ((atRun 5).islands.get 0).presence = .present
      ∧ ((atRun 5).cfg.hoses.get 0).island = 0 ∧ StepOfHose (atRun 5) 0 ⟨0, 0⟩ (running 5) ∧ Running (running 5)
      ∧ (∀ x, x ≠ 0 → ((atRun 5).cfg.hoses.get x).island = 0 → ((atRun 5).hoses.get x).step = none) :=
  ⟨⟨rfl, rfl⟩, ⟨rfl, rfl⟩, by decide +kernel, ⟨rfl, rfl, rfl⟩,
    ⟨⟨rfl, rfl⟩, rfl, rfl, by decide +kernel, rfl, by decide +kernel⟩, ⟨⟨rfl, rfl⟩, rfl, by decide +kernel, rfl⟩,
    ⟨rfl, rfl⟩, rfl, rfl, rfl, stepOfHose rfl rfl rfl, .inl rfl, by decide +kernel⟩

/-- The machine begins to leave while the step of hose 0 is SUSPENDED(PRESENCE); the hose coupled or not. -/
def atLeave (coupled : Bool) (st : Step) : State :=
  { bayAt (order .active none [st]) (fun k => { k with coupled }) with
    islands := (presenceIs .leaving false (some 0)).islands }

theorem atLeave_agrees (b : Bool) : Agrees (atLeave b suspended) ∧ Agrees (atLeave b waiting) := by
  cases b <;>
    exact ⟨agrees rfl (by decide +kernel) (by decide +kernel) (by decide +kernel),
      agrees rfl (by decide +kernel) (by decide +kernel) (by decide +kernel)⟩

/-- The machine begins to leave a RUNNING step. -/
theorem witness_leaving :
    Steady (atRun 5) ∧ ((atRun 5).islands.get 0).level = true ∧ ((atRun 5).islands.get 0).presence = .present
      ∧ RunsAt (atRun 5) (fun h => ((atRun 5).cfg.hoses.get h).island = 0) 0 :=
  ⟨⟨rfl, rfl⟩, rfl, rfl, 0, ⟨0, 0⟩, running 5, rfl, ⟨rfl, _, rfl, rfl⟩, .inl rfl, rfl⟩

/-- The machine comes back to a SUSPENDED step, by its detector and by its debounce, and to a waiting step that claims. -/
theorem witness_return :
    (∃ b, Arrives (atLeave true suspended) 0 (.detectorAsserted 0) b)
      ∧ (let s := { atLeave true suspended with islands := (presenceIs .arriving true (some 0)).islands };
        Steady s ∧ IslandAgrees s 0 ∧ ∃ b, Arrives s 0 (.arrivalDebounceExpiry 0) b)
      ∧ (Steady (atLeave true suspended) ∧ IslandAgrees (atLeave true suspended) 0
        ∧ (∀ h r st, ¬ ClaimsAt (atLeave true suspended) 0 h r st) ∧ MovesAt (atLeave true suspended) suspended
        ∧ (∀ st ∈ [suspended], st.state ≠ .pending))
      ∧ MovesAt (atLeave true suspended) { waiting with target := 2000 }
      ∧ (let s := atLeave true waiting;
        IslandAgrees s 0 ∧ ClaimsAt s 0 0 ⟨0, 0⟩ waiting ∧ (∀ x q w, ClaimsAt s 0 x q w → x = 0)
          ∧ waiting.netAcc = 0 ∧ Wants waiting 2000 .unbounded ∧ ∀ st ∈ [waiting], st.state ≠ .pending) := by
  refine ⟨⟨_, .inl ⟨rfl, rfl, rfl, rfl⟩⟩, ⟨⟨rfl, rfl⟩, ?_, _, .inr ⟨rfl, rfl, nofun, rfl⟩⟩,
    ⟨⟨rfl, rfl⟩, (atLeave_agrees true).1.islandAgrees, ?_, .inl ⟨rfl, rfl⟩, by decide⟩,
    .inr ⟨rfl, nofun, rfl, rfl, by decide⟩, (atLeave_agrees true).2.islandAgrees,
    ⟨rfl, ⟨rfl, _, rfl, rfl⟩, rfl, nofun, rfl, rfl, rfl⟩, fun x q w h => ((atLeave_agrees true).2.2 x q w h.2.1).1.symm ▸ ?_, rfl,
    ⟨by decide, by simp [waiting], by simp [waiting, context], .inl ⟨rfl, rfl⟩⟩, by decide⟩
  · exact Agrees.islandAgrees (agrees rfl (by decide +kernel) (by decide +kernel) (by decide +kernel))
  · rintro h r st ⟨-, hr, hst, -⟩
    obtain ⟨-, hk⟩ := hasStep_only (o := order .active none [suspended]) rfl (by decide +kernel) hr.2
    match r.idx, hk with
    | 0, hk => exact absurd ((Option.some.inj hk : suspended = st) ▸ hst) (by decide)
    | k + 1, hk => simp [order] at hk
  · obtain ⟨-, hk⟩ := hasStep_only (o := order .active none [waiting]) rfl (by decide +kernel) h.2.1.2
    match q.idx, hk with
    | 0, hk => exact (Option.some.inj hk : waiting = w) ▸ rfl
    | k + 1, hk => simp [order] at hk

/-- The machine comes back to a group that was deferred: at its gap, and with its gap taken and its hose free. -/
theorem witness_return_to_a_group :
    let at' (o : Order) := { bayWith o with islands := (presenceIs .leaving false (some 0)).islands }
    (let o := order .active none [admitted];
      Steady (at' o) ∧ IslandAgrees (at' o) 0 ∧ (∃ b, Arrives (at' o) 0 (.detectorAsserted 0) b)
        ∧ (∀ h, ((at' o).hoses.get h).step = none) ∧ (o.steps[0]? = some admitted ∧ admitted.state = .pending)
        ∧ admitted.holdBefore = true ∧ o.gapTaken ≠ some (groupOf o.steps 0))
      ∧ (let o := { order .active none [admitted] with gapTaken := some 1 };
        o.gapTaken = some (groupOf o.steps 0) ∧ GroupFree (at' o) 0 o 1) := by
  refine ⟨⟨⟨rfl, rfl⟩, ?_, ⟨_, .inl ⟨rfl, rfl, rfl, rfl⟩⟩, by decide +kernel, ⟨rfl, rfl⟩, rfl, by decide⟩, by decide +kernel, ?_⟩
  · exact Agrees.islandAgrees (agrees rfl (by decide +kernel) (by decide +kernel) (by decide +kernel))
  · intro k st hk _
    match k, hk with
    | 0, hk =>
      obtain rfl : admitted = st := Option.some.inj hk
      refine ⟨by decide +kernel, by unfold Covered; decide +kernel, fun j w hj hw _ => ?_⟩
      match j, hj, hw with
      | j + 1, _, hw => simp [order] at hw
    | k + 1, hk => simp [order] at hk

/-- The machine is gone from a SUSPENDED step at its coupled hose, from a waiting step, and from an order without started steps. -/
theorem witness_departure :
    (let s := atLeave true suspended;
      Steady s ∧ BooksLaw s ∧ AtTheirHoses s 0 ∧ (s.islands.get 0).presence = .leaving ∧ (s.islands.get 0).timer ≠ none
        ∧ s.orders.get 0 = some (order .active none [suspended]) ∧ (s.hoses.get suspended.hose).coupled = true)
      ∧ (let s := atLeave false waiting;
        BooksLaw s ∧ AtTheirHoses s 0 ∧ s.orders.get 0 = some (order .active none [waiting]))
      ∧ (let s := { bayWith (order .held (some .gap) [admitted]) with islands := (presenceIs .leaving false (some 0)).islands };
        Steady s ∧ BooksLaw s ∧ AtTheirHoses s 0 ∧ (s.islands.get 0).presence = .leaving ∧ (s.islands.get 0).timer ≠ none) :=
  ⟨⟨⟨rfl, rfl⟩, bay_books, (atLeave_agrees true).1.atTheirHoses 0, rfl, nofun, rfl, rfl⟩,
    ⟨bay_books, (atLeave_agrees false).2.atTheirHoses 0, rfl⟩,
    ⟨rfl, rfl⟩, bay_books, (agrees rfl (by decide +kernel) (by decide +kernel) (by decide +kernel)).atTheirHoses 0, rfl, nofun⟩

/-- Tank 0 with some faulty readings in a row. -/
def faultyReadings (n : Nat) : State := tankWith fun k => { k with gauge := { k.gauge with faults := n } }

theorem witness_FieldInputsReport :
    bay.running = true ∧ (bay.islands.get 3).float = false ∧ (bay.tanks.get 9).probe = false
      ∧ bay.cfg.straps.get 9 = [] ∧ bay.cfg.straps.get 0 ≠ []
      ∧ ((faultyReadings 2).running = true ∧ min 255 (((faultyReadings 2).tanks.get 0).gauge.faults + 1) = 3)
      ∧ ((faultyReadings 255).running = true ∧ min 255 (((faultyReadings 255).tanks.get 0).gauge.faults + 1) ≠ 3)
      ∧ (((tankWith fun k => { k with staleTimer := none }).tanks.get 0).staleTimer = none ∧ (bay.tanks.get 0).staleTimer ≠ none)
      ∧ (let s := tankWith fun k => { k with leak := .waiting, quietTimer := some 0 };
        s.running = true ∧ (s.tanks.get 0).leak = .waiting ∧ (s.tanks.get 0).quietTimer ≠ none)
      ∧ ((atRun 5).running = true ∧ ((atRun 5).tanks.get 0).leak ≠ .waiting) := by decide +kernel

/-- A level at the top of the strapping, and a QUIET watch whose baseline lies more than the threshold above the net. -/
theorem witness_ValidGaugeReadings :
    bay.running = true ∧ bay.cfg.straps.get 9 = [] ∧ GoodStrapping (bay.cfg.straps.get 0)
      ∧ Gauged (bay.cfg.straps.get 0) 1000 1000000 false
      ∧ (∀ h r st, (bay.hoses.get h).step = some r → HasStep bay r st → st.ctx.tank ≠ 0)
      ∧ (let s := tankWith fun k => { k with leak := .quiet, baseline := some 500000 };
        s.running = true ∧ (s.tanks.get 0).leak = .quiet ∧ (s.tanks.get 0).baseline = some 500000
          ∧ (s.cfg.tanks.get 0).leakThreshold < 500000 - 0)
      ∧ ((atRun 5).running = true ∧ GoodStrapping ((atRun 5).cfg.straps.get 0) ∧ Matched (atRun 5)
        ∧ InFlight (running 5) ∧ (running 5).ctx.tank = 0 ∧ (running 5).tempSource = .gauge) := by
  have h : ∀ h : HoseNo, (bay.hoses.get h).step = none := by decide +kernel
  have points : bay.cfg.straps.get 0 = [⟨0, 0⟩, ⟨1000, 1000000⟩] := rfl
  refine ⟨rfl, rfl, by simp [points, GoodStrapping], ?_, fun x r st e => by simp [h x] at e, by decide +kernel,
    rfl, (by simp [points, GoodStrapping] : GoodStrapping (bay.cfg.straps.get 0)), atRun_matched, by simp [InFlight, running],
    rfl, rfl⟩
  rw [points]
  refine ⟨by simp, by simp, fun k p q hp hq _ _ => ?_⟩
  match k, hp, hq with
  | 0, hp, hq => simp at hp hq; subst hp hq; decide
  | 1, hp, hq => simp at hq

/-! ### Supply -/

/-- A warning asserted already, and one that finds a RUNNING and a waiting step, a SUSPENDED step, a SETTLING one, and an order in
ENDING. -/
theorem witness_PowerFailWarningHoldsTheBay :
    Steady inHold ∧ inHold.supply.warning = true
      ∧ (let s := atBoth (order .active none [running 5, beside]);
        Steady s ∧ s.supply.warning = false ∧ RunsAt s (fun _ => True) 0
          ∧ Refers s 1 ⟨0, 1⟩ beside ∧ beside.state = .waitingCouple ∧ newlyHeld s = [0])
      ∧ (Steady atSuspend ∧ atSuspend.supply.warning = false ∧ Refers atSuspend 0 ⟨0, 0⟩ suspended
        ∧ suspended.suspension = some .presence ∧ newlyHeld atSuspend = [0])
      ∧ (Steady atSettle ∧ atSettle.supply.warning = false ∧ newlyHeld atSettle = [])
      ∧ (let s := bayAt (order .ending none [settling]) id; Steady s ∧ s.supply.warning = false ∧ newlyHeld s = []) :=
  ⟨⟨rfl, rfl⟩, rfl, ⟨⟨rfl, rfl⟩, rfl, ⟨0, ⟨0, 0⟩, running 5, trivial, ⟨rfl, _, rfl, rfl⟩, .inl rfl, rfl⟩, ⟨rfl, _, rfl, rfl⟩, rfl,
      by decide +kernel⟩, ⟨⟨rfl, rfl⟩, rfl, ⟨rfl, _, rfl, rfl⟩, rfl, by decide +kernel⟩, ⟨⟨rfl, rfl⟩, rfl, by decide +kernel⟩,
    ⟨rfl, rfl⟩, rfl, by decide +kernel⟩

/-- A part whose start-up is under way. -/
def startingUp : State := { bay with supply := { bay.supply with starting := true } }

theorem witness_TheStoppedPartIsOff :
    startingUp.powered = true ∧ startingUp.running = false ∧ startingUp.pins.reset = false ∧ off.powered = false
      ∧ off.running = false ∧ (atRun 5).powered = true ∧ (atRun 5).running = true
      ∧ (atRun 5).supply.snapshot = none ∧ saving.running = true ∧ saving.supply.snapshot ≠ none := by decide +kernel

theorem witness_PowerOnStartsThePart :
    off.powered = false ∧ off.pins.reset = false ∧ off.pins.stop = false ∧ off.pins.warning = false
      ∧ (∀ i, off.pins.detectors.get i = false ∧ off.pins.floats.get i = false) ∧ (∀ k, off.pins.probes.get k = false)
      ∧ off.orders.get 3 = none
      ∧ (let s := { atRun 5 with powered := false };
        s.powered = false ∧ s.pins = off.pins ∧ s.orders.get 0 = some (order .active none [running 5])) := by decide +kernel

/-- An image that the loader accepts, and one that it refuses. -/
theorem witness_images : (Image.written Settings.default).accepted = true ∧ Image.blank.accepted = false := by
  have h : Settings.default.inRange = true := by decide +kernel
  exact ⟨by simp [Image.accepted, Image.written, h], by decide +kernel⟩

/-- The live step of the order that power finds, the one step in flight of its hose; no step in flight names another hose. -/
theorem witness_restored_step :
    HasLive { atRun 5 with powered := false } ⟨0, 0⟩ (running 5)
      ∧ (∀ r st q w, HasStep (atRun 5) r st → InFlight st → HasStep (atRun 5) q w → InFlight w → st.hose = w.hose → r = q)
      ∧ HasStep (atRun 5) ⟨0, 0⟩ (running 5) ∧ InFlight (running 5) ∧ (running 5).hose ≠ 15 :=
  ⟨⟨⟨_, rfl, rfl⟩, by decide +kernel, by decide +kernel⟩, atRun_matched.unique, ⟨_, rfl, rfl⟩, by simp [InFlight, running],
    by decide⟩

/-- The part held in its external reset. -/
def inReset : State := { atWait with pins := { atWait.pins with reset := true } }

theorem witness_ExternalResetEndsTheOrders :
    bay.pins.reset = false ∧ off.powered = false ∧ inReset.pins.reset = true ∧ inReset.powered = true
      ∧ inReset.orders.get 0 = some (order .active none [waiting]) ∧ InFlight waiting
      ∧ inReset.findAccount 7 = some { account 7 with inUse := some 0 } ∧ inReset.pins.stop = false := by decide +kernel

/-- A start-up after power-on that goes no further than the load of the image leaves the order as it was. -/
theorem test_start_up_stopped :
    (match exec (.powerOn .kept ⟨true, .actions 1⟩) { atRun 5 with powered := false } with
      | .next t => (t.running, t.supply.starting, decide (t.orders = (atRun 5).orders))
      | _ => (true, false, false)) = (false, true, true) := by decide +kernel

/-- A reset that ends one step RESET is stopped by the next assertion: the order is still there, its step is ENDED. -/
theorem test_reset_start_up_stopped :
    (match exec (.externalResetNegated ⟨true, .actions 1⟩) inReset with
      | .next t => match exec (.externalResetAsserted .beforeMark) t with
        | .next u => (u.supply.starting, (u.orders.get 0).map fun o => o.steps.map (·.state))
        | _ => (true, none)
      | _ => (true, none)) = (false, some [.ended]) := by decide +kernel

/-- The step that the reset finds is its hose's. -/
theorem witness_reset_step : StepOfHose inReset 0 ⟨0, 0⟩ waiting ∧ InFlight waiting :=
  ⟨stepOfHose rfl rfl rfl, by decide +kernel⟩

/-! ### Links -/

/-- Port 0 with some of its figures changed. -/
def portWith (f : Port → Port) : State := { bay with ports := bay.ports.modify 0 f }

/-- The body of a CLOCK_READ, the shortest there is. -/
def shortBody : List Byte := [0, 1, 0x1A]

def assembling (body : List Byte) (crcHigh : Byte) : State :=
  portWith fun p =>
    { p with
      receiver := .assembling (BitVec.ofNat 8 body.length :: body ++ [crcHigh]), frameTimer := some 10
      queue := List.replicate 3 shortBody }

theorem witness_FramesAreReceivedAndSent :
    bay.running = true ∧ (bay.ports.get 0).receiver = .hunting false
      ∧ ((portWith fun p => { p with receiver := .hunting true }).ports.get 0).receiver = .hunting true
      ∧ ((portWith fun p => { p with receiver := .assembling [] }).ports.get 0).receiver = .assembling []
      ∧ ((2#8).toNat < 3 ∧ 250 < (251#8).toNat)
      ∧ (let c := crc16 (3#8 :: shortBody);
        let s := assembling shortBody (BitVec.ofNat 8 (c / 256));
        s.running = true ∧ crc16 (BitVec.ofNat 8 shortBody.length :: shortBody) =
          (BitVec.ofNat 8 (c / 256)).toNat * 256 + (BitVec.ofNat 8 (c % 256)).toNat
          ∧ shortBody[2]? ≠ some 0x63#8 ∧ (s.ports.get 0).queue.length < 4 ∧ (s.ports.get 0).frameTimer ≠ none)
      ∧ crc16 (BitVec.ofNat 8 shortBody.length :: shortBody) ≠ (0#8).toNat * 256 + (0#8).toNat
      ∧ ((bay.ports.get 0).frameTimer = none ∧ (bay.ports.get 0).sending = none)
      ∧ (let s := portWith fun p => { p with queue := List.replicate 4 shortBody };
        s.running = true ∧ 4 ≤ (s.ports.get 0).queue.length ∧ ((s.ports.get 0).waiting.filter (·.atArrival)).length < 4)
      ∧ (let s := portWith fun p => { p with receiver := .assembling (3#8 :: [0, 1, 0x1A]) };
        (s.ports.get 0).receiver = .assembling (3#8 :: [0, 1, 0x1A]) ∧ [0, 1, (0x1A : Byte)].length + 1 < (3#8).toNat + 2)
      ∧ (let c := crc16 (3#8 :: [0, 1, 0x63#8]);
        (assembling [0, 1, 0x63#8] (BitVec.ofNat 8 (c / 256))).running = true
          ∧ c = (BitVec.ofNat 8 (c / 256)).toNat * 256 + (BitVec.ofNat 8 (c % 256)).toNat)
      ∧ (let c := crc16 (4#8 :: [0, 1, 0x63#8, 255]);
        (assembling [0, 1, 0x63#8, 255] (BitVec.ofNat 8 (c / 256))).running = true
          ∧ c = (BitVec.ofNat 8 (c / 256)).toNat * 256 + (BitVec.ofNat 8 (c % 256)).toNat)
      ∧ (let s := portWith fun p => { p with
            queue := List.replicate 4 shortBody
            waiting := List.replicate 4 { reply 0 .clockRead .busy .nothing with atArrival := true } };
        4 ≤ (s.ports.get 0).queue.length ∧ 4 ≤ ((s.ports.get 0).waiting.filter (·.atArrival)).length) := by
  decide +kernel

/-- A notice of island 3 that only LANES receives, at a bay where link 2 records it and has one pending already. -/
def noted : State :=
  { bay with
    cfg := { config with links := config.links.modify 2 fun c => { c with record := 0x1FFF, attention := 0x1FFF } } }

theorem witness_NoticesAreFiledByRoleAndMask :
    (roleReceives (noted.cfg.links.get 2).role .stepEnded = true
        ∧ (noted.cfg.links.get 2).record.getLsbD NoticeKind.stepEnded.index.val = true)
      ∧ (noted.ports.get 2).notices.get NoticeKind.stepEnded.index = none
      ∧ ((noted.raise (noticeAt .stepEnded 3)).ports.get 2).notices.get NoticeKind.stepEnded.index ≠ none
      ∧ roleReceives (noted.cfg.links.get 0).role .stepEnded = false := by decide +kernel

theorem witness_NoticeFetchTakesEveryEntry :
    (noted.raise (noticeAt .stepEnded 3)).canTake 2 (.noticeFetch 2 1 (.fields ())) = true
      ∧ permitted ((noted.raise (noticeAt .stepEnded 3)).cfg.links.get 2).role .noticeFetch = true := by decide +kernel

theorem witness_LinkResetEmptiesThePort :
    bay.running = true ∧ ((bay.ports.get 2).waiting.filter (·.atArrival)).length < 4
      ∧ (let s := portWith fun p => { p with waiting := List.replicate 4 { reply 0 .clockRead .busy .nothing with atArrival := true } };
        s.running = true ∧ 4 ≤ ((s.ports.get 0).waiting.filter (·.atArrival)).length)
      ∧ (busyLink.running = true ∧ (busyLink.ports.get 2).custody ≠ .untaken) := by decide +kernel

/-! ### Laws -/

/-- Settling ends with a notice to LANES, a record in the place its order held, and the outputs as they should be. -/
def closing : State := { atSettle with pending := [.settleTimerExpiry 0] }

/-- What a step of the part gives, where it gives a state. -/
def stepOk (s : State) : Bool := match step s with | .next _ => true | _ => false

theorem witness_AttentionLawIsKept : AttentionLaw closing ∧ stepOk closing = true := by
  refine ⟨fun l => ⟨?_, ?_⟩, by decide +kernel⟩
  · have : ∀ l : Link, (closing.ports.get l).attention = false := by decide +kernel
    simp [this l]
  · rintro ⟨k, hk, -⟩
    have : ∀ (l : Link) (n : Fin 13), (closing.ports.get l).notices.get n = none := by decide +kernel
    simp [this l k.index] at hk

theorem witness_JournalLawIsKept : JournalLaw closing ∧ stepOk closing = true :=
  ⟨⟨by decide +kernel, by decide +kernel, by decide +kernel⟩, by decide +kernel⟩

theorem witness_OutputsLawIsKept :
    OutputsLaw { atRun 5 with pending := [.meterPulse 0] } ∧ EndsTaken { atRun 5 with pending := [.meterPulse 0] }
      ∧ stepOk { atRun 5 with pending := [.meterPulse 0] } = true :=
  ⟨⟨by decide +kernel, by decide +kernel⟩, rfl, by decide +kernel⟩

theorem witness_TablesAndRolesAreKept :
    stepOk closing = true ∧ EndsTaken closing ∧ OfficeLaw closing ∧ BooksLaw closing ∧ AccountsLaw closing :=
  ⟨by decide +kernel, rfl, ⟨0, rfl⟩, (by decide +kernel : ∀ k : TankNo, _ ∧ _), by decide +kernel, by decide +kernel, by decide +kernel⟩

end Sys2Proof.Tests
end

section
/-! SUPPORT. The read requests: an owner that reads answers and leaves the part as it is. -/

namespace Sys2Proof.Machine

open Sys2Proof.Safety

/-- Whatever a read request carries, its taking gives one reply and nothing else. -/
theorem State.serve_reading {α : Type} {s : State} {self : Instr} {l : Link} (h : s.canTake l self = true) (tag : Half)
    (k : Kind) (b : Sent α) (f : α → State → Answer) :
    ∃ code results, OnlyAnswered s (s.serve self l tag k b (reading f)) l (reply tag k code results) := by
  rcases s.serve_cases self l tag k b (reading f) with ⟨hn, -⟩ | ⟨-, r, -, e⟩ | ⟨-, -, -, e⟩ | ⟨-, -, a, -, e⟩
  · simp [h] at hn
  all_goals
    rw [e]
    exact ⟨_, _, State.answer_only _ _ _ _ _⟩

/-- The reply to an admissible read request is what the owner reads. -/
theorem State.serve_reads {α : Type} {s : State} {self : Instr} {l : Link} {k : Kind} (h : Admissible s l k self)
    (tag : Half) (a : α) (f : α → State → Answer) :
    OnlyAnswered s (s.serve self l tag k (.fields a) (reading f)) l (reply tag k (f a s).1 (f a s).2) :=
  State.serve_only h tag a (reading f) rfl

end Sys2Proof.Machine

namespace Sys2Proof.Machine

open Sys2Proof.Safety

/-- Settles O5: each read request is an owner that reads (`State.serve_reading`); no other command has one of these kinds. -/
theorem readsChangeNoState : Obligations.ReadsChangeNoState := by
  intro c q s hq hk hc
  have done {α : Type} (self : Instr) (l : Link) (tag : Half) (k : Kind) (b : Sent α) (f : α → State → Answer)
      (hs : s.canTake l self = true) : ∃ t code results,
        (Host.Outcome.next (s.serve self l tag k b (reading f)) : Result) = .next t
          ∧ OnlyAnswered s t l (reply tag k code results) :=
    let ⟨code, results, h⟩ := State.serve_reading hs tag k b f
    ⟨_, code, results, rfl, h⟩
  cases c <;> cases hq
  case orderRead => exact done _ _ _ _ _ _ hc
  case islandRead => exact done _ _ _ _ _ _ hc
  case tankRead => exact done _ _ _ _ _ _ hc
  case hoseRead => exact done _ _ _ _ _ _ hc
  case shutdownRead => exact done _ _ _ _ _ _ hc
  case warnRead => exact done _ _ _ _ _ _ hc
  case journalRead => exact done _ _ _ _ _ _ hc
  case journalStatus => exact done _ _ _ _ _ _ hc
  case accountRead => exact done _ _ _ _ _ _ hc
  case accountNext => exact done _ _ _ _ _ _ hc
  case clockRead => exact done _ _ _ _ _ _ hc
  case supplyRead => exact done _ _ _ _ _ _ hc
  case identify => exact done _ _ _ _ _ _ hc
  case linkStatus => exact done _ _ _ _ _ _ hc
  all_goals simp at hk

/-! ## What the four unit reads carry (R26, R54, R83, R108) -/

theorem State.entryAt_isSome_or (s : State) (o p : Scope) :
    (s.isLatched o || s.isLatched p) = true ↔ s.entryAt o ≠ none ∨ s.entryAt p ≠ none := by
  rw [Bool.or_eq_true, State.isLatched_iff, State.isLatched_iff]

/-- The quantity that TANK_READ carries, as a difference held at 0 (R87). -/
theorem stockQuantity_eq_max (c : TankCfg) (k : Tank) :
    (stockQuantity c k : Int) = max 0 (match c.role with
      | .supply => k.book - k.reserved - c.lowLimit
      | .waste => c.highLimit - k.book - k.reserved) := by
  unfold stockQuantity available room
  cases c.role <;> simp only <;> omega

theorem stepView_shown (st : Step) :
    (st.final = none → (stepView st).gross = (st.grossAcc + 500) / 1000
        ∧ (stepView st).net = (st.netAcc + 5000000000) / 10000000000)
      ∧ ∀ f, st.final = some f → (stepView st).gross = f.gross ∧ (stepView st).net = f.net := by
  refine ⟨fun h => ?_, fun f h => ?_⟩
  · simp [stepView, Step.shown, h, Step.gross, Step.net, reportedGross, reportedNet]
  · simp [stepView, Step.shown, h]

theorem State.hoseStep_eq_some {s : State} {h : HoseNo} {r : StepRef} {st : Step} :
    s.hoseStep h = some (r, st) ↔ (s.hoses.get h).step = some r ∧ HasStep s r st := by
  unfold State.hoseStep
  rw [Option.bind_eq_some_iff]
  constructor
  · rintro ⟨q, hq, he⟩
    obtain ⟨w, hw, he⟩ := Option.map_eq_some_iff.mp he
    cases he
    exact ⟨hq, State.stepAt_eq_some.mp hw⟩
  · rintro ⟨hq, hs⟩
    exact ⟨r, hq, by rw [State.stepAt_eq_some.mpr hs]; rfl⟩

theorem State.hoseStep_of_none {s : State} {h : HoseNo} (hn : (s.hoses.get h).step = none) : s.hoseStep h = none := by
  simp [State.hoseStep, hn]

theorem orderRead_answer {s : State} {l : Link} {tag : Half} {n : Nat}
    (hA : Admissible s l .orderRead (.orderRead l tag (.fields n))) :
    ∃ t code results, exec (.orderRead l tag (.fields n)) s = .next t
      ∧ OnlyAnswered s t l (reply tag .orderRead code results)
      ∧ (3 < n → code = .outOfRange)
      ∧ ∀ i : IslandNo, n = i.val → (s.orders.get i = none → code = .noOrder)
        ∧ ∀ o, s.orders.get i = some o → code = .ok ∧ results = .order (orderView i o) := by
  refine ⟨_, _, _, rfl, State.serve_reads hA tag n orderRead, fun h => ?_, ?_⟩
  · simp [orderRead, islandOf, unitOf_of_le (show 4 ≤ n by omega), refuse]
  · rintro i rfl
    exact ⟨fun h => by simp [orderRead, islandOf, unitOf_val, h, refuse],
      fun o h => by simp [orderRead, islandOf, unitOf_val, h]⟩

/-- Settles O8: each of the four reads answers with the view of the unit it names (`State.serve_reads`). -/
theorem unitReadsCarryTheUnit : Obligations.UnitReadsCarryTheUnit := by
  intro l tag n s
  refine ⟨fun hA => ?_, fun hA => ?_, fun hA => ?_, fun hA => ?_⟩
  · obtain ⟨t, code, results, he, ho, hr, hi⟩ := orderRead_answer hA
    refine ⟨t, code, results, he, ho, hr, fun i hn => ⟨(hi i hn).1, fun o hso => ?_⟩⟩
    obtain ⟨hc, hv⟩ := (hi i hn).2 o hso
    refine ⟨hc, _, hv, rfl, rfl, rfl, rfl, rfl, rfl, rfl, rfl, List.length_map .., fun k st w hst hw => ?_⟩
    have hw' : stepView st = w := by simpa [orderView, hst] using hw
    subst hw'
    exact ⟨rfl, rfl, rfl, rfl, rfl, rfl, stepView_shown st⟩
  · refine ⟨_, _, _, rfl, State.serve_reads hA tag n islandRead, fun h => ?_, ?_⟩
    · simp [islandRead, islandOf, unitOf_of_le (show 4 ≤ n by omega), refuse]
    · rintro i rfl
      simp only [islandRead, islandOf, unitOf_val, true_and]
      exact ⟨_, rfl, rfl, rfl, rfl, rfl, rfl, rfl, rfl, s.entryAt_isSome_or _ _⟩
  · refine ⟨_, _, _, rfl, State.serve_reads hA tag n tankRead, fun h => ?_, ?_⟩
    · simp [tankRead, tankOf, unitOf_of_le (show 10 ≤ n by omega), refuse]
    · rintro k rfl
      simp only [tankRead, tankOf, unitOf_val, true_and]
      exact ⟨_, rfl, rfl, rfl, rfl, rfl, rfl, rfl, stockQuantity_eq_max _ _, decide_eq_true_iff, rfl, rfl, rfl,
        s.entryAt_isSome_or _ _⟩
  · refine ⟨_, _, _, rfl, State.serve_reads hA tag n hoseRead, fun h => ?_, ?_⟩
    · simp [hoseRead, hoseOf, unitOf_of_le (show 16 ≤ n by omega), refuse]
    · rintro h rfl
      simp only [hoseRead, hoseOf, unitOf_val, true_and]
      refine ⟨_, rfl, rfl, rfl, rfl, rfl, rfl, rfl, fun hn => by simp [State.hoseStep_of_none hn], fun r st hr hs => ?_⟩
      rw [State.hoseStep_eq_some.mpr ⟨hr, hs⟩]
      exact ⟨_, rfl, rfl, rfl, rfl, rfl, rfl, rfl, rfl⟩

end Sys2Proof.Machine
end

section
/-! SUPPORT. One equation for each operation at a step, a hose channel, a tank, in the words of the statements. -/

namespace Sys2Proof.Machine

open Sys2Proof.Safety

/-! ## Tables -/

theorem Table.ext_get {α : Type} {n : Nat} {v w : Table α n} (h : ∀ i, v.get i = w.get i) : v = w := by
  ext i hi
  exact h ⟨i, hi⟩

theorem Table.put_put {α : Type} {n : Nat} (v : Table α n) (i : Fin n) (x y : α) :
    Table.put (Table.put v i x) i y = Table.put v i y := by
  refine Table.ext_get fun j => ?_
  simp only [Table.put_get]
  split <;> rfl

theorem Table.put_self_eq {α : Type} {n : Nat} {v : Table α n} {i : Fin n} {x : α} (h : v.get i = x) :
    Table.put v i x = v := by
  refine Table.ext_get fun j => ?_
  rw [Table.put_get]
  split
  · next e => rw [e, h]
  · rfl

theorem Table.modify_id {α : Type} {n : Nat} (v : Table α n) (i : Fin n) {f : α → α} (h : f (v.get i) = v.get i) :
    v.modify i f = v := Table.put_self_eq h.symm

/-! ## Step records -/

theorem HasStep.unique {s : State} {r : StepRef} {v w : Step} (hv : HasStep s r v) (hw : HasStep s r w) : v = w := by
  rw [← State.stepAt_eq_some] at hv hw
  exact Option.some.inj (hv.symm.trans hw)

theorem HasStep.congr {s t : State} (h : t.orders.get r.island = s.orders.get r.island) {st : Step} :
    HasStep t r st ↔ HasStep s r st := by
  unfold HasStep; rw [h]

theorem putStep_get {s : State} {r : StepRef} {w : Step} (i : IslandNo) :
    (putStep s r w).get i = if i = r.island then (s.orders.get i).map fun o => { o with steps := o.steps.set r.idx w }
      else s.orders.get i := by
  rw [putStep, Table.modify_get]
  split
  · next h => rw [h]
  · rfl

theorem putStep_congr {s t : State} (h : t.orders = s.orders) (r : StepRef) (w : Step) : putStep t r w = putStep s r w := by
  rw [putStep, putStep, h]

theorem hasStep_putStep {s t : State} {r : StepRef} {st w : Step} (h : HasStep s r st) (ht : t.orders = putStep s r w) :
    HasStep t r w := by
  obtain ⟨o, ho, hs⟩ := h
  refine ⟨{ o with steps := o.steps.set r.idx w }, by simp [ht, putStep_get, ho], ?_⟩
  have := (List.getElem?_eq_some_iff.mp hs).1
  simp [this]

theorem hasStep_putStep_of_ne {s t : State} {r q : StepRef} {w x : Step} (hq : q ≠ r) (ht : t.orders = putStep s r w) :
    HasStep t q x ↔ HasStep s q x := by
  unfold HasStep
  rw [ht, putStep_get]
  split
  · next hi =>
    have hidx : r.idx ≠ q.idx := fun e => hq (by cases q; cases r; simp_all)
    cases ho : s.orders.get q.island with
    | none => simp
    | some o => simp [hidx]
  · rfl

theorem putStep_putStep {s t : State} {r : StepRef} {v : Step} (ht : t.orders = putStep s r v) (w : Step) :
    putStep t r w = putStep s r w := by
  refine Table.ext_get fun i => ?_
  rw [putStep_get, putStep_get, ht, putStep_get]
  split
  · rw [Option.map_map]
    congr 1
    funext o
    simp [List.set_set]
  · rfl

theorem putStep_self {s : State} {r : StepRef} {st : Step} (h : HasStep s r st) : putStep s r st = s.orders := by
  obtain ⟨o, ho, hs⟩ := h
  refine Table.ext_get fun i => ?_
  rw [putStep_get]
  split
  · next hi =>
    subst hi
    obtain ⟨hl, he⟩ := List.getElem?_eq_some_iff.mp hs
    rw [ho, Option.map_some]
    have : o.steps.set r.idx st = o.steps := by rw [← he]; exact List.set_getElem_self hl
    rw [this]
  · rfl

/-- The orders with one step replaced, where the order is known. -/
theorem putStep_eq_putOrder {s : State} {r : StepRef} {o : Order} (ho : s.orders.get r.island = some o) (w : Step) :
    putStep s r w = putOrder s r.island { o with steps := o.steps.set r.idx w } := by
  rw [putStep, putOrder, Table.modify, ho, Option.map_some]

theorem State.modStep_eq {s : State} {r : StepRef} {st : Step} (h : HasStep s r st) (f : Step → Step) :
    s.modStep r f = { s with orders := putStep s r (f st) } := by
  obtain ⟨o, ho, hs⟩ := h
  have hl : o.steps.modify r.idx f = o.steps.set r.idx (f st) := by
    obtain ⟨hlt, he⟩ := List.getElem?_eq_some_iff.mp hs
    refine List.ext_getElem? fun n => ?_
    rw [List.getElem?_modify, List.getElem?_set]
    split
    · next e => subst e; simp [he, hlt]
    · simp
  rw [putStep_eq_putOrder ho, ← hl]
  simp only [State.modStep, State.modOrder, State.setOrder, putOrder, ho, Option.map_some]

theorem State.modOrder_eq {s : State} {i : IslandNo} {o : Order} (ho : s.orders.get i = some o) (f : Order → Order) :
    s.modOrder i f = { s with orders := putOrder s i (f o) } := by
  simp only [State.modOrder, State.setOrder, putOrder, ho, Option.map_some]

theorem putOrder_get {s : State} {i : IslandNo} {o : Order} (j : IslandNo) :
    (putOrder s i o).get j = if j = i then some o else s.orders.get j := Table.put_get ..

theorem putOrder_putOrder {s t : State} {i : IslandNo} {p : Order} (ht : t.orders = putOrder s i p) (o : Order) :
    putOrder t i o = putOrder s i o := by
  rw [putOrder, ht, putOrder, putOrder, Table.put_put]

theorem putOrder_self {s : State} {i : IslandNo} {o : Order} (ho : s.orders.get i = some o) : putOrder s i o = s.orders :=
  Table.put_self_eq ho

/-! ## States of steps in both vocabularies -/

theorem Step.isRunning_iff (st : Step) : st.isRunning = true ↔ Running st := by simp [Step.isRunning, Running]

theorem Step.isStarted_iff (st : Step) : st.isStarted = true ↔ InFlight st := by
  simp only [Step.isStarted, Bool.and_eq_true, Step.isLive_iff, decide_eq_true_eq, InFlight]
  tauto

/-- A step in flight waits, runs, settles or is suspended. -/
theorem InFlight.cases {st : Step} (h : InFlight st) :
    st.state = .waitingCouple ∨ Running st ∨ st.state = .suspended ∨ st.state = .settling := by
  obtain ⟨h₁, h₂, h₃⟩ := h
  unfold Running
  cases hs : st.state <;> simp_all

theorem Step.net_eq (st : Step) : st.net = netOf st := rfl

/-! ## The end of a command that gave no end report -/

theorem State.settleAll_eq {u : State} (he : u.ends = []) : u.settleAll = { u with shut := u.settleAll.shut } :=
  (State.settleAll_follow he rfl).2

theorem State.follow_settleAll {s u : State} (he : u.ends = []) (h : u.shut = s.shut) : OutputsFollow s u.settleAll :=
  (State.settleAll_follow he h).1

/-! ## The valve closes (R36 to R42, R47, R48) -/

/-- A step with the run-on check made (R42). -/
def runOnMarked (st : Step) : Step := { st with runOnReported := st.runOnReported || runsOn st }

/-- What the run-on check of a step reports (R42). -/
def runOnOf (st : Step) : List Report := if runsOn st = true then [.runOn st.hose] else []

theorem State.runOnCheck_eq {s : State} {r : StepRef} {st : Step} (h : HasStep s r st) :
    s.runOnCheck r = { s with orders := putStep s r (runOnMarked st), reports := s.reports ++ runOnOf st } := by
  have e : (!st.runOnReported && decide (st.ctx.runOnLimit < st.runOn)) = runsOn st := rfl
  simp only [State.runOnCheck, State.stepAt_eq_some.mpr h, e]
  cases hr : runsOn st with
  | true => simp [State.modStep_eq h, State.report, runOnMarked, runOnOf, hr]
  | false =>
    have : runOnMarked st = st := by simp [runOnMarked, hr]
    simp [this, putStep_self h, runOnOf, hr]

/-- A step after its entry to SETTLING (R40 to R42, R48). -/
def settledBy (e : StepEnd) (c : Option Cause) (st : Step) : Step := runOnMarked (st.settled e c)

theorem State.settledStep_eq {s : State} {r : StepRef} {st : Step} (h : HasStep s r st) (e : StepEnd) (c : Option Cause) :
    (s.modStep r (Step.settled e c)).runOnCheck r = { s with
      orders := putStep s r (settledBy e c st), reports := s.reports ++ runOnOf (st.settled e c) } := by
  rw [State.modStep_eq h]
  have h' : HasStep { s with orders := putStep s r (st.settled e c) } r (st.settled e c) := hasStep_putStep h rfl
  rw [State.runOnCheck_eq h']
  simp only [settledBy]
  rw [putStep_putStep (s := s) (v := st.settled e c) rfl]

theorem State.settle_eq {s : State} {r : StepRef} {st : Step} (h : HasStep s r st) (e : StepEnd) (c : Option Cause) :
    s.settle r st e c = { s with
      hoses := s.hoses.modify st.hose (settlingChannel st.ctx.settleTime)
      orders := putStep s r (settledBy e c st)
      reports := s.reports ++ runOnOf (st.settled e c) } :=
  State.settledStep_eq (s := s.modHose st.hose (settlingChannel st.ctx.settleTime)) h e c

theorem settledCause_none (st : Step) : settledCause st none = st.cause := by
  unfold settledCause
  cases st.endStatus with
  | none => rfl
  | some e => cases st.cause <;> rfl

/-- The net at valve close of a step that settles: its reported net when it was RUNNING, else as it was (R36, R47). -/
theorem Step.closingNet_eq (st : Step) : st.closingNet = if Running st then some (netOf st) else st.netAtClose :=
  if_congr st.isRunning_iff rfl rfl

theorem runsOn_of {st : Step} {b : Bool} {l n : Nat} {c : Option Nat} (hb : st.runOnReported = b)
    (hl : st.ctx.runOnLimit = l) (hn : netOf st = n) (hc : st.netAtClose = c) :
    runsOn st = (!b && decide (l < n - c.getD n)) := by
  rw [runsOn, hb, hl, hn, hc]

theorem netOf_settled (e : StepEnd) (c : Option Cause) (st : Step) : netOf (st.settled e c) = netOf st := rfl

theorem netOf_withNetAtClose (st : Step) (n : Option Nat) : netOf { st with netAtClose := n } = netOf st := rfl

/-- A step whose net at valve close is its reported net has run on by nothing (R42). -/
theorem runsOn_closingNow (st : Step) : runsOn { st with netAtClose := some (netOf st) } = false := by
  rw [runsOn_of rfl rfl (netOf_withNetAtClose st _) rfl, Option.getD_some, Nat.sub_self]
  simp

/-- A step runs on at its entry to SETTLING only from SUSPENDED (R42). -/
theorem runsOn_settled (e : StepEnd) (c : Option Cause) (st : Step) :
    runsOn (st.settled e c) = if Running st then false else runsOn st := by
  rw [runsOn_of (st := st.settled e c) rfl rfl (netOf_settled e c st) st.closingNet_eq]
  split
  · rw [Option.getD_some, Nat.sub_self]; simp
  · rw [runsOn_of rfl rfl rfl rfl]
    rfl

theorem settledBy_eq (e : StepEnd) (c : Option Cause) (st : Step) :
    settledBy e c st = { st with
      state := .settling, endStatus := some (st.endStatus.getD e), suspension := none, cause := settledCause st c
      netAtClose := if Running st then some (netOf st) else st.netAtClose
      runOnReported := st.runOnReported || if Running st then false else runsOn st } := by
  rw [settledBy, runOnMarked, runsOn_settled, ← Step.closingNet_eq]
  rfl

theorem closedStep_eq_settled {st : Step} (h : Running st ∨ st.state = .suspended) (e : StepEnd) :
    closedStep e st = settledBy e none st := by
  rw [settledBy_eq, settledCause_none]
  by_cases hr : Running st
  · rw [closedStep, if_pos hr, if_pos hr, if_pos hr, settledFrom, runsOn_closingNow]
  · rw [closedStep, if_neg hr, if_neg hr, if_neg hr, if_pos (h.resolve_left hr), settledFrom]

/-- The run-on that a closing reports is that of a SUSPENDED step; a RUNNING one has run on by nothing (R42). -/
theorem runOnOf_settled {st : Step} (h : Running st ∨ st.state = .suspended) (e : StepEnd) (c : Option Cause) :
    runOnOf (st.settled e c) = runOnsOf [st] := by
  unfold runOnOf runOnsOf
  rw [runsOn_settled]
  by_cases hr : Running st
  · have hs : st.state ≠ .suspended := by rcases hr with e | e <;> simp [e]
    simp [hr, hs]
  · have hs : st.state = .suspended := h.resolve_left hr
    have he : (st.settled e c).hose = st.hose := rfl
    simp only [hr, if_false, he]
    cases hb : runsOn st <;> simp [hs, hb]

/-- What the closing of a RUNNING or SUSPENDED step comes to (R40, R47). -/
theorem State.closeStep_settles {s : State} {r : StepRef} {st : Step} (h : HasStep s r st)
    (hr : Running st ∨ st.state = .suspended) (e : StepEnd) :
    s.closeStep r st e = { s with
      hoses := s.hoses.modify st.hose (settlingChannel st.ctx.settleTime)
      orders := putStep s r (closedStep e st)
      reports := s.reports ++ runOnsOf [st] } := by
  have hw : st.state ≠ .waitingCouple := by
    rcases hr with (hr | hr) | hr <;> simp [hr]
  have hg : (st.isRunning || decide (st.state = .suspended)) = true := by
    rcases hr with hr | hr
    · simp [(Step.isRunning_iff st).mpr hr]
    · simp [hr]
  simp only [State.closeStep, if_neg hw, if_pos hg]
  rw [State.settle_eq h, closedStep_eq_settled hr, runOnOf_settled hr]

end Sys2Proof.Machine
end

section
namespace Sys2Proof.Machine

open Sys2Proof.Safety

/-! ## STEP_STOP (R19) -/

theorem islandOf_val (i : IslandNo) : islandOf i.val = some i := unitOf_val i
theorem islandOf_of_lt {n : Nat} (h : 3 < n) : islandOf n = none := unitOf_of_le h
theorem tankOf_val (k : TankNo) : tankOf k.val = some k := unitOf_val k
theorem tankOf_of_lt {n : Nat} (h : 9 < n) : tankOf n = none := unitOf_of_le h
theorem hoseOf_val (h : HoseNo) : hoseOf h.val = some h := unitOf_val h
theorem hoseOf_of_lt {n : Nat} (h : 15 < n) : hoseOf n = none := unitOf_of_le h

/-- The outcome of a STEP_STOP by what it names (R14, R19). -/
theorem stepStop_outOfRange {f : StopFields} (s : State) (h : 3 < f.island ∨ f.index = 0 ∨ 8 < f.index) :
    stepStop f s = (refuse .outOfRange, s) := by
  unfold stepStop
  cases hi : islandOf f.island with
  | none => rfl
  | some i =>
    have hw : within 1 8 f.index = false := by
      rcases h with h | h
      · rw [islandOf_of_lt h] at hi; cases hi
      · simp [within]; omega
    simp [hw]

theorem stepStop_named {f : StopFields} {i : IslandNo} (s : State) (hi : f.island = i.val) (h₁ : 1 ≤ f.index)
    (h₈ : f.index ≤ 8) :
    stepStop f s = match s.orders.get i with
      | none => (refuse .noOrder, s)
      | some _ => match s.stepAt ⟨i, f.index - 1⟩ with
        | none => (refuse .state, s)
        | some st =>
          if st.isRunning || decide (st.state = .suspended ∨ st.state = .waitingCouple) then
            (accepted, (s.closeStep ⟨i, f.index - 1⟩ st .stopped).settleAll)
          else (refuse .state, s) := by
  have hw : within 1 8 f.index = true := by simp [within, h₁, h₈]
  simp only [stepStop, hi, islandOf_val, hw]
  rfl

/-- Settles O36: the refusals follow the checks of STEP_STOP, and a RUNNING or SUSPENDED step closes as
`State.closeStep_settles` says. -/
theorem stepStopClosesTheStep : Obligations.StepStopClosesTheStep := by
  intro l tag f s hA
  refine ⟨fun h => ⟨_, rfl, State.serve_only hA tag f stepStop (stepStop_outOfRange s h)⟩, fun i hi h₁ h₈ => ?_⟩
  have hn := stepStop_named s hi h₁ h₈
  refine ⟨fun ho => ⟨_, rfl, State.serve_only hA tag f stepStop (by rw [hn, ho]; rfl)⟩, fun o ho hl => ?_,
    fun st hst => ⟨fun hm => ?_, fun hS hr => ?_⟩⟩
  · have : s.stepAt ⟨i, f.index - 1⟩ = none := by
      simp only [State.stepAt, ho, Option.bind_some]
      exact List.getElem?_eq_none (by omega)
    exact ⟨_, rfl, State.serve_only hA tag f stepStop (by rw [hn, ho, this]; rfl)⟩
  all_goals
    obtain ⟨o, ho, -⟩ := id hst
    simp only at ho
    rw [ho, State.stepAt_eq_some.mpr hst] at hn
    simp only at hn
  · have hf : (st.isRunning || decide (st.state = .suspended ∨ st.state = .waitingCouple)) = false := by
      simp only [List.mem_cons, List.not_mem_nil, or_false] at hm
      rcases hm with hm | hm | hm | hm <;> simp [Step.isRunning, hm]
    exact ⟨_, rfl, State.serve_only hA tag f stepStop (by rw [hn, hf]; rfl)⟩
  · have ht : (st.isRunning || decide (st.state = .suspended ∨ st.state = .waitingCouple)) = true := by
      rcases hr with hr | hr
      · simp [(Step.isRunning_iff st).mpr hr]
      · simp [hr]
    rw [if_pos ht, State.closeStep_settles hst hr] at hn
    exact ⟨_, ⟨_, rfl, State.serve_only hA tag f stepStop hn⟩, State.follow_settleAll hS.2 rfl,
      State.settleAll_eq hS.2⟩

end Sys2Proof.Machine
end

section
/-! SUPPORT. Changes of many step records at once, and folds that take an event at one channel after another. -/

namespace Sys2Proof.Machine

open Sys2Proof.Safety

/-- A fold keeps what it holds of the elements taken so far. -/
theorem foldl_taken {α β : Type} (f : β → α → β) (P : List α → β → Prop) {b : β} (h₀ : P [] b)
    (h : ∀ l a c, P l c → P (l ++ [a]) (f c a)) (l : List α) : P l (l.foldl f b) := by
  induction l using List.reverseRecOn with
  | nil => exact h₀
  | append_singleton l a ih => rw [List.foldl_append]; exact h l a _ ih

theorem mapIdx_snd {α : Type} (l : List α) : (l.mapIdx fun _ a => a) = l :=
  List.ext_getElem? fun n => by simp

/-! ## The orders with every step changed by its reference -/

/-- The orders with each step changed by a function of its reference. -/
def mapSteps (s : State) (g : StepRef → Step → Step) : Table (Option Order) 4 :=
  Vector.ofFn fun i => (s.orders.get i).map fun o => { o with steps := o.steps.mapIdx fun k st => g ⟨i, k⟩ st }

theorem mapSteps_get (s : State) (g : StepRef → Step → Step) (i : IslandNo) :
    (mapSteps s g).get i
      = (s.orders.get i).map fun o => { o with steps := o.steps.mapIdx fun k st => g ⟨i, k⟩ st } := by
  simp [mapSteps, Vector.get_eq_getElem]

theorem hasStep_mapSteps {s t : State} {g : StepRef → Step → Step} (h : t.orders = mapSteps s g) {q : StepRef} {w : Step} :
    HasStep t q w ↔ ∃ st, HasStep s q st ∧ w = g q st := by
  unfold HasStep
  rw [h, mapSteps_get]
  cases ho : s.orders.get q.island with
  | none => simp
  | some o =>
    constructor
    · rintro ⟨p, hp, hw⟩
      cases hp
      rw [List.getElem?_mapIdx] at hw
      obtain ⟨st, hst, rfl⟩ := Option.map_eq_some_iff.mp hw
      exact ⟨st, ⟨o, rfl, hst⟩, rfl⟩
    · rintro ⟨st, ⟨p, hp, hst⟩, rfl⟩
      cases hp
      exact ⟨_, rfl, by rw [List.getElem?_mapIdx, hst]; rfl⟩

theorem mapSteps_congr {s : State} {g k : StepRef → Step → Step} (h : ∀ q st, HasStep s q st → g q st = k q st) :
    mapSteps s g = mapSteps s k := by
  refine Table.ext_get fun i => ?_
  rw [mapSteps_get, mapSteps_get]
  cases ho : s.orders.get i with
  | none => rfl
  | some o =>
    simp only [Option.map_some]
    congr 2
    refine List.ext_getElem? fun n => ?_
    rw [List.getElem?_mapIdx, List.getElem?_mapIdx]
    cases hn : o.steps[n]? with
    | none => rfl
    | some st => exact congrArg some (h ⟨i, n⟩ st ⟨o, ho, hn⟩)

theorem mapSteps_self {s : State} {g : StepRef → Step → Step} (h : ∀ q st, HasStep s q st → g q st = st) :
    mapSteps s g = s.orders := by
  rw [mapSteps_congr (k := fun _ st => st) h]
  refine Table.ext_get fun i => ?_
  rw [mapSteps_get]
  cases s.orders.get i with
  | none => rfl
  | some o => rw [Option.map_some, mapIdx_snd]

theorem putStep_mapSteps {s t : State} {g : StepRef → Step → Step} (h : t.orders = mapSteps s g) (q : StepRef) (w : Step) :
    putStep t q w = mapSteps s fun p st => if p = q then w else g p st := by
  refine Table.ext_get fun i => ?_
  rw [putStep_get, h, mapSteps_get, mapSteps_get]
  split
  · next hi =>
    rw [Option.map_map]
    congr 1
    funext o
    simp only [Function.comp]
    congr 1
    refine List.ext_getElem? fun n => ?_
    rw [List.getElem?_set, List.getElem?_mapIdx, List.getElem?_mapIdx, List.length_mapIdx]
    subst hi
    by_cases hn : q.idx = n
    · subst hn
      by_cases hl : q.idx < o.steps.length
      · simp [hl]
      · simp [hl]
    · have : (⟨q.island, n⟩ : StepRef) ≠ q := fun e => hn (by rw [← e])
      simp [hn, this]
  · next hi =>
    have (n : Nat) : (⟨i, n⟩ : StepRef) ≠ q := fun e => hi (by rw [← e])
    simp only [this, if_false]

theorem mapSteps_mapSteps {s t : State} {g : StepRef → Step → Step} (h : t.orders = mapSteps s g)
    (k : StepRef → Step → Step) : mapSteps t k = mapSteps s fun q st => k q (g q st) := by
  refine Table.ext_get fun i => ?_
  rw [mapSteps_get, h, mapSteps_get, mapSteps_get, Option.map_map]
  congr 1
  funext o
  simp only [Function.comp]
  congr 1
  rw [List.mapIdx_mapIdx]
  rfl

/-- One step changed is every step changed by its reference. -/
theorem putStep_eq_mapSteps (s : State) (q : StepRef) (w : Step) :
    putStep s q w = mapSteps s fun p st => if p = q then w else st :=
  putStep_mapSteps (g := fun _ st => st) (mapSteps_self fun _ _ _ => rfl).symm q w

end Sys2Proof.Machine
end

section
/-! SUPPORT. An event that suspends the RUNNING steps of some channels (R43, R45). -/

namespace Sys2Proof.Machine

open Sys2Proof.Safety

/-- What an event at a channel does when it suspends a RUNNING step, may pause a waiting one, and else changes the step alone:
`took` is the step after it, `pause` the channel of a waiting step. -/
structure Suspends (f : State → HoseNo → State) (took : Step → Step) (pause : Channel → Channel) : Prop where
  idle : ∀ t h, t.hoseStep h = none → f t h = t
  runs : ∀ t h q w, t.hoseStep h = some (q, w) → Running w →
    f t h = { t with hoses := t.hoses.modify w.hose suspendedChannel, orders := putStep t q (took w) }
  waits : ∀ t h q w, t.hoseStep h = some (q, w) → w.state = .waitingCouple →
    f t h = { t with hoses := t.hoses.modify h pause, orders := putStep t q (took w) }
  other : ∀ t h q w, t.hoseStep h = some (q, w) → ¬ Running w → w.state ≠ .waitingCouple →
    f t h = { t with orders := putStep t q (took w) }
  took_took : ∀ w, took (took w) = took w
  took_running : ∀ w, ¬ Running (took w)
  took_waiting : ∀ w, (took w).state = .waitingCouple ↔ w.state = .waitingCouple
  pause_pause : ∀ k, pause (pause k) = pause k
  pause_suspended : ∀ k, pause (suspendedChannel k) = suspendedChannel (pause k)
  pause_step : ∀ k, (pause k).step = k.step

/-- One of some hoses refers to a step. -/
def touchedBy (s : State) (l : List HoseNo) (q : StepRef) : Bool := l.any fun h => decide ((s.hoses.get h).step = some q)

theorem touchedBy_iff {s : State} {l : List HoseNo} {q : StepRef} :
    touchedBy s l q = true ↔ ∃ h ∈ l, (s.hoses.get h).step = some q := by simp [touchedBy]

/-- A hose of `l` refers to a waiting step. -/
def PausesAt (s : State) (l : List HoseNo) (h : HoseNo) : Prop :=
  h ∈ l ∧ ∃ q st, Refers s h q st ∧ st.state = .waitingCouple

/-- The state after such an event at the hoses of `l`. -/
structure Suspended (s : State) (took : Step → Step) (pause : Channel → Channel) (l : List HoseNo) (t : State) : Prop where
  only : t = { s with hoses := t.hoses, orders := t.orders }
  orders : t.orders = mapSteps s fun q st => if touchedBy s l q then took st else st
  hoses : ∀ x, ∃ k, (RunsAt s (· ∈ l) x → k = suspendedChannel (s.hoses.get x))
    ∧ (¬ RunsAt s (· ∈ l) x → k = s.hoses.get x)
    ∧ (PausesAt s l x → t.hoses.get x = pause k) ∧ (¬ PausesAt s l x → t.hoses.get x = k)

section
variable {f : State → HoseNo → State} {took : Step → Step} {pause : Channel → Channel}

theorem Suspended.step_eq (hf : Suspends f took pause) {s t : State} {l : List HoseNo} (h : Suspended s took pause l t)
    (x : HoseNo) : (t.hoses.get x).step = (s.hoses.get x).step := by
  obtain ⟨k, hr, hn, hp, hq⟩ := h.hoses x
  have hk : k.step = (s.hoses.get x).step := by
    by_cases hx : RunsAt s (· ∈ l) x
    · rw [hr hx]; rfl
    · rw [hn hx]
  by_cases hx : PausesAt s l x
  · rw [hp hx, hf.pause_step, hk]
  · rw [hq hx, hk]

theorem touchedBy_append (s : State) (l : List HoseNo) (a : HoseNo) (q : StepRef) :
    touchedBy s (l ++ [a]) q = (touchedBy s l q || decide ((s.hoses.get a).step = some q)) := by
  simp [touchedBy]

/-- The orders when one more channel takes the event. -/
theorem Suspended.orders_append (hf : Suspends f took pause) {s t : State} {l : List HoseNo}
    (h : Suspended s took pause l t) {a : HoseNo} {q : StepRef} {st : Step} (ha : (s.hoses.get a).step = some q)
    (hst : HasStep s q st) :
    putStep t q (took (if touchedBy s l q then took st else st))
      = mapSteps s fun p st => if touchedBy s (l ++ [a]) p then took st else st := by
  rw [putStep_mapSteps h.orders]
  refine mapSteps_congr fun p w hw => ?_
  rw [touchedBy_append, ha]
  by_cases hp : p = q
  · subst hp
    cases HasStep.unique hw hst
    cases touchedBy s l p <;> simp [hf.took_took]
  · have hne : q ≠ p := fun e => hp e.symm
    simp [hp, hne]

theorem RunsAt.append {s : State} {l : List HoseNo} {a x : HoseNo} :
    RunsAt s (· ∈ l ++ [a]) x ↔ RunsAt s (· ∈ l) x ∨ ∃ q st, Refers s a q st ∧ Running st ∧ st.hose = x := by
  unfold RunsAt
  constructor
  · rintro ⟨y, q, st, hy, h⟩
    rcases List.mem_append.mp hy with hy | hy
    · exact .inl ⟨y, q, st, hy, h⟩
    · cases List.mem_singleton.mp hy; exact .inr ⟨q, st, h⟩
  · rintro (⟨y, q, st, hy, h⟩ | ⟨q, st, h⟩)
    · exact ⟨y, q, st, List.mem_append_left _ hy, h⟩
    · exact ⟨a, q, st, by simp, h⟩

theorem Suspended.append (hf : Suspends f took pause) {s t : State} {l : List HoseNo} (h : Suspended s took pause l t)
    (a : HoseNo) : Suspended s took pause (l ++ [a]) (f t a) := by
  have hstep := h.step_eq hf a
  cases ht : t.hoseStep a with
  | none =>
    have hno : ∀ q st, ¬ Refers s a q st := by
      rintro q st ⟨hr, hs⟩
      have : HasStep t q _ := (hasStep_mapSteps h.orders).mpr ⟨st, hs, rfl⟩
      rw [State.hoseStep_eq_some.mpr ⟨hstep.trans hr, this⟩] at ht
      cases ht
    rw [hf.idle t a ht]
    refine ⟨h.only, ?_, fun x => ?_⟩
    · rw [h.orders]
      refine mapSteps_congr fun p w hw => ?_
      have : (s.hoses.get a).step ≠ some p := fun e => hno p w ⟨e, hw⟩
      rw [touchedBy_append]
      simp [this]
    · have hr : RunsAt s (· ∈ l ++ [a]) x ↔ RunsAt s (· ∈ l) x := by
        rw [RunsAt.append]
        exact ⟨fun h => h.elim id fun ⟨q, st, hq, _⟩ => absurd hq (hno q st), .inl⟩
      have hp : PausesAt s (l ++ [a]) x ↔ PausesAt s l x := by
        constructor
        · rintro ⟨hm, q, st, hq, hw⟩
          rcases List.mem_append.mp hm with hm | hm
          · exact ⟨hm, q, st, hq, hw⟩
          · cases List.mem_singleton.mp hm; exact absurd hq (hno q st)
        · exact fun ⟨hm, hq⟩ => ⟨List.mem_append_left _ hm, hq⟩
      rw [hr, hp]
      exact h.hoses x
  | some p =>
    obtain ⟨q, w⟩ := p
    obtain ⟨hq, hw⟩ := State.hoseStep_eq_some.mp ht
    obtain ⟨st, hst, rfl⟩ := (hasStep_mapSteps h.orders).mp hw
    have ha : (s.hoses.get a).step = some q := hstep.symm.trans hq
    have horders := h.orders_append hf ha hst
    have hr (x : HoseNo) : RunsAt s (· ∈ l ++ [a]) x ↔ RunsAt s (· ∈ l) x ∨ Running st ∧ st.hose = x := by
      rw [RunsAt.append]
      refine or_congr Iff.rfl ⟨?_, fun hx => ⟨q, st, ⟨ha, hst⟩, hx⟩⟩
      rintro ⟨p, w, ⟨hp, hw⟩, hx⟩
      cases ha.symm.trans hp
      cases HasStep.unique hw hst
      exact hx
    have hp (x : HoseNo) : PausesAt s (l ++ [a]) x ↔ PausesAt s l x ∨ x = a ∧ st.state = .waitingCouple := by
      unfold PausesAt
      constructor
      · rintro ⟨hm, p, w, ⟨hp, hw⟩, hx⟩
        rcases List.mem_append.mp hm with hm | hm
        · exact .inl ⟨hm, p, w, ⟨hp, hw⟩, hx⟩
        · cases List.mem_singleton.mp hm
          cases ha.symm.trans hp
          cases HasStep.unique hw hst
          exact .inr ⟨rfl, hx⟩
      · rintro (⟨hm, hx⟩ | ⟨rfl, hx⟩)
        · exact ⟨List.mem_append_left _ hm, hx⟩
        · exact ⟨by simp, q, st, ⟨ha, hst⟩, hx⟩
    -- a step that an earlier channel has suspended, and whose channel is suspended already
    have hdone : Running st → touchedBy s l q = true → RunsAt s (· ∈ l) st.hose := fun hr ht => by
      obtain ⟨y, hy, hys⟩ := touchedBy_iff.mp ht
      exact ⟨y, q, st, hy, ⟨hys, hst⟩, hr, rfl⟩
    by_cases hrun : Running st
    · have hnw : st.state ≠ .waitingCouple := by rcases hrun with e | e <;> simp [e]
      by_cases htouched : touchedBy s l q = true
      · -- the step is suspended already
        rw [if_pos htouched] at horders ht
        have hnr := hf.took_running st
        have hnw' : (took st).state ≠ .waitingCouple := fun e => hnw ((hf.took_waiting st).mp e)
        rw [hf.other t a q _ ht hnr hnw']
        refine ⟨by rw [h.only], horders, fun x => ?_⟩
        rw [hr, hp]
        have : (RunsAt s (· ∈ l) x ∨ Running st ∧ st.hose = x) ↔ RunsAt s (· ∈ l) x :=
          ⟨fun e => e.elim id fun ⟨_, e⟩ => e ▸ hdone hrun htouched, .inl⟩
        simpa [this, hnw] using h.hoses x
      · rw [if_neg htouched] at horders ht
        rw [hf.runs t a q st ht hrun]
        refine ⟨by rw [h.only], horders, fun x => ?_⟩
        rw [hr, hp]
        obtain ⟨k, h₁, h₂, h₃, h₄⟩ := h.hoses x
        by_cases hx : st.hose = x
        · subst hx
          refine ⟨suspendedChannel (s.hoses.get st.hose), fun _ => rfl, fun hn => absurd (.inr ⟨hrun, rfl⟩) hn, ?_, ?_⟩
          all_goals
            have hk : suspendedChannel k = suspendedChannel (s.hoses.get st.hose) := by
              by_cases hx : RunsAt s (· ∈ l) st.hose
              · rw [h₁ hx]; rfl
              · rw [h₂ hx]
            simp only [Table.modify_self, hnw, and_false, or_false]
            intro hx
          · rw [h₃ hx, ← hf.pause_suspended, hk]
          · rw [h₄ hx, hk]
        · have hx' : x ≠ st.hose := fun e => hx e.symm
          simp only [hx, and_false, or_false, hnw, Table.modify_of_ne _ _ hx']
          exact ⟨k, h₁, h₂, h₃, h₄⟩
    · have hnr : ¬ Running (if touchedBy s l q = true then took st else st) := by
        split
        · exact hf.took_running st
        · exact hrun
      have hwait : (if touchedBy s l q = true then took st else st).state = .waitingCouple ↔ st.state = .waitingCouple := by
        split
        · exact hf.took_waiting st
        · rfl
      by_cases hw : st.state = .waitingCouple
      · rw [hf.waits t a q _ ht (hwait.mpr hw)]
        refine ⟨by rw [h.only], horders, fun x => ?_⟩
        rw [hr, hp]
        obtain ⟨k, h₁, h₂, h₃, h₄⟩ := h.hoses x
        simp only [hrun, false_and, or_false, hw, and_true]
        refine ⟨k, h₁, h₂, fun hx => ?_, fun hx => ?_⟩
        · by_cases hxa : x = a
          · subst hxa
            rw [Table.modify_self]
            by_cases hpx : PausesAt s l x
            · rw [h₃ hpx, hf.pause_pause]
            · rw [h₄ hpx]
          · rw [Table.modify_of_ne _ _ hxa]
            exact h₃ (hx.resolve_right hxa)
        · rw [Table.modify_of_ne _ _ fun e => hx (.inr e)]
          exact h₄ fun e => hx (.inl e)
      · rw [hf.other t a q _ ht hnr (fun e => hw (hwait.mp e))]
        refine ⟨by rw [h.only], horders, fun x => ?_⟩
        rw [hr, hp]
        simpa [hrun, hw] using h.hoses x

theorem Suspended.nil (s : State) : Suspended s took pause [] s := by
  refine ⟨rfl, (mapSteps_self fun q st _ => by simp [touchedBy]).symm, fun x => ⟨s.hoses.get x, ?_, fun _ => rfl, ?_,
    fun _ => rfl⟩⟩
  · rintro ⟨y, -, -, hy, -⟩; cases hy
  · rintro ⟨hy, -⟩; cases hy

/-- The event taken at one channel after another. -/
theorem Suspends.foldl (hf : Suspends f took pause) (s : State) (l : List HoseNo) :
    Suspended s took pause l (l.foldl f s) :=
  foldl_taken f (Suspended s took pause) (Suspended.nil s) (fun _ a _ h => h.append hf a) l

/-- The orders after the event, as the statements say it. -/
theorem Suspended.ordersTook {s t : State} {l : List HoseNo} (h : Suspended s took pause l t) :
    OrdersTook s t (· ∈ l) took fun _ o => o := by
  intro i
  rw [h.orders, mapSteps_get]
  refine ⟨fun ho => by rw [ho]; rfl, fun o ho => ⟨_, by rw [ho]; rfl, by simp, fun k st w hst hw => ?_⟩⟩
  rw [List.getElem?_mapIdx, hst] at hw
  cases hw
  have hs : HasStep s ⟨i, k⟩ st := ⟨o, ho, hst⟩
  constructor
  · rintro ⟨x, hx, hr, -⟩
    exact if_pos (touchedBy_iff.mpr ⟨x, hx, hr⟩)
  · refine fun hn => if_neg fun ht => ?_
    obtain ⟨x, hx, hr⟩ := touchedBy_iff.mp ht
    exact hn x hx ⟨hr, hs⟩

end

end Sys2Proof.Machine
end

section
/-! SUPPORT. The power-fail warning (R20, R45, R194). -/

namespace Sys2Proof.Machine

open Sys2Proof.Safety

theorem State.suspend_eq {s : State} {r : StepRef} {st : Step} (h : HasStep s r st) (x : SuspendReason) :
    s.suspend r st x = { s with
      hoses := s.hoses.modify st.hose suspendedChannel, orders := putStep s r (suspendedStep x st) } :=
  State.modStep_eq (s := s.modHose st.hose Channel.closeValve) h _

theorem warnedStep_running {st : Step} (h : Running st) : warnedStep st = suspendedStep .power st := if_pos h

theorem warnedStep_reason {st : Step} (h : st.state = .suspended ∨ st.state = .waitingCouple) :
    warnedStep st = { st with suspension := some .power } := by
  have hr : ¬ Running st := by rcases h with h | h <;> simp [Running, h]
  rw [warnedStep, if_neg hr, if_pos h]

theorem warnedStep_other {st : Step} (hr : ¬ Running st) (hs : st.state ≠ .suspended) (hw : st.state ≠ .waitingCouple) :
    warnedStep st = st := by
  rw [warnedStep, if_neg hr, if_neg (by simp [hs, hw])]

/-- What the warning leaves of a step's state. -/
theorem warnedStep_state (st : Step) : (warnedStep st).state = if Running st then .suspended else st.state := by
  unfold warnedStep suspendedStep
  split <;> [rfl; (split <;> rfl)]

theorem State.warnedAt_suspends : Suspends State.warnedAt warnedStep fun k => { k with coupleTimer := none } where
  idle t h hn := by rw [State.warnedAt, hn]
  runs t h q w hq hr := by
    rw [State.warnedAt, hq, warnedStep_running hr]
    simp only [(Step.isRunning_iff w).mpr hr, if_true]
    exact State.suspend_eq (State.hoseStep_eq_some.mp hq).2 .power
  waits t h q w hq hw := by
    have hr : ¬ w.isRunning = true := by simp [Step.isRunning, hw]
    have hs : w.state ≠ .suspended := by simp [hw]
    rw [State.warnedAt, hq, warnedStep_reason (.inr hw)]
    dsimp only
    rw [if_neg hr, if_neg hs, if_pos hw]
    exact State.modStep_eq (s := t.modHose h _) (State.hoseStep_eq_some.mp hq).2 _
  other t h q w hq hr hw := by
    have hw' := (State.hoseStep_eq_some.mp hq).2
    rw [State.warnedAt, hq]
    dsimp only
    rw [if_neg (fun e => hr ((Step.isRunning_iff w).mp e))]
    by_cases hs : w.state = .suspended
    · rw [if_pos hs, warnedStep_reason (.inl hs)]
      exact State.modStep_eq hw' _
    · rw [if_neg hs, if_neg hw, warnedStep_other hr hs hw, putStep_self hw']
  took_took w := by
    by_cases hr : Running w
    · rw [warnedStep_running hr, warnedStep_reason (.inl rfl)]; rfl
    by_cases hs : w.state = .suspended ∨ w.state = .waitingCouple
    · rw [warnedStep_reason hs]
      exact warnedStep_reason hs
    · push Not at hs
      rw [warnedStep_other hr hs.1 hs.2, warnedStep_other hr hs.1 hs.2]
  took_running w := by
    unfold Running
    rw [warnedStep_state]
    split
    · simp
    · assumption
  took_waiting w := by
    rw [warnedStep_state]
    split
    · next hr => rcases hr with hr | hr <;> simp [hr]
    · rfl
  pause_pause _ := rfl
  pause_suspended _ := rfl
  pause_step _ := rfl

/-! ## The warning at the orders (R20) -/

/-- The order goes to HELD at the warning and was not there (R20). -/
def goesToHeld (o : Order) : Bool :=
  decide (o.state ≠ .ending ∧ o.state ≠ .held) && !o.steps.any fun st => decide (st.state = .settling)

theorem warnedOrder_eq (o : Order) : warnedOrder o = if o.state = .ending then o
    else if o.hasSettling = true then { o with state := .holdPending, hold := some .power } else o.toHeld .power := by
  unfold warnedOrder Order.hasSettling Order.toHeld
  split
  · rfl
  · split <;> rfl

theorem goesToHeld_eq (o : Order) : goesToHeld o = (decide (o.state ≠ .ending ∧ o.state ≠ .held) && !o.hasSettling) := rfl

theorem State.warnOrder_eq (s : State) (i : IslandNo) :
    s.warnOrder i = { s with
      orders := s.orders.modify i (Option.map warnedOrder)
      ports := raised s (if (s.orders.get i).any goesToHeld then [noticeAt .orderHeld i] else []) } := by
  unfold State.warnOrder
  cases ho : s.orders.get i with
  | none => simp [raised_nil, Table.modify_id, ho]
  | some o =>
    have hm : s.orders.modify i (Option.map warnedOrder) = putOrder s i (warnedOrder o) := by
      rw [Table.modify, ho, Option.map_some]; rfl
    dsimp only
    rw [hm, warnedOrder_eq, Option.any_some, goesToHeld_eq]
    by_cases he : o.state = .ending
    · simp [he, raised_nil, putOrder_self ho]
    · rw [if_neg he, if_neg he]
      cases hs : o.hasSettling
      · by_cases hh : o.state = .held
        · simp [hh, State.modOrder_eq ho, raised_nil]
        · simp only [he, hh, if_false, Bool.false_eq_true, State.modOrder_eq ho, State.raiseAt_eq, ne_eq,
            not_false_eq_true, and_self, decide_true, Bool.not_false, Bool.and_self, if_true]
          congr 1
          exact raised_congr _ rfl rfl
      · simp [State.modOrder_eq ho, raised_nil]

/-- The warning at the orders of some islands. -/
theorem State.warnOrders_eq (s : State) (l : List IslandNo) (hl : l.Nodup) :
    l.foldl State.warnOrder s = { s with
      orders := (l.foldl State.warnOrder s).orders
      ports := raised s ((l.filter fun i => (s.orders.get i).any goesToHeld).map (noticeAt .orderHeld)) }
      ∧ ∀ j, (l.foldl State.warnOrder s).orders.get j
        = if j ∈ l then (s.orders.get j).map warnedOrder else s.orders.get j := by
  refine foldl_taken State.warnOrder (fun l u => l.Nodup → u = { s with
      orders := u.orders
      ports := raised s ((l.filter fun i => (s.orders.get i).any goesToHeld).map (noticeAt .orderHeld)) }
      ∧ ∀ j, u.orders.get j = if j ∈ l then (s.orders.get j).map warnedOrder else s.orders.get j) ?_ ?_ l hl
  · exact fun _ => ⟨by simp [raised_nil], by simp⟩
  · intro l a u ih hl
    obtain ⟨hl, -, hd⟩ := List.nodup_append.mp hl
    have ha : a ∉ l := fun h => hd a h a (by simp) rfl
    obtain ⟨hu, ho⟩ := ih hl
    have hoa : u.orders.get a = s.orders.get a := by rw [ho, if_neg ha]
    constructor
    · rw [State.warnOrder_eq, hoa, List.filter_append, List.map_append, raised_append]
      rw [hu]
      congr 1
      cases hg : (s.orders.get a).any goesToHeld <;> simp only [hg, List.filter_singleton, Bool.false_eq_true, if_false,
        if_true] <;> exact raised_congr _ rfl rfl
    · intro j
      rw [State.warnOrder_eq]
      simp only [Table.modify_get, ho, List.mem_append, List.mem_singleton]
      by_cases hj : j = a
      · subst hj; simp [ha]
      · simp [hj]

/-- The warning leaves it as it was whether a step of a list is SETTLING (R45). -/
theorem any_settling_warned (l : List Step) (c : Nat → Bool) :
    ((l.mapIdx fun k st => if c k then warnedStep st else st).any fun st => decide (st.state = .settling))
      = l.any fun st => decide (st.state = .settling) := by
  have hw (st : Step) : (warnedStep st).state = .settling ↔ st.state = .settling := by
    rw [warnedStep_state]
    split
    · next hr => rcases hr with hr | hr <;> simp [hr]
    · rfl
  rw [Bool.eq_iff_iff, List.any_eq_true, List.any_eq_true]
  simp only [List.mem_iff_getElem?, List.getElem?_mapIdx, Option.map_eq_some_iff, decide_eq_true_eq]
  constructor
  · rintro ⟨_, ⟨n, st, hn, rfl⟩, hs⟩
    refine ⟨st, ⟨n, hn⟩, ?_⟩
    split at hs
    · exact (hw st).mp hs
    · exact hs
  · rintro ⟨st, ⟨n, hn⟩, hs⟩
    refine ⟨_, ⟨n, st, hn, rfl⟩, ?_⟩
    split
    · exact (hw st).mpr hs
    · exact hs

theorem newlyHeld_eq (s : State) : newlyHeld s = allIslands.filter fun i => (s.orders.get i).any goesToHeld := by
  unfold newlyHeld
  refine List.filter_congr fun i _ => ?_
  cases s.orders.get i <;> rfl

theorem warnedOrder_steps (o : Order) (steps : List Step)
    (h : (steps.any fun st => decide (st.state = .settling)) = o.steps.any fun st => decide (st.state = .settling)) :
    warnedOrder { o with steps := steps } = { warnedOrder o with steps := steps } := by
  unfold warnedOrder
  split
  · rfl
  · rw [h]

theorem newlyHeld_suspended {s t : State} {l : List HoseNo} {pause : Channel → Channel}
    (h : Suspended s warnedStep pause l t) :
    newlyHeld s = allIslands.filter fun i => (t.orders.get i).any goesToHeld := by
  rw [newlyHeld_eq]
  refine List.filter_congr fun i _ => ?_
  rw [h.orders, mapSteps_get]
  cases s.orders.get i with
  | none => rfl
  | some o => simp only [Option.map_some, Option.any_some, goesToHeld, any_settling_warned]

/-- The orders take the warning after the channels (R194). -/
theorem Suspended.warnOrders {s t : State} {l : List HoseNo} {pause : Channel → Channel}
    (h : Suspended s warnedStep pause l t) : ∃ orders, allIslands.foldl State.warnOrder t = { s with
      ports := raised s ((newlyHeld s).map (noticeAt .orderHeld)), hoses := t.hoses, orders := orders }
    ∧ ∀ i, orders.get i = (s.orders.get i).map fun o => { warnedOrder o with
        steps := o.steps.mapIdx fun k st => if touchedBy s l ⟨i, k⟩ then warnedStep st else st } := by
  obtain ⟨hu, ho⟩ := State.warnOrders_eq t allIslands (List.nodup_finRange 4)
  rw [← newlyHeld_suspended h] at hu
  refine ⟨(allIslands.foldl State.warnOrder t).orders, ?_, fun i => ?_⟩
  · generalize allIslands.foldl State.warnOrder t = u at hu
    have hc : t.cfg = s.cfg := by rw [h.only]
    have hp : t.ports = s.ports := by rw [h.only]
    rw [raised_congr _ hc hp, h.only] at hu
    exact hu
  · rw [ho, if_pos (mem_allIslands i), h.orders, mapSteps_get, Option.map_map]
    congr 1
    funext o
    exact warnedOrder_steps o _ (any_settling_warned _ _)

theorem State.settleAll_of_nil {u : State} (he : u.ends = []) : u.settleAll = u.alignOutputs := by
  rw [State.settleAll, State.drain_of_nil he]

theorem State.whileRunning_of {s : State} (h : s.running = true) (f : State → State) : s.whileRunning f = f s := if_pos h

/-- The state in which the warning reaches the channels (R194). -/
def supplyWarned (s : State) : State :=
  { s with pins := { s.pins with warning := true }, supply := { s.supply with state := .hold, warning := true } }

theorem exec_warningAsserted {s : State} (hr : s.running = true) (hw : s.supply.warning = false) :
    exec .powerFailWarningAsserted s
      = .next (allIslands.foldl State.warnOrder (allHoses.foldl State.warnedAt (supplyWarned s))).settleAll := by
  have hr' : (s.modPins fun p => { p with warning := true }).running = true := hr
  have hw' : ¬ (s.modPins fun p => { p with warning := true }).supply.warning = true := by
    rw [State.modPins_supply, hw]; decide
  rw [exec, execPowerFailWarningAsserted, State.whileRunning_of hr', if_neg hw']
  rfl

/-- Settles O48: the channels take the warning one after another (`State.warnedAt_suspends`), then the orders
(`State.warnOrders_eq`), and the end of the command brings the outputs into line. -/
theorem powerFailWarningHoldsTheBay : Obligations.PowerFailWarningHoldsTheBay := by
  intro s hS any pauses
  have hrun : ∀ b, (s.modPins fun p => { p with warning := b }).running = true := fun _ => hS.1
  refine ⟨fun hw => ?_, fun hw => ?_, fun hw => ?_⟩
  · rw [exec, execPowerFailWarningAsserted, State.whileRunning_of (hrun true)]
    exact congrArg _ (if_pos hw)
  · have ht := State.warnedAt_suspends.foldl (supplyWarned s) allHoses
    rw [exec_warningAsserted hS.1 hw]
    generalize allHoses.foldl State.warnedAt (supplyWarned s) = t at ht
    obtain ⟨orders, hu, ho⟩ := ht.warnOrders
    have hports : raised (supplyWarned s) ((newlyHeld (supplyWarned s)).map (noticeAt .orderHeld))
        = raised s ((newlyHeld s).map (noticeAt .orderHeld)) := raised_congr _ rfl rfl
    rw [hu, State.settleAll_of_nil (by exact hS.2), hports]
    refine ⟨_, rfl, rfl, State.alignOutputs_follow rfl, fun i => ?_, fun h => ?_⟩
    · change (s.orders.get i = none → orders.get i = none) ∧ ∀ o, s.orders.get i = some o → ∃ steps,
        orders.get i = some { warnedOrder o with steps } ∧ _
      rw [ho]
      refine ⟨fun h => by rw [show (supplyWarned s).orders = s.orders from rfl, h]; rfl, fun o h => ?_⟩
      refine ⟨_, by rw [show (supplyWarned s).orders = s.orders from rfl, h]; rfl, by simp, fun k st w hk hw => ?_⟩
      rw [List.getElem?_mapIdx, hk] at hw
      cases hw
      have hs : HasStep s ⟨i, k⟩ st := ⟨o, h, hk⟩
      constructor
      · rintro ⟨x, -, hx, -⟩
        exact if_pos (touchedBy_iff.mpr ⟨x, mem_allHoses x, hx⟩)
      · refine fun hn => if_neg fun e => ?_
        obtain ⟨x, -, hx⟩ := touchedBy_iff.mp e
        exact hn x trivial ⟨hx, hs⟩
    · obtain ⟨k, h₁, h₂, h₃, h₄⟩ := ht.hoses h
      have hr : RunsAt s any h ↔ RunsAt (supplyWarned s) (· ∈ allHoses) h := by
        simp only [RunsAt, mem_allHoses, any]; rfl
      have hp : pauses h ↔ PausesAt (supplyWarned s) allHoses h := by
        simp only [PausesAt, mem_allHoses, true_and, pauses]; rfl
      exact ⟨k, fun e => h₁ (hr.mp e), fun e => h₂ fun e' => e (hr.mpr e'), fun e => h₃ (hp.mp e),
        fun e => h₄ fun e' => e (hp.mpr e')⟩
  · rw [exec, execPowerFailWarningNegated, State.whileRunning_of (hrun false)]
    exact congrArg _ (if_pos hw)

end Sys2Proof.Machine
end

section
/-! SUPPORT. The checks of ORDER_ADMIT (R3, R4) in the words of the statements. -/

namespace Sys2Proof.Machine

open Sys2Proof.Safety

@[simp] theorem firstFail_nil : firstFail [] = none := rfl

@[simp] theorem firstFail_cons (b : Bool) (c : Code) (rest : List (Bool × Code)) :
    firstFail ((b, c) :: rest) = if b then firstFail rest else some c := by
  cases b <;> rfl

theorem allSome_eq_some {α : Type} {l : List (Option α)} {m : List α} : allSome l = some m ↔ l = m.map some := by
  induction l generalizing m with
  | nil => cases m <;> simp [allSome]
  | cons a l ih =>
    cases a with
    | none => cases m <;> simp [allSome]
    | some a =>
      simp only [allSome, Option.map_eq_some_iff, ih]
      constructor
      · rintro ⟨m, rfl, rfl⟩; rfl
      · cases m with
        | nil => simp
        | cons b m => intro h; cases h; exact ⟨m, rfl, rfl⟩

/-! ## One step of the body (R4, R203) -/

theorem StepNames.unique {s : State} {a : AdmitStep} {kind kind' : StepKind} {h h' : HoseNo} {k k' : TankNo}
    (n : StepNames s a kind h k) (n' : StepNames s a kind' h' k') : kind = kind' ∧ h = h' ∧ k = k' := by
  obtain ⟨hk, hh, ht⟩ := n
  obtain ⟨hk', hh', ht'⟩ := n'
  cases hk.symm.trans hk'
  cases Fin.ext (hh.symm.trans hh')
  cases ht.symm.trans ht'
  exact ⟨rfl, rfl, rfl⟩

theorem StepKindDraws_iff (k : StepKind) : StepKindDraws k = true ↔ k = .preset ∨ k = .openFill := by
  simp [StepKindDraws]

theorem StepKindPreset_iff (k : StepKind) : StepKindPreset k = true ↔ k = .preset ∨ k = .presetRecover := by
  simp [StepKindPreset]

theorem presetOk_iff (k : StepKind) (n : Nat) : presetOk k n = true ↔
    if k = .preset ∨ k = .presetRecover then 1 ≤ n ∧ n ≤ 2000000000 else n = 0 := by
  unfold presetOk
  rw [if_congr (StepKindPreset_iff k) rfl rfl]
  split
  · simp only [within, Bool.and_eq_true, decide_eq_true_eq]; rfl
  · rw [decide_eq_true_eq]

/-- The PENDING step that a well-formed step of the body gives. -/
theorem stepOf_eq_some {s : State} {i : IslandNo} {capacity : Nat} {a : AdmitStep} {st : Step} :
    stepOf s i capacity a = some st ↔ GoodStep s i a ∧ ∃ kind h k, StepNames s a kind h k
      ∧ st = newStep a kind h (captureContext s h k kind capacity) := by
  have key (kind : StepKind) (h : HoseNo) (k : TankNo) (hn : StepNames s a kind h k) :
      stepOf s i capacity a = some st ↔ GoodStep s i a ∧ st = newStep a kind h (captureContext s h k kind capacity) := by
    have hg : GoodStep s i a ↔ ((s.cfg.hoses.get h).enabled && decide ((s.cfg.hoses.get h).island = i)
        && (s.cfg.fluids.get (s.cfg.tanks.get k).fluid).isDefined
        && decide ((s.cfg.tanks.get k).role = if StepKindDraws kind then .supply else .waste) && presetOk kind a.preset
        && flagsOk a.flags && !(a.flags.getLsbD 0 && a.flags.getLsbD 1)) = true := by
      have he : GoodStep s i a ↔ (s.cfg.hoses.get h).enabled = true ∧ (s.cfg.hoses.get h).island = i
          ∧ (s.cfg.fluids.get (s.cfg.tanks.get k).fluid).isDefined = true
          ∧ (s.cfg.tanks.get k).role = (if kind = .preset ∨ kind = .openFill then .supply else .waste)
          ∧ (if kind = .preset ∨ kind = .presetRecover then 1 ≤ a.preset ∧ a.preset ≤ 2000000000 else a.preset = 0)
          ∧ a.flags.toNat < 8 ∧ ¬ (a.flags.getLsbD 0 = true ∧ a.flags.getLsbD 1 = true) := by
        constructor
        · rintro ⟨kind', h', k', hn', hrest⟩
          obtain ⟨rfl, rfl, rfl⟩ := StepNames.unique hn hn'
          exact hrest
        · exact fun hrest => ⟨kind, h, k, hn, hrest⟩
      rw [he]
      simp only [Bool.and_eq_true, decide_eq_true_eq, presetOk_iff, flagsOk, Bool.not_eq_true',
        if_congr (StepKindDraws_iff kind) rfl rfl, ← Bool.not_eq_true]
      tauto
    obtain ⟨hk, hh, ht⟩ := hn
    simp only [stepOf, hk, hh, hoseOf_val, ht]
    rw [hg]
    generalize (_ && _ : Bool) = b
    cases b <;> simp [eq_comm]
  constructor
  · intro hs
    have hn : ∃ kind h k, StepNames s a kind h k := by
      cases hk : a.kind with
      | none => simp [stepOf, hk] at hs
      | some kind =>
        cases hh : hoseOf a.hose with
        | none => simp [stepOf, hk, hh] at hs
        | some h =>
          cases ht : (s.cfg.hoses.get h).tank with
          | none => simp [stepOf, hk, hh, ht] at hs
          | some k =>
            have hlt : a.hose < 16 := by
              by_contra hlt
              rw [hoseOf, unitOf_of_le (by omega)] at hh
              cases hh
            rw [hoseOf, unitOf_of_lt hlt] at hh
            cases hh
            exact ⟨kind, _, k, hk, rfl, ht⟩
    obtain ⟨kind, h, k, hn⟩ := hn
    obtain ⟨hg, he⟩ := (key kind h k hn).mp hs
    exact ⟨hg, kind, h, k, hn, he⟩
  · rintro ⟨hg, kind, h, k, hn, he⟩
    exact (key kind h k hn).mpr ⟨hg, he⟩

/-! ## The step list (R4) -/

/-- A body and the steps it gives agree place by place. -/
def BodyGives (s : State) (i : IslandNo) (capacity : Nat) (l : List AdmitStep) (steps : List Step) : Prop :=
  l.map (stepOf s i capacity) = steps.map some

theorem BodyGives.length {s : State} {i : IslandNo} {capacity : Nat} {l : List AdmitStep} {steps : List Step}
    (h : BodyGives s i capacity l steps) : steps.length = l.length := by
  have := congrArg List.length h
  simpa using this.symm

theorem BodyGives.get {s : State} {i : IslandNo} {capacity : Nat} {l : List AdmitStep} {steps : List Step}
    (h : BodyGives s i capacity l steps) (n : Nat) :
    (l[n]?).map (stepOf s i capacity) = (steps[n]?).map some := by
  rw [← List.getElem?_map, ← List.getElem?_map, h]

theorem BodyGives.of_get {s : State} {i : IslandNo} {capacity : Nat} {l : List AdmitStep} {steps : List Step}
    (h : BodyGives s i capacity l steps) {n : Nat} {a : AdmitStep} {st : Step} (ha : l[n]? = some a)
    (hst : steps[n]? = some st) : stepOf s i capacity a = some st := by
  have := h.get n
  rw [ha, hst] at this
  exact Option.some.inj this

theorem BodyGives.step_of {s : State} {i : IslandNo} {capacity : Nat} {l : List AdmitStep} {steps : List Step}
    (h : BodyGives s i capacity l steps) {n : Nat} {a : AdmitStep} (ha : l[n]? = some a) : ∃ st, steps[n]? = some st := by
  have := h.get n
  rw [ha] at this
  cases hst : steps[n]? with
  | none => rw [hst] at this; cases this
  | some st => exact ⟨st, rfl⟩

theorem BodyGives.body_of {s : State} {i : IslandNo} {capacity : Nat} {l : List AdmitStep} {steps : List Step}
    (h : BodyGives s i capacity l steps) {n : Nat} {st : Step} (hst : steps[n]? = some st) : ∃ a, l[n]? = some a := by
  have := h.get n
  rw [hst] at this
  cases ha : l[n]? with
  | none => rw [ha] at this; cases this
  | some a => exact ⟨a, rfl⟩

theorem stepOf_isParallel {s : State} {i : IslandNo} {capacity : Nat} {a : AdmitStep} {st : Step}
    (h : stepOf s i capacity a = some st) : st.isParallel = a.flags.getLsbD 0 := by
  obtain ⟨-, kind, x, k, -, rfl⟩ := stepOf_eq_some.mp h
  rfl

theorem stepOf_hose {s : State} {i : IslandNo} {capacity : Nat} {a : AdmitStep} {st : Step}
    (h : stepOf s i capacity a = some st) : a.hose = st.hose.val := by
  obtain ⟨-, kind, x, k, ⟨-, hh, -⟩, rfl⟩ := stepOf_eq_some.mp h
  exact hh

theorem BodyGives.group {s : State} {i : IslandNo} {capacity : Nat} {l : List AdmitStep} {steps : List Step}
    (h : BodyGives s i capacity l steps) (n : Nat) : groupOf steps n = bodyGroup l n := by
  have hm : steps.map (·.isParallel) = l.map (·.flags.getLsbD 0) := by
    refine List.ext_getElem? fun k => ?_
    rw [List.getElem?_map, List.getElem?_map]
    cases ha : l[k]? with
    | none =>
      have : steps[k]? = none := by rw [List.getElem?_eq_none_iff] at ha ⊢; rw [h.length]; exact ha
      rw [this]; rfl
    | some a =>
      obtain ⟨st, hst⟩ := h.step_of ha
      rw [hst]
      exact congrArg some (stepOf_isParallel (h.of_get ha hst))
  have e₁ : groupOf steps n = ((steps.map (·.isParallel)).take (n + 1)).countP (!·) := by
    rw [groupOf, ← List.countP_eq_length_filter, ← List.map_take, List.countP_map]; rfl
  have e₂ : bodyGroup l n = ((l.map (·.flags.getLsbD 0)).take (n + 1)).countP (!·) := by
    rw [bodyGroup, ← List.countP_eq_length_filter, ← List.map_take, List.countP_map]; rfl
  rw [e₁, e₂, hm]

theorem hosesDistinct_iff (steps : List Step) : hosesDistinct steps = true ↔
    ∀ (j k : Nat) (v w : Step), j ≠ k → steps[j]? = some v → steps[k]? = some w → groupOf steps j = groupOf steps k →
      v.hose ≠ w.hose := by
  unfold hosesDistinct
  simp only [List.all_eq_true, Bool.or_eq_true, decide_eq_true_eq, Prod.forall, List.mem_zipIdx_iff_getElem?]
  constructor
  · intro h j k v w hjk hv hw hg
    rcases h v j hv w k hw with (e | e) | e
    · exact absurd e hjk
    · exact e
    · exact absurd hg e
  · intro h v j hv w k hw
    by_cases hjk : j = k
    · exact .inl (.inl hjk)
    by_cases hg : groupOf steps j = groupOf steps k
    · exact .inl (.inr (h j k v w hjk hv hw hg))
    · exact .inr hg

/-- The step list that check 10 accepts gives a step for each step of the body (R4). -/
theorem stepsOfBody_eq_some {s : State} {i : IslandNo} {capacity : Nat} {l : List AdmitStep} {steps : List Step} :
    stepsOfBody s i capacity l = some steps ↔ GoodSteps s i l ∧ BodyGives s i capacity l steps := by
  have hdistinct (h : BodyGives s i capacity l steps) : hosesDistinct steps = true ↔
      ∀ (j k : Nat) (a b : AdmitStep), j ≠ k → l[j]? = some a → l[k]? = some b → bodyGroup l j = bodyGroup l k →
        a.hose ≠ b.hose := by
    rw [hosesDistinct_iff]
    constructor
    · intro hd j k a b hjk ha hb hg
      obtain ⟨v, hv⟩ := h.step_of ha
      obtain ⟨w, hw⟩ := h.step_of hb
      rw [stepOf_hose (h.of_get ha hv), stepOf_hose (h.of_get hb hw)]
      rw [← h.group, ← h.group] at hg
      exact fun e => hd j k v w hjk hv hw hg (Fin.ext e)
    · intro hd j k v w hjk hv hw hg
      obtain ⟨a, ha⟩ := h.body_of hv
      obtain ⟨b, hb⟩ := h.body_of hw
      rw [h.group, h.group] at hg
      intro e
      have := hd j k a b hjk ha hb hg
      rw [stepOf_hose (h.of_get ha hv), stepOf_hose (h.of_get hb hw)] at this
      exact this (congrArg _ e)
  have hhead (h : BodyGives s i capacity l steps) (hl : 1 ≤ l.length) :
      ((steps.head?.map (·.isParallel)).getD true = false)
        ↔ ∀ a, l.head? = some a → a.flags.getLsbD 0 = false := by
    cases l with
    | nil => simp at hl
    | cons a l =>
      obtain ⟨st, hst⟩ := h.step_of (n := 0) (a := a) rfl
      have hp := stepOf_isParallel (h.of_get (n := 0) rfl hst)
      rw [List.head?_eq_getElem?, hst]
      simp only [Option.map_some, Option.getD_some, hp, List.head?_cons, Option.some.injEq, forall_eq']
  have hall (h : BodyGives s i capacity l steps) : ∀ a ∈ l, GoodStep s i a := by
    intro a ha
    obtain ⟨n, hn⟩ := List.mem_iff_getElem?.mp ha
    obtain ⟨st, hst⟩ := h.step_of hn
    exact (stepOf_eq_some.mp (h.of_get hn hst)).1
  unfold stepsOfBody
  constructor
  · intro hs
    split at hs
    · next hw =>
      simp only [within, Bool.and_eq_true, decide_eq_true_eq] at hw
      split at hs
      · next m hm =>
        have hb := allSome_eq_some.mp hm
        split at hs
        · cases hs
        · next hp =>
          split at hs
          · next hd =>
            cases hs
            rw [Bool.not_eq_true] at hp
            exact ⟨⟨hw.1, hw.2, hall hb, (hhead hb hw.1).mp hp, (hdistinct hb).mp hd⟩, hb⟩
          · cases hs
      · cases hs
    · cases hs
  · rintro ⟨⟨h₁, h₈, -, hp, hd⟩, hb⟩
    have hp' := (hhead hb h₁).mpr hp
    simp [within, h₁, h₈, allSome_eq_some.mpr hb, hp', (hdistinct hb).mpr hd]

/-- A body that check 10 accepts gives its steps (R4). -/
theorem GoodSteps.gives {s : State} {i : IslandNo} (capacity : Nat) {l : List AdmitStep} (h : GoodSteps s i l) :
    ∃ steps, stepsOfBody s i capacity l = some steps := by
  obtain ⟨-, -, hall, -⟩ := id h
  have : ∃ steps, BodyGives s i capacity l steps := by
    clear h
    induction l with
    | nil => exact ⟨[], rfl⟩
    | cons a l ih =>
      obtain ⟨steps, hs⟩ := ih fun b hb => hall b (List.mem_cons_of_mem _ hb)
      have hg := hall a (List.mem_cons_self ..)
      obtain ⟨kind, x, k, hn, -⟩ := id hg
      refine ⟨newStep a kind x (captureContext s x k kind capacity) :: steps, ?_⟩
      rw [BodyGives, List.map_cons, List.map_cons, stepOf_eq_some.mpr ⟨hg, kind, x, k, hn, rfl⟩, hs]
  obtain ⟨steps, hb⟩ := this
  exact ⟨steps, stepsOfBody_eq_some.mpr ⟨h, hb⟩⟩

/-! ## Checks 11 and 12 (R3) -/

theorem BodyGives.latched_iff {s : State} {i : IslandNo} {capacity : Nat} {l : List AdmitStep} {steps : List Step}
    (h : BodyGives s i capacity l steps) : steps.any (stepShut s) = true ↔ NamesLatched s l := by
  rw [List.any_eq_true]
  constructor
  · rintro ⟨st, hm, hs⟩
    obtain ⟨n, hn⟩ := List.mem_iff_getElem?.mp hm
    obtain ⟨a, ha⟩ := h.body_of hn
    obtain ⟨-, kind, x, k, hk, rfl⟩ := stepOf_eq_some.mp (h.of_get ha hn)
    exact ⟨a, List.mem_of_getElem? ha, kind, x, k, hk, (s.entryAt_isSome_or _ _).mp hs⟩
  · rintro ⟨a, hm, kind, x, k, hk, hs⟩
    obtain ⟨n, hn⟩ := List.mem_iff_getElem?.mp hm
    obtain ⟨st, hst⟩ := h.step_of hn
    obtain ⟨-, kind', x', k', hk', rfl⟩ := stepOf_eq_some.mp (h.of_get hn hst)
    obtain ⟨rfl, rfl, rfl⟩ := StepNames.unique hk hk'
    exact ⟨_, List.mem_of_getElem? hst, (s.entryAt_isSome_or _ _).mpr hs⟩

theorem fluidPermitted_false_iff (a : Account) (st : Step) : fluidPermitted a st = false ↔
    (st.kind = .preset ∨ st.kind = .openFill) ∧ a.fluids.getLsbD st.ctx.fluid.val = false := by
  unfold fluidPermitted
  rw [Bool.or_eq_false_iff, Bool.not_eq_false', StepKindDraws_iff]

theorem BodyGives.forbidden_iff {s : State} {i : IslandNo} {capacity : Nat} {l : List AdmitStep} {steps : List Step}
    (h : BodyGives s i capacity l steps) (a : Account) :
    steps.all (fluidPermitted a) = false ↔ NamesForbiddenFluid s a l := by
  rw [List.all_eq_false]
  constructor
  · rintro ⟨st, hm, hs⟩
    obtain ⟨n, hn⟩ := List.mem_iff_getElem?.mp hm
    obtain ⟨x, hx⟩ := h.body_of hn
    obtain ⟨-, kind, y, k, hk, rfl⟩ := stepOf_eq_some.mp (h.of_get hx hn)
    obtain ⟨hd, hf⟩ := (fluidPermitted_false_iff _ _).mp (Bool.not_eq_true _ ▸ hs)
    exact ⟨x, List.mem_of_getElem? hx, kind, y, k, hk, hd, hf⟩
  · rintro ⟨x, hm, kind, y, k, hk, hd, hf⟩
    obtain ⟨n, hn⟩ := List.mem_iff_getElem?.mp hm
    obtain ⟨st, hst⟩ := h.step_of hn
    obtain ⟨-, kind', x', k', hk', rfl⟩ := stepOf_eq_some.mp (h.of_get hn hst)
    obtain ⟨rfl, rfl, rfl⟩ := StepNames.unique hk hk'
    refine ⟨_, List.mem_of_getElem? hst, ?_⟩
    rw [Bool.not_eq_true]
    exact (fluidPermitted_false_iff _ _).mpr ⟨hd, hf⟩

end Sys2Proof.Machine
end

section
namespace Sys2Proof.Machine

open Sys2Proof.Safety

/-! ## ORDER_ADMIT (R3) -/

theorem State.isPresent_iff (s : State) (i : IslandNo) : s.isPresent i = true ↔ (s.islands.get i).presence = .present :=
  decide_eq_true_iff

theorem State.supplyNormal_iff (s : State) : s.supplyNormal = true ↔ s.supply.state = .normal := decide_eq_true_iff

theorem SupplyState.ne_hold (x : SupplyState) : x ≠ .hold ↔ x = .normal := by cases x <;> simp

theorem hourOk_iff (h last : Option Nat) : hourOk h last = true ↔ ¬ ∃ x y, h = some x ∧ last = some y ∧ x < y := by
  unfold hourOk
  cases h <;> cases last <;> simp

theorem Journal.free_pos_iff (j : Journal) : decide (1 ≤ j.free) = true ↔ j.records.length + j.reserved < 64 := by
  rw [decide_eq_true_iff]
  show 1 ≤ 64 - j.records.length - j.reserved ↔ _
  omega

theorem orderAdmit_refused {f : AdmitFields} {s : State} {c : Code} (h : admissionChecks f s = .error c) :
    orderAdmit f s = (refuse c, s) := by rw [orderAdmit, h]

theorem orderAdmit_accepted {f : AdmitFields} {s : State} {i : IslandNo} {steps : List Step}
    (h : admissionChecks f s = .ok (i, steps)) :
    orderAdmit f s = ((.ok, admittedResults (s.createOrder f i steps) f),
      ((s.createOrder f i steps).nextGroup i).settleAll) := by
  rw [orderAdmit, h]

theorem admittedResults_eq (s : State) (f : AdmitFields) : ∃ due, admittedResults s f
    = .admitted due ((s.findAccount f.machine).any fun a => decide (a.state = .review)) := by
  unfold admittedResults
  cases s.findAccount f.machine with
  | none => exact ⟨[], rfl⟩
  | some a => exact ⟨_, rfl⟩

/-- Settles O32: the checks of `admissionChecks` fall in the order of the statement, checks 10 to 12 by
`stepsOfBody_eq_some`, `BodyGives.latched_iff` and `BodyGives.forbidden_iff`. -/
theorem admissionChecksInOrder : Obligations.AdmissionChecksInOrder := by
  intro l tag f s hA refused
  have refuses {c : Code} (h : admissionChecks f s = .error c) : refused c :=
    ⟨_, rfl, State.serve_only hA tag f orderAdmit (orderAdmit_refused h)⟩
  refine ⟨fun h => refuses (by rw [admissionChecks, islandOf_of_lt h]), fun i hi => ?_⟩
  obtain ⟨checked, hchecks⟩ : ∃ checked, admissionChecks f s = checked := ⟨_, rfl⟩
  have hdone := hchecks
  rw [admissionChecks, hi, islandOf_val] at hdone
  subst hdone
  simp only at hchecks
  by_cases h₁ : (s.cfg.islands.get i).enabled = false
  · rw [if_pos h₁]; exact refuses (by simp [hchecks, h₁])
  rw [if_neg h₁]
  rw [Bool.not_eq_false] at h₁
  by_cases h₂ : s.supply.state = .hold
  · have : s.supplyNormal = false := by simp [State.supplyNormal, h₂]
    rw [if_pos h₂]; exact refuses (by simp [hchecks, h₁, this])
  rw [if_neg h₂]
  replace h₂ : s.supplyNormal = true := (s.supplyNormal_iff).mpr ((SupplyState.ne_hold _).mp h₂)
  by_cases h₃ : (s.islands.get i).presence ≠ .present
  · have : s.isPresent i = false := by simp [State.isPresent, h₃]
    rw [if_pos h₃]; exact refuses (by simp [hchecks, h₁, h₂, this])
  rw [if_neg h₃]
  replace h₃ : s.isPresent i = true := (s.isPresent_iff i).mpr (not_not.mp h₃)
  by_cases h₄ : s.orders.get i ≠ none
  · have : (s.orders.get i).isNone = false := by simpa [Option.isNone_iff_eq_none, ← Bool.not_eq_true] using h₄
    rw [if_pos h₄]; exact refuses (by simp [hchecks, h₁, h₂, h₃, this])
  rw [if_neg h₄]
  replace h₄ : (s.orders.get i).isNone = true := Option.isNone_iff_eq_none.mpr (not_not.mp h₄)
  by_cases h₅ : s.entryAt (.island i) ≠ none ∨ s.entryAt .bay ≠ none
  · have : s.islandShut i = true := (s.entryAt_isSome_or _ _).mpr h₅
    rw [if_pos h₅]; exact refuses (by simp [hchecks, h₁, h₂, h₃, h₄, this])
  rw [if_neg h₅]
  replace h₅ : s.islandShut i = false := by
    rw [← Bool.not_eq_true]; exact fun e => h₅ ((s.entryAt_isSome_or _ _).mp e)
  simp only [h₁, h₂, h₃, h₄, h₅, firstFail_cons, firstFail_nil, Bool.not_false, if_true] at hchecks
  cases hacc : s.findAccount f.machine with
  | none => exact refuses (by simp [hchecks, hacc])
  | some a =>
  simp only [hacc] at hchecks ⊢
  by_cases h₇ : a.state = .blocked
  · rw [if_pos h₇]; exact refuses (by simp [hchecks, h₇])
  rw [if_neg h₇]
  by_cases h₈ : a.inUse ≠ none
  · have : a.inUse.isNone = false := by simpa [Option.isNone_iff_eq_none, ← Bool.not_eq_true] using h₈
    rw [if_pos h₈]; exact refuses (by simp [hchecks, h₇, this])
  rw [if_neg h₈]
  replace h₈ : a.inUse.isNone = true := Option.isNone_iff_eq_none.mpr (not_not.mp h₈)
  refine ⟨fun h₉ => ?_, fun h₉ => ?_⟩
  · have : hourOk f.hour a.lastHours = false := by
      rw [← Bool.not_eq_true, hourOk_iff]; exact not_not.mpr h₉
    exact refuses (by simp [hchecks, h₇, h₈, this])
  rw [← hourOk_iff] at h₉
  simp only [h₇, h₈, h₉, ne_eq, not_false_eq_true, decide_true, if_true] at hchecks
  refine ⟨fun h₁₀ => ?_, fun h₁₀ => ?_⟩
  · cases hb : stepsOfBody s i a.capacity f.steps with
    | none => exact refuses (by simp [hchecks, hb])
    | some steps => exact absurd (stepsOfBody_eq_some.mp hb).1 h₁₀
  obtain ⟨steps, hb⟩ := GoodSteps.gives a.capacity h₁₀
  have hgives := (stepsOfBody_eq_some.mp hb).2
  simp only [hb] at hchecks
  refine ⟨fun h₁₁ => refuses (by simp [hchecks, hgives.latched_iff.mpr h₁₁]), fun h₁₁ => ?_⟩
  replace h₁₁ : steps.any (stepShut s) = false := by
    rw [← Bool.not_eq_true, hgives.latched_iff]; exact h₁₁
  refine ⟨fun h₁₂ => refuses (by simp [hchecks, h₁₁, (hgives.forbidden_iff a).mpr h₁₂]), fun h₁₂ => ?_⟩
  replace h₁₂ : steps.all (fluidPermitted a) = true := by
    rw [← Bool.not_eq_false, hgives.forbidden_iff]; exact h₁₂
  refine ⟨fun h₁₃ => ?_, fun h₁₃ => ?_⟩
  · have : decide (1 ≤ s.journal.free) = false := by
      rw [← Bool.not_eq_true, Journal.free_pos_iff]; omega
    exact refuses (by rw [hchecks]; simp only [h₁₁, h₁₂, this, Bool.not_false, if_true]; rfl)
  · have hok : admissionChecks f s = .ok (i, steps) := by
      rw [hchecks]
      simp only [h₁₁, h₁₂, (Journal.free_pos_iff _).mpr h₁₃, Bool.not_false, if_true]
    obtain ⟨due, hr⟩ := admittedResults_eq (s.createOrder f i steps) f
    have hall := orderAdmit_accepted hok
    rw [hr] at hall
    exact ⟨⟨steps, hok⟩, _, due, _, _, rfl, State.serve_only hA tag f orderAdmit hall⟩

end Sys2Proof.Machine
end

section
/-! SUPPORT. Coverage, and the start of a group whose steps stand free (R9, R11, R30). -/

namespace Sys2Proof.Machine

open Sys2Proof.Safety

/-- A fold over a list keeps what it holds of each part taken so far. -/
theorem foldl_parts {α β : Type} (f : β → α → β) (P : List α → β → Prop) {b : β} {l : List α} (h₀ : P [] b)
    (h : ∀ p a q c, l = p ++ a :: q → P p c → P (p ++ [a]) (f c a)) : P l (l.foldl f b) := by
  have key : ∀ (q p : List α) (c : β), l = p ++ q → P p c → P l (q.foldl f c) := by
    intro q
    induction q with
    | nil => intro p c hl hp; rw [hl, List.append_nil]; exact hp
    | cons a q ih =>
      intro p c hl hp
      exact ih (p ++ [a]) (f c a) (by rw [hl, List.append_assoc]; rfl) (h p a q c hl hp)
  exact key l [] b rfl h₀

theorem mapIdx_congr {α β : Type} {l : List α} {f g : Nat → α → β} (h : ∀ n a, l[n]? = some a → f n a = g n a) :
    l.mapIdx f = l.mapIdx g := by
  refine List.ext_getElem? fun n => ?_
  rw [List.getElem?_mapIdx, List.getElem?_mapIdx]
  cases hn : l[n]? with
  | none => rfl
  | some a => exact congrArg some (h n a hn)

theorem notMem_of_nodup_part {α β : Type} {f : α → β} {p q : List α} {a : α} (h : ((p ++ a :: q).map f).Nodup) :
    f a ∉ p.map f := by
  rw [List.map_append, List.map_cons] at h
  exact fun hm => (List.nodup_append.mp h).2.2 _ hm _ (List.mem_cons_self ..) rfl

/-! ## An action on one step after another, each at its own hose -/

/-- The orders and the channels when the steps of `l` have taken an action, each at its own hose. -/
structure HosesTaken (s : State) (l : List (StepRef × Step)) (chan : StepRef → Step → Channel → Channel)
    (took : StepRef → Step → Step) (t : State) : Prop where
  orders : t.orders = mapSteps s fun q st => if q ∈ l.map (·.1) then took q st else st
  hoses : ∀ r st, (r, st) ∈ l → t.hoses.get st.hose = chan r st (s.hoses.get st.hose)
  others : ∀ h, (∀ r st, (r, st) ∈ l → st.hose ≠ h) → t.hoses.get h = s.hoses.get h

section
variable {s t u : State} {l : List (StepRef × Step)} {chan : StepRef → Step → Channel → Channel}
  {took : StepRef → Step → Step} {r : StepRef} {st : Step}

theorem HosesTaken.nil (s : State) (chan : StepRef → Step → Channel → Channel) (took : StepRef → Step → Step) :
    HosesTaken s [] chan took s :=
  ⟨(mapSteps_self fun _ _ _ => by simp).symm, by simp, fun _ _ => rfl⟩

theorem HosesTaken.hasStep (h : HosesTaken s l chan took t) (hnew : r ∉ l.map (·.1)) (hst : HasStep s r st) :
    HasStep t r st :=
  (hasStep_mapSteps h.orders).mpr ⟨st, hst, (if_neg hnew).symm⟩

theorem HosesTaken.append (h : HosesTaken s l chan took t) (hnew : r ∉ l.map (·.1)) (hst : HasStep s r st)
    (hhose : ∀ q w, (q, w) ∈ l → w.hose ≠ st.hose) (ho : u.orders = putStep t r (took r st))
    (hh : u.hoses = t.hoses.modify st.hose (chan r st)) : HosesTaken s (l ++ [(r, st)]) chan took u := by
  refine ⟨?_, fun q w hw => ?_, fun x hx => ?_⟩
  · rw [ho, putStep_mapSteps h.orders]
    refine mapSteps_congr fun q w hw => ?_
    simp only [List.map_append, List.map_cons, List.map_nil, List.mem_append, List.mem_singleton]
    by_cases hq : q = r
    · subst hq
      cases HasStep.unique hw hst
      simp
    · rw [if_neg hq]
      exact if_congr (by simp [hq]) rfl rfl
  · rw [hh]
    rcases List.mem_append.mp hw with hw | hw
    · rw [Table.modify_of_ne _ _ (hhose q w hw)]
      exact h.hoses q w hw
    · cases List.mem_singleton.mp hw
      rw [Table.modify_self, h.others _ hhose]
  · rw [hh, Table.modify_of_ne _ _ fun e => hx r st (by simp) e.symm]
    exact h.others x fun q w hw => hx q w (List.mem_append_left _ hw)

/-- The orders, when the steps are all of one island's order. -/
theorem HosesTaken.putOrder (h : HosesTaken s l chan took t) {i : IslandNo} {o : Order} (ho : s.orders.get i = some o)
    (hl : ∀ r st, (r, st) ∈ l → r.island = i) :
    t.orders = putOrder s i { o with
      steps := o.steps.mapIdx fun k st => if ⟨i, k⟩ ∈ l.map (·.1) then took ⟨i, k⟩ st else st } := by
  refine Table.ext_get fun j => ?_
  rw [h.orders, mapSteps_get, putOrder_get]
  split
  · next hj => subst hj; rw [ho]; rfl
  · next hj =>
    have hn (k : Nat) : (⟨j, k⟩ : StepRef) ∉ l.map (·.1) := by
      rintro hm
      obtain ⟨⟨q, w⟩, hm, rfl⟩ := List.mem_map.mp hm
      exact hj (hl _ _ hm)
    cases s.orders.get j with
    | none => rfl
    | some p => simp only [Option.map_some, hn, if_false, mapIdx_snd]

end

/-! ## Coverage (R154) -/

theorem State.stepCover_eq_none {s : State} {r : StepRef} {st : Step} : s.stepCover r st = none ↔ ¬ Covered s r st := by
  unfold State.stepCover State.firstCause Covered
  rw [List.findSome?_eq_none_iff]
  simp only [List.mem_cons, List.not_mem_nil, or_false, forall_eq_or_imp, forall_eq, Option.map_eq_none_iff]
  tauto

theorem State.stepCover_congr {s t : State} (h : t.shut = s.shut) (r : StepRef) (st : Step) :
    t.stepCover r st = s.stepCover r st := by
  simp only [State.stepCover, State.firstCause, State.entryAt, h]

theorem Covered.congr {s t : State} (h : t.shut = s.shut) {r : StepRef} {st : Step} : Covered t r st ↔ Covered s r st := by
  simp only [Covered, State.entryAt, h]

/-! ## The list of an order's steps -/

theorem State.stepsOf_eq {s : State} {i : IslandNo} {o : Order} (ho : s.orders.get i = some o) :
    s.stepsOf i = o.steps.zipIdx.map fun (st, k) => (⟨i, k⟩, st) := by
  rw [State.stepsOf, ho]

theorem State.stepsOf_nodup (s : State) (i : IslandNo) : ((s.stepsOf i).map (·.1)).Nodup := by
  cases ho : s.orders.get i with
  | none => simp [State.stepsOf, ho]
  | some o =>
    have : ((s.stepsOf i).map (·.1)) = (List.range o.steps.length).map fun k => (⟨i, k⟩ : StepRef) := by
      rw [State.stepsOf_eq ho, List.map_map]
      refine List.ext_getElem? fun n => ?_
      rw [List.getElem?_map, List.getElem?_map, List.getElem?_zipIdx]
      by_cases hn : n < o.steps.length <;> simp [hn]
    rw [this]
    refine List.nodup_range.map fun a b h => ?_
    exact congrArg StepRef.idx h

theorem State.mem_groupMembers {s : State} {i : IslandNo} {o : Order} (ho : s.orders.get i = some o) {g : Nat}
    {r : StepRef} {st : Step} :
    (r, st) ∈ s.groupMembers i o g ↔ r.island = i ∧ o.steps[r.idx]? = some st ∧ groupOf o.steps r.idx = g := by
  unfold State.groupMembers
  rw [List.mem_filter, State.mem_stepsOf, decide_eq_true_iff]
  constructor
  · rintro ⟨⟨rfl, p, hp, hs⟩, hg⟩
    cases ho.symm.trans hp
    exact ⟨rfl, hs, hg⟩
  · rintro ⟨rfl, hs, hg⟩
    exact ⟨⟨rfl, o, ho, hs⟩, hg⟩

/-! ## The start of one step (R30) -/

theorem State.tryClaim_of_uncoupled {s : State} {h : HoseNo}
    (hu : ∀ r w, s.hoseStep h = some (r, w) → (s.hoses.get w.hose).coupled = false) : s.tryClaim h = s := by
  unfold State.tryClaim
  cases hs : s.hoseStep h with
  | none => rfl
  | some p =>
    obtain ⟨r, w⟩ := p
    have : s.claimReady r w = false := by simp [State.claimReady, hu r w hs]
    simp [this]

theorem Step.started_eq (s : State) (st : Step) : st.started (s.tanks.get st.ctx.tank).gauge = startedStep s st := by
  have hc (x : Int) : clampTemp x = clamped x := rfl
  unfold Step.started Step.meterStart startedStep
  dsimp only
  split <;> rfl

/-- A free step that is started stands at its hose and waits (R30). -/
theorem State.startOne_free {s : State} {r : StepRef} {st : Step} (h : HasStep s r st) (hc : ¬ Covered s r st)
    (hu : (s.hoses.get st.hose).coupled = false) :
    s.startOne (r, st) = { s with
      hoses := s.hoses.modify st.hose (startedChannel r st), orders := putStep s r (startedStep s st) } := by
  have hm := State.modStep_eq (s := s.modHose st.hose (startedChannel r st)) h
    (Step.started ((s.modHose st.hose (startedChannel r st)).tanks.get st.ctx.tank).gauge)
  have hst : st.started ((s.modHose st.hose (startedChannel r st)).tanks.get st.ctx.tank).gauge = startedStep s st :=
    Step.started_eq s st
  rw [hst] at hm
  have hstart : s.startStep r st = ((s.modHose st.hose (startedChannel r st)).modStep r
      (Step.started ((s.modHose st.hose (startedChannel r st)).tanks.get st.ctx.tank).gauge)).tryClaim st.hose := rfl
  simp only [State.startOne, State.stepCover_eq_none.mpr hc]
  rw [hstart, hm]
  refine State.tryClaim_of_uncoupled fun q w hq => ?_
  obtain ⟨hr, hw⟩ := State.hoseStep_eq_some.mp hq
  have hr' : ((s.hoses.modify st.hose (startedChannel r st)).get st.hose).step = some q := hr
  rw [Table.modify_self] at hr'
  cases hr'
  have hw' : HasStep { s.modHose st.hose (startedChannel r st) with
      orders := putStep s r (startedStep s st) } r (startedStep s st) := hasStep_putStep h rfl
  cases HasStep.unique hw hw'
  have hh : (startedStep s st).hose = st.hose := by unfold startedStep withTemperature; dsimp only; split <;> rfl
  rw [hh]
  change ((s.hoses.modify st.hose (startedChannel r st)).get st.hose).coupled = false
  rw [Table.modify_self]
  exact hu

/-! ## The start of a group (R9, R11) -/

theorem startedStep_congr {s t : State} (h : t.tanks = s.tanks) (st : Step) : startedStep t st = startedStep s st := by
  simp only [startedStep, h]

theorem State.groupMembers_nodup (s : State) (i : IslandNo) (o : Order) (g : Nat) :
    ((s.groupMembers i o g).map (·.1)).Nodup :=
  ((s.stepsOf_nodup i).sublist ((List.filter_sublist).map _))

/-- A group whose steps stand free is started as the statements say, and none of it is covered (R11). -/
theorem State.startGroup_free {s : State} {i : IslandNo} {o : Order} {g : Nat} (ho : s.orders.get i = some o)
    (hf : GroupFree s i o g) {k : Nat} {st : Step} (hst : o.steps[k]? = some st) (hg : groupOf o.steps k = g) :
    ∃ t, s.startGroup i g (s.groupMembers i o g) = (t, false) ∧ GroupStarted s t i o g
      ∧ t = { s with hoses := t.hoses, orders := t.orders } := by
  have hmem {r : StepRef} {w : Step} := State.mem_groupMembers ho (g := g) (r := r) (st := w)
  have hnone : ((s.groupMembers i o g).filter fun p => (s.stepCover p.1 p.2).isSome) = [] := by
    rw [List.filter_eq_nil_iff]
    rintro ⟨r, w⟩ hw
    obtain ⟨rfl, hw, hg⟩ := hmem.mp hw
    rw [State.stepCover_eq_none.mpr (hf r.idx w hw hg).2.1]
    simp
  have hne : (s.groupMembers i o g).length ≠ 0 := by
    have : (⟨i, k⟩, st) ∈ s.groupMembers i o g := hmem.mpr ⟨rfl, hst, hg⟩
    exact fun e => by rw [List.length_eq_zero_iff.mp e] at this; cases this
  -- the state in which the members are started, its order in the new group
  have hgrouped : s.modOrder i (fun o => { o with group := g }) = { s with orders := putOrder s i { o with group := g } } :=
    State.modOrder_eq ho _
  generalize hs₁ : ({ s with orders := putOrder s i { o with group := g } } : State) = s₁ at hgrouped
  have ho₁ : s₁.orders.get i = some { o with group := g } := by
    rw [← hs₁]; exact (putOrder_get i).trans (if_pos rfl)
  have h := foldl_parts (l := s.groupMembers i o g) State.startOne
    (fun l t => HosesTaken s₁ l startedChannel (fun _ => startedStep s) t ∧ t = { s₁ with hoses := t.hoses, orders := t.orders })
    (b := s₁) ⟨HosesTaken.nil s₁ _ _, rfl⟩
    (fun p a q t hl hp => by
      obtain ⟨⟨j, n⟩, w⟩ := a
      obtain ⟨hp, ht⟩ := hp
      have ha : (⟨j, n⟩, w) ∈ s.groupMembers i o g := by rw [hl]; simp
      obtain ⟨(rfl : j = i), hw, hgw⟩ := hmem.mp ha
      obtain ⟨hu, hc, hd⟩ := hf n w hw hgw
      have hnew : (⟨j, n⟩ : StepRef) ∉ p.map (·.1) :=
        notMem_of_nodup_part (by rw [← hl]; exact s.groupMembers_nodup j o g)
      have hhose : ∀ r v, (r, v) ∈ p → v.hose ≠ w.hose := fun r v hv => by
        obtain ⟨hr, hv', hgv⟩ := hmem.mp (by rw [hl]; exact List.mem_append_left _ hv)
        refine hd r.idx v (fun e => hnew ?_) hv' hgv
        have : r = ⟨j, n⟩ := congrArg₂ StepRef.mk hr e
        exact this ▸ List.mem_map_of_mem (f := (·.1)) hv
      have hhas : HasStep s₁ ⟨j, n⟩ w := ⟨_, ho₁, hw⟩
      have hshut : t.shut = s.shut := by rw [ht, ← hs₁]
      have htanks : t.tanks = s.tanks := by rw [ht, ← hs₁]
      have hsame : t.hoses.get w.hose = s.hoses.get w.hose := (hp.others _ hhose).trans (by rw [← hs₁])
      rw [State.startOne_free (hp.hasStep hnew hhas) (fun h => hc ((Covered.congr hshut).mp h)) (by rw [hsame]; exact hu),
        startedStep_congr htanks]
      exact ⟨hp.append hnew hhas hhose rfl rfl, by rw [ht]⟩)
  generalize hfold : (s.groupMembers i o g).foldl State.startOne s₁ = t at h
  obtain ⟨h, ht⟩ := h
  refine ⟨t, ?_, ⟨?_, fun n w hw hgw => ?_, fun x hx => ?_⟩, by rw [ht, ← hs₁]⟩
  · unfold State.startGroup
    simp only [hnone, hgrouped, hfold, List.any_nil, List.length_nil, Bool.false_eq_true, if_false]
    rw [decide_eq_false hne.symm]
  · rw [h.putOrder ho₁ fun r w hw => (hmem.mp hw).1, ← hs₁, putOrder_putOrder (s := s) (p := { o with group := g }) rfl]
    congr 2
    refine mapIdx_congr fun n w hw => if_congr ?_ rfl rfl
    rw [List.mem_map]
    constructor
    · rintro ⟨⟨r, v⟩, hm, rfl⟩
      exact (hmem.mp hm).2.2
    · exact fun hgw => ⟨(⟨i, n⟩, w), hmem.mpr ⟨rfl, hw, hgw⟩, rfl⟩
  · rw [h.hoses ⟨i, n⟩ w (hmem.mpr ⟨rfl, hw, hgw⟩), ← hs₁]
  · rw [h.others x fun r w hw => hx r.idx w (hmem.mp hw).2.1 (hmem.mp hw).2.2, ← hs₁]

/-! ## The next group (R9, R10) -/

/-- The first PENDING step of an order, the others before it being ENDED or NOT_RUN (R9). -/
def NextAt (o : Order) (k : Nat) (st : Step) : Prop :=
  o.steps[k]? = some st ∧ st.state = .pending ∧ ∀ w ∈ o.steps.take k, w.state = .ended ∨ w.state = .notRun

theorem NextAt.findIdx {o : Order} {k : Nat} {st : Step} (h : NextAt o k st) :
    (o.steps.findIdx? fun st => decide (st.state = .pending)) = some k := by
  obtain ⟨hst, hp, hb⟩ := h
  rw [List.findIdx?_eq_some_iff_getElem]
  obtain ⟨hk, he⟩ := List.getElem?_eq_some_iff.mp hst
  refine ⟨hk, by rw [he, hp]; rfl, fun j hj => ?_⟩
  have := hb o.steps[j] (List.mem_take_iff_getElem.mpr ⟨j, by omega, rfl⟩)
  rcases this with e | e <;> simp [e]

theorem NextAt.before {o : Order} {k : Nat} {st : Step} (h : NextAt o k st) :
    (o.steps.take k).all (fun st => !st.isLive) = true := by
  rw [List.all_eq_true]
  intro w hw
  rcases h.2.2 w hw with e | e <;> simp [Step.isLive, e]

/-- Away from its machine an order starts nothing (R9). -/
theorem State.nextGroup_absent {s : State} {i : IslandNo} (hp : (s.islands.get i).presence ≠ .present) :
    s.nextGroup i = s := by
  have hno : ¬ s.isPresent i = true := fun e => hp ((s.isPresent_iff i).mp e)
  rw [State.nextGroup, State.tryStart]
  split
  · rfl
  · split
    · rfl
    · exact if_neg fun e => hno e.2.2

theorem State.nextGroup_gap {s : State} {i : IslandNo} {o : Order} (ho : s.orders.get i = some o) {k : Nat} {st : Step}
    (h : NextAt o k st) (ha : o.state = .active) (hp : (s.islands.get i).presence = .present)
    (hb : st.holdBefore = true) (hg : o.gapTaken ≠ some (groupOf o.steps k)) :
    s.nextGroup i = { s with
      orders := putOrder s i { o with state := .held, hold := some .gap, gapTaken := some (groupOf o.steps k) }
      ports := raised s [noticeAt .orderHeld i] } := by
  have hk : (o.steps[k]?.map (·.holdBefore)).getD false = st.holdBefore := by rw [h.1]; rfl
  rw [State.nextGroup, State.tryStart, ho]
  simp only [h.findIdx, h.before, hk, ha, (s.isPresent_iff i).mpr hp, and_self, if_true]
  rw [if_pos ⟨hb, hg⟩, State.modOrder_eq ho, State.raiseAt_eq]
  congr 1
  exact raised_congr _ rfl rfl

theorem State.nextGroup_free {s : State} {i : IslandNo} {o : Order} (ho : s.orders.get i = some o) {k : Nat} {st : Step}
    (h : NextAt o k st) (ha : o.state = .active) (hp : (s.islands.get i).presence = .present)
    (hb : st.holdBefore = false ∨ o.gapTaken = some (groupOf o.steps k)) (hf : GroupFree s i o (groupOf o.steps k)) :
    ∃ t, s.nextGroup i = t ∧ GroupStarted s t i o (groupOf o.steps k)
      ∧ t = { s with hoses := t.hoses, orders := t.orders } := by
  obtain ⟨t, ht, hs⟩ := State.startGroup_free ho hf h.1 rfl
  have hno : ¬ (st.holdBefore = true ∧ o.gapTaken ≠ some (groupOf o.steps k)) := by
    rintro ⟨e₁, e₂⟩
    rcases hb with e | e
    · rw [e] at e₁; cases e₁
    · exact e₂ e
  refine ⟨t, ?_, hs⟩
  have hk : (o.steps[k]?.map (·.holdBefore)).getD false = st.holdBefore := by rw [h.1]; rfl
  rw [State.nextGroup, State.tryStart, ho]
  simp only [h.findIdx, h.before, hk, ha, (s.isPresent_iff i).mpr hp, and_self, if_true]
  rw [if_neg hno, ht]
  rfl

end Sys2Proof.Machine
end

section
namespace Sys2Proof.Machine

open Sys2Proof.Safety

/-! ## Accounts by machine number (R111) -/

/-- A change of one account that keeps its number is seen at that number only. -/
theorem State.findAccount_modAccount (s : State) (m : Nat) {f : Account → Account} (hf : ∀ a, (f a).machine = a.machine)
    (n : Nat) : (s.modAccount m f).findAccount n = if n = m then (s.findAccount m).map f else s.findAccount n := by
  have key : ∀ l : List Account, (l.map fun a => if a.machine = m then f a else a).find? (fun a => decide (a.machine = n))
      = if n = m then (l.find? fun a => decide (a.machine = m)).map f else l.find? fun a => decide (a.machine = n) := by
    intro l
    induction l with
    | nil => simp
    | cons a l ih =>
      rw [List.map_cons, List.find?_cons, List.find?_cons, List.find?_cons, ih]
      by_cases ha : a.machine = m <;> by_cases hn : n = m
      · simp [ha, hn, hf]
      · have hn' : m ≠ n := fun e => hn e.symm
        simp [ha, hn, hf, hn']
      · simp [ha, hn]
      · simp [ha, hn]
  exact key s.accounts

/-! ## The hour reading of an accepted admission (R116) -/

/-- The account after an accepted admission at an island. -/
def openedAccount (limit : Nat) (i : IslandNo) (hour : Option Nat) (a : Account) : Account :=
  { a.withReading limit hour with inUse := some i }

theorem openedAccount_machine (limit : Nat) (i : IslandNo) (hour : Option Nat) (a : Account) :
    (openedAccount limit i hour a).machine = a.machine := by
  unfold openedAccount Account.withReading
  cases hour with
  | none => rfl
  | some x =>
    cases hs : a.state with
    | active => dsimp only; split <;> rfl
    | review => rfl
    | blocked => rfl

/-- A reading leaps exactly when it takes the account from ACTIVE to REVIEW. -/
theorem leaps_iff (limit : Nat) (i : IslandNo) (hour : Option Nat) (a : Account) :
    leaps limit hour a = true ↔ a.state = .active ∧ (openedAccount limit i hour a).state = .review := by
  unfold openedAccount Account.withReading
  cases hour with
  | none => cases hs : a.state <;> simp [leaps]
  | some x =>
    cases hs : a.state with
    | active => cases hl : leaps limit (some x) a <;> simp
    | review => cases hl : a.lastHours <;> simp [leaps, hs, hl]
    | blocked => cases hl : a.lastHours <;> simp [leaps, hs, hl]

theorem leaps_some {limit x : Nat} {a : Account} (ha : a.state = .active) :
    leaps limit (some x) a = true ↔ ∃ y, a.lastHours = some y ∧ limit < x - y := by
  cases hl : a.lastHours <;> simp [leaps, ha, hl]

theorem openedAccount_reading (s : State) (i : IslandNo) (hour : Option Nat) (a : Account) :
    ReadingTaken s i hour a (openedAccount s.cfg.jumpLimit i hour a) := by
  unfold openedAccount
  cases hour with
  | none => exact ⟨rfl, rfl, rfl, rfl⟩
  | some x =>
    cases hs : a.state with
    | review =>
      have hb : a.withReading s.cfg.jumpLimit (some x) = { a with reviewHours := some (max (a.reviewHours.getD 0) x) } := by
        simp only [Account.withReading, hs]
      rw [hb]
      refine ⟨rfl, fun _ => ⟨hs, rfl, rfl⟩, fun h => ?_, fun h => ?_⟩ <;> rw [hs] at h <;> cases h
    | blocked =>
      have hb : a.withReading s.cfg.jumpLimit (some x) = a := by simp only [Account.withReading, hs]
      rw [hb]
      refine ⟨rfl, fun h => ?_, fun h => ?_, fun h => ?_⟩ <;> rw [hs] at h <;> cases h
    | active =>
      have hb : a.withReading s.cfg.jumpLimit (some x) = if leaps s.cfg.jumpLimit (some x) a = true then
          { a with state := .review, reviewHours := some x } else { a with lastHours := some x } := by
        simp only [Account.withReading, hs]
      rw [hb]
      by_cases hl : leaps s.cfg.jumpLimit (some x) a = true
      · rw [if_pos hl]
        refine ⟨rfl, fun h => ?_, fun _ _ => ⟨rfl, rfl, rfl⟩, fun _ hn => ?_⟩
        · rw [hs] at h; cases h
        · obtain ⟨y, hy, hlt⟩ := (leaps_some hs).mp hl
          have := hn y hy
          omega
      · rw [if_neg hl]
        refine ⟨rfl, fun h => ?_, fun _ hy => absurd ((leaps_some hs).mpr hy) hl, fun _ _ => ⟨hs, rfl, rfl⟩⟩
        rw [hs] at h; cases h

theorem State.openAccount_eq {s : State} {m : Nat} {a : Account} (ha : s.findAccount m = some a) (i : IslandNo)
    (hour : Option Nat) : s.openAccount i m hour = { s.modAccount m (openedAccount s.cfg.jumpLimit i hour) with
      ports := raised s (noticeIf (a.state = .active ∧ (openedAccount s.cfg.jumpLimit i hour a).state = .review)
        (notice .accountReview)) } := by
  simp only [State.openAccount, ha]
  rw [if_congr (leaps_iff s.cfg.jumpLimit i hour a) rfl rfl, State.ite_raiseKind]
  congr 1
  exact raised_congr _ rfl rfl

/-! ## An accepted ORDER_ADMIT (R6) -/

theorem firstFail_eq_none (l : List (Bool × Code)) : firstFail l = none ↔ ∀ c ∈ l, c.1 = true := by
  induction l with
  | nil => simp
  | cons a l ih =>
    obtain ⟨b, c⟩ := a
    cases b <;> simp [ih]

/-- What the checks of R3 have found when they accept. -/
structure Accepts (f : AdmitFields) (s : State) (i : IslandNo) (steps : List Step) (a : Account) : Prop where
  island : f.island = i.val
  present : (s.islands.get i).presence = .present
  notLatched : s.entryAt (.island i) = none ∧ s.entryAt .bay = none
  account : s.findAccount f.machine = some a
  body : stepsOfBody s i a.capacity f.steps = some steps
  hosesNotLatched : steps.any (stepShut s) = false
  free : s.journal.records.length + s.journal.reserved < 64

theorem accepts_of_checks {f : AdmitFields} {s : State} {i : IslandNo} {steps : List Step} {a : Account}
    (h : admissionChecks f s = .ok (i, steps)) (ha : s.findAccount f.machine = some a) : Accepts f s i steps a := by
  unfold admissionChecks at h
  cases hi : islandOf f.island with
  | none => simp [hi] at h
  | some j =>
  have hj : f.island = j.val := by
    have hlt : f.island < 4 := by
      by_contra hlt
      rw [islandOf_of_lt (by omega)] at hi
      cases hi
    rw [islandOf, unitOf_of_lt hlt] at hi
    cases hi
    rfl
  simp only [hi, ha] at h
  split at h
  · cases h
  next h₁ =>
  split at h
  · cases h
  split at h
  · cases h
  next m hb =>
  split at h
  · cases h
  next h₃ =>
  obtain ⟨rfl, rfl⟩ := Prod.mk.inj (Except.ok.inj h)
  simp only [firstFail_eq_none, List.mem_cons, List.not_mem_nil, or_false, forall_eq_or_imp, forall_eq,
    Bool.not_eq_true'] at h₁ h₃
  obtain ⟨-, -, hp, -, hs⟩ := h₁
  obtain ⟨hst, -, hfree⟩ := h₃
  refine ⟨hj, (s.isPresent_iff _).mp hp, ?_, ha, hb, hst, (Journal.free_pos_iff _).mp hfree⟩
  rw [← Bool.not_eq_true] at hs
  exact not_or.mp (fun e => hs ((s.entryAt_isSome_or _ _).mpr (e.imp id id))) |>.imp not_not.mp not_not.mp

/-- The notices of an accepted admission before its group (R116, R143). -/
def admissionNotices (s : State) (a b : Account) : List Notice :=
  noticeIf (a.state = .active ∧ b.state = .review) (notice .accountReview)
    ++ noticeIf (64 - s.journal.records.length - s.journal.reserved = 9) (notice .journalLow)

/-- The state of an accepted admission before its first group is started. -/
theorem State.createOrder_eq {f : AdmitFields} {s : State} {i : IslandNo} {steps : List Step} {a : Account}
    (h : Accepts f s i steps a) :
    s.createOrder f i steps = { s with
      orders := putOrder s i (newOrder f s steps)
      accounts := (s.modAccount f.machine (openedAccount s.cfg.jumpLimit i f.hour)).accounts
      journal := { s.journal with reserved := s.journal.reserved + 1 }
      ports := raised s (admissionNotices s a (openedAccount s.cfg.jumpLimit i f.hour a)) } := by
  have ha : (s.setOrder i (some (newOrder f s steps))).findAccount f.machine = some a := h.account
  have hfree := h.free
  have hlow : (64 - s.journal.records.length - s.journal.reserved = 9)
      ↔ s.journal.records.length + s.journal.reserved = 55 := by omega
  unfold State.createOrder
  dsimp only
  rw [State.openAccount_eq ha, State.journalReserve_eq _ (by exact hfree), admissionNotices, raised_append]
  unfold noticeIf
  rw [if_congr hlow rfl rfl]
  congr 1
  exact raised_congr _ rfl (raised_congr _ rfl rfl)

/-- The steps of an accepted body as they are admitted (R2, R5, R6). -/
theorem stepOf_admitted {s : State} {i : IslandNo} {a : Account} {x : AdmitStep} {st : Step}
    (h : stepOf s i a.capacity x = some st) : AdmittedStep s a x st := by
  obtain ⟨-, kind, y, k, hn, rfl⟩ := stepOf_eq_some.mp h
  refine ⟨hn, rfl, rfl, rfl, rfl, rfl, ?_⟩
  simp only [newStep, captureContext, Bool.and_eq_true, StepKindDraws_iff, decide_eq_true_iff, and_assoc]

/-- What an accepted admission comes to, whatever its first group does: `v` is the state when the group has been tried. -/
theorem orderAdmit_taken {l : Link} {tag : Half} {f : AdmitFields} {s v : State} {i : IslandNo} {steps : List Step}
    {a : Account} {notices : List Notice} (hA : Admissible s l .orderAdmit (.orderAdmit l tag (.fields f))) (hS : Steady s)
    (hc : admissionChecks f s = .ok (i, steps)) (h : Accepts f s i steps a)
    (hv : (s.createOrder f i steps).nextGroup i = v)
    (he : v = { s.createOrder f i steps with hoses := v.hoses, orders := v.orders, ports := raised s notices }) :
    let b := openedAccount s.cfg.jumpLimit i f.hour a
    let u := v.settleAll
    ∃ t, exec (.orderAdmit l tag (.fields f)) s = .next t
      ∧ (∃ due, OnlyAnswered u t l (reply tag .orderAdmit .ok (.admitted due (decide (b.state = .review)))))
      ∧ OutputsFollow s u
      ∧ u = { s with
          orders := u.orders, hoses := u.hoses, accounts := u.accounts, shut := u.shut
          journal := { s.journal with reserved := s.journal.reserved + 1 }, ports := raised s notices }
      ∧ u.findAccount f.machine = some b ∧ (∀ n, n ≠ f.machine → u.findAccount n = s.findAccount n)
      ∧ ReadingTaken s i f.hour a b := by
  intro b u
  have hends : v.ends = [] := by rw [he, State.createOrder_eq h]; exact hS.2
  have hshut : v.shut = s.shut := by rw [he, State.createOrder_eq h]
  have hu : u = { v with shut := u.shut } := State.settleAll_eq hends
  have hfind (n : Nat) : u.findAccount n
      = (s.modAccount f.machine (openedAccount s.cfg.jumpLimit i f.hour)).findAccount n := by
    rw [hu, he, State.createOrder_eq h]
    rfl
  have hb : u.findAccount f.machine = some b := by
    rw [hfind, State.findAccount_modAccount _ _ (openedAccount_machine _ _ _), if_pos rfl, h.account]
    rfl
  have hr : ∃ due, admittedResults (s.createOrder f i steps) f = .admitted due (decide (b.state = .review)) := by
    obtain ⟨due, hdue⟩ := admittedResults_eq (s.createOrder f i steps) f
    have hfind' : (s.createOrder f i steps).findAccount f.machine = some b := by
      rw [← hb, hfind, State.createOrder_eq h]
      rfl
    rw [hfind'] at hdue
    exact ⟨due, hdue⟩
  obtain ⟨due, hdue⟩ := hr
  have hall := orderAdmit_accepted hc
  rw [hdue, hv] at hall
  refine ⟨_, rfl, ⟨due, State.serve_only hA tag f orderAdmit hall⟩, State.follow_settleAll hends hshut, ?_, hb,
    fun n hn => ?_, openedAccount_reading s i f.hour a⟩
  · rw [hu, he, State.createOrder_eq h]
  · rw [hfind, State.findAccount_modAccount _ _ (openedAccount_machine _ _ _), if_neg hn]

/-- The steps of an accepted body stand free, where the hoses of the group are not coupled (R4, R11). -/
theorem accepted_groupFree {f : AdmitFields} {s : State} {i : IslandNo} {steps : List Step} {a : Account}
    (h : Accepts f s i steps a) (g : Nat)
    (hu : ∀ (k : Nat) (w : Step), steps[k]? = some w → groupOf steps k = g → (s.hoses.get w.hose).coupled = false) :
    GroupFree s i (newOrder f s steps) g := by
  intro k st hst hg
  refine ⟨hu k st hst hg, ?_, fun j w hj hw hgw => ?_⟩
  · have hn : ¬ stepShut s st = true := by
      have := h.hosesNotLatched
      rw [List.any_eq_false] at this
      exact this st (List.mem_of_getElem? hst)
    rw [stepShut, State.entryAt_isSome_or] at hn
    obtain ⟨hi, hb⟩ := h.notLatched
    simp only [Covered, hi, hb]
    tauto
  · obtain ⟨⟨-, -, -, -, hd⟩, hgives⟩ := stepsOfBody_eq_some.mp h.body
    obtain ⟨x, hx⟩ := hgives.body_of hw
    obtain ⟨y, hy⟩ := hgives.body_of hst
    have hgroups : bodyGroup f.steps j = bodyGroup f.steps k := by
      rw [← hgives.group, ← hgives.group]
      exact hgw.trans hg.symm
    have hne := hd j k x y hj hx hy hgroups
    rw [stepOf_hose (hgives.of_get hx hw), stepOf_hose (hgives.of_get hy hst)] at hne
    exact fun e => hne (congrArg _ e)

/-- Settles O33: what the checks found (`accepts_of_checks`) gives the steps and the account, and the first group is held at
its gap (`State.nextGroup_gap`) or started (`State.nextGroup_free`). -/
theorem admissionHoldsAtItsGap : Obligations.AdmissionHoldsAtItsGap := by
  intro l tag f i a steps st s hA hS hc hst ha o before accepted
  have h := accepts_of_checks hc ha
  obtain ⟨hgood, hgives⟩ := stepsOfBody_eq_some.mp h.body
  have h₀ : steps[0]? = some st := by rw [← List.head?_eq_getElem?]; exact hst
  obtain ⟨x, hx⟩ := hgives.body_of h₀
  have hadmitted {k : Nat} {x : AdmitStep} {w : Step} (hx : f.steps[k]? = some x) (hw : steps[k]? = some w) :
      AdmittedStep s a x w := stepOf_admitted (hgives.of_get hx hw)
  have hg : groupOf steps 0 = 1 := by
    have hp : st.isParallel = false := by
      rw [stepOf_isParallel (hgives.of_get hx h₀)]
      exact hgood.2.2.2.1 x (by rw [List.head?_eq_getElem?]; exact hx)
    cases steps with
    | nil => cases h₀
    | cons v rest =>
      cases h₀
      simp [groupOf, hp]
  have hnext : NextAt o 0 st := ⟨h₀, (hadmitted hx h₀).2.1, by simp⟩
  have hcreated := State.createOrder_eq h
  have hget : (s.createOrder f i steps).orders.get i = some o := by
    rw [hcreated]
    exact (putOrder_get i).trans (if_pos rfl)
  have hislands : (s.createOrder f i steps).islands = s.islands := by rw [hcreated]
  have hpresent : ((s.createOrder f i steps).islands.get i).presence = .present := by rw [hislands]; exact h.present
  refine ⟨h.island, hgives.length, fun k x w => hadmitted, fun hb => ?_, fun hb hu => ?_⟩
  · have hv := State.nextGroup_gap hget hnext rfl hpresent hb (by simp [o])
    obtain ⟨t, ht⟩ := orderAdmit_taken (notices := admissionNotices s a (openedAccount s.cfg.jumpLimit i f.hour a)
      ++ [noticeAt .orderHeld i]) hA hS hc h hv (by
        rw [hcreated, raised_append]
        congr 1
        exact raised_congr _ rfl rfl)
    refine ⟨t, _, _, ht, ?_, ?_⟩
    · rw [State.settleAll_eq (by rw [hcreated]; exact hS.2)]
      change putOrder (s.createOrder f i steps) i _ = _
      rw [putOrder_putOrder (s := s) (p := newOrder f s steps) (by rw [hcreated])]
      have hg' : groupOf o.steps 0 = 1 := hg
      rw [hg']
    · rw [State.settleAll_eq (by rw [hcreated]; exact hS.2), hcreated]
  · have hfree : GroupFree (s.createOrder f i steps) i o (groupOf o.steps 0) := by
      have := accepted_groupFree h 1 hu
      have hg' : groupOf o.steps 0 = 1 := hg
      rw [hg', hcreated]
      exact this
    obtain ⟨v, hv, hgs, he⟩ := State.nextGroup_free hget hnext rfl hpresent (.inl hb) hfree
    obtain ⟨t, ht⟩ := orderAdmit_taken (notices := admissionNotices s a (openedAccount s.cfg.jumpLimit i f.hour a))
      hA hS hc h hv (by
        rw [he, hcreated])
    refine ⟨t, _, _, ht, ?_⟩
    have hg' : groupOf o.steps 0 = 1 := hg
    rw [hg'] at hgs
    obtain ⟨ho, hh, hn⟩ := hgs
    rw [State.settleAll_eq (by rw [he, hcreated]; exact hS.2)]
    refine ⟨?_, ?_, ?_⟩
    · refine ho.trans ?_
      rw [putOrder_putOrder (s := s) (p := newOrder f s steps) (by rw [hcreated])]
      congr 2
      refine mapIdx_congr fun n w _ => ?_
      rw [startedStep_congr (s := s) (by rw [hcreated])]
    · rw [hcreated] at hh
      exact hh
    · rw [hcreated] at hn
      exact hn

end Sys2Proof.Machine
end

section
/-! SUPPORT. Requests on an order (R14), and the resumption of the steps held for power (R46). -/

namespace Sys2Proof.Machine

open Sys2Proof.Safety

theorem withOrder_outOfRange {n : Nat} (h : 3 < n) (s : State) (act : IslandNo → Order → Answer × State) :
    withOrder s n act = (refuse .outOfRange, s) := by rw [withOrder, islandOf_of_lt h]

theorem withOrder_none {s : State} {i : IslandNo} (h : s.orders.get i = none) (act : IslandNo → Order → Answer × State) :
    withOrder s i.val act = (refuse .noOrder, s) := by rw [withOrder, islandOf_val]; simp only [h]

theorem withOrder_some {s : State} {i : IslandNo} {o : Order} (h : s.orders.get i = some o)
    (act : IslandNo → Order → Answer × State) : withOrder s i.val act = act i o := by
  rw [withOrder, islandOf_val]; simp only [h]

theorem Order.hasStarted_iff (o : Order) : o.hasStarted = true ↔ ∃ st ∈ o.steps, InFlight st := by
  simp only [Order.hasStarted, List.any_eq_true, Step.isStarted_iff]

theorem Order.hasPending_iff (o : Order) : o.hasPending = true ↔ ∃ st ∈ o.steps, st.state = .pending := by
  simp only [Order.hasPending, List.any_eq_true, decide_eq_true_iff]

theorem Step.heldForPower_inFlight {st : Step} (h : st.heldForPower = true) : InFlight st := by
  simp only [Step.heldForPower, Bool.and_eq_true, decide_eq_true_iff] at h
  rcases h.2 with e | e <;> simp [InFlight, e]

/-! ## Entry to RUNNING and the resume instruction (R35, R46) -/

theorem State.enterRunning_eq {s : State} {r : StepRef} {st : Step} (h : HasStep s r st) (hn : netOf st < st.target) :
    s.enterRunning r st = { s with
      hoses := s.hoses.modify st.hose (enteredChannel st), orders := putStep s r (enteredStep st) } := by
  have hstage : runningStage st = if RunsLow st then (.runningSlow, .low) else (.runningFast, .full) := rfl
  have hno : ¬ st.target ≤ st.net := by rw [Step.net_eq]; omega
  have hstep : ({ st with state := (runningStage st).1, suspension := none } : Step) = enteredStep st := by
    rw [hstage, enteredStep]; split <;> rfl
  have hvalve : (runningStage st).2 = if RunsLow st then .low else .full := by rw [hstage]; split <;> rfl
  simp only [State.enterRunning, if_neg hno, State.modStep_eq h, hstep, hvalve]
  rfl

theorem State.rewait_eq {s : State} {r : StepRef} {st : Step} (h : HasStep s r st) :
    s.rewait r st = { s with
      hoses := s.hoses.modify st.hose fun k => { k with coupleTimer := some (st.ctx.coupleWait * 10) }
      orders := putStep s r { st with state := .waitingCouple, suspension := none } } :=
  State.modStep_eq (s := s.modHose st.hose _) h _

/-- A step SUSPENDED(POWER) below its target, with no end status, resumes (R46). -/
theorem State.resumeStep_eq {s : State} {r : StepRef} {st : Step} (h : HasStep s r st) (hs : st.state = .suspended)
    (he : st.endStatus = none) (hn : netOf st < st.target) :
    s.resumeStep r st = { s with
      hoses := s.hoses.modify st.hose (resumedChannel s r.island st), orders := putStep s r (resumedStep s r.island st) } := by
  have hw : st.state ≠ .waitingCouple := by simp [hs]
  have hmod {f g : Channel → Channel} (e : f (s.hoses.get st.hose) = g (s.hoses.get st.hose)) :
      s.hoses.modify st.hose f = s.hoses.modify st.hose g := Table.modify_congr _ _ _ _ e
  simp only [State.resumeStep, if_neg hw, he]
  by_cases hp : (s.islands.get r.island).presence = .present
  · have hp' : s.isPresent r.island = true := (s.isPresent_iff _).mpr hp
    have hne : ¬ (s.islands.get r.island).presence ≠ .present := not_not.mpr hp
    simp only [hp', Bool.not_true, Bool.false_eq_true, if_false, resumedStep, if_neg hne]
    by_cases hc : (s.hoses.get st.hose).coupled = true
    · rw [if_pos hc, if_pos hc, State.enterRunning_eq h hn, hmod (g := resumedChannel s r.island st)]
      rw [resumedChannel, if_neg hne, if_pos hc]
    · rw [if_neg hc, if_neg hc, State.rewait_eq h, hmod (g := resumedChannel s r.island st)]
      rw [resumedChannel, if_neg hne, if_neg hc]
  · have hp' : s.isPresent r.island = false := by
      rw [← Bool.not_eq_true, s.isPresent_iff]; exact hp
    simp only [hp', Bool.not_false, if_true, resumedStep, if_pos hp, State.modStep_eq h]
    rw [Table.modify_id s.hoses st.hose (f := resumedChannel s r.island st) (by rw [resumedChannel, if_pos hp])]

theorem resumedStep_congr {s t : State} {i : IslandNo} {st : Step} (hi : t.islands = s.islands)
    (hh : t.hoses.get st.hose = s.hoses.get st.hose) : resumedStep t i st = resumedStep s i st := by
  simp only [resumedStep, hi, hh]

theorem resumedChannel_congr {s t : State} (hi : t.islands = s.islands) (i : IslandNo) (st : Step) :
    resumedChannel t i st = resumedChannel s i st := by
  funext k
  simp only [resumedChannel, hi]

/-- The steps of an order that are in flight are all SUSPENDED(POWER) below their targets, each at its own hose. -/
def AllHeldForPower (s : State) (i : IslandNo) : Prop :=
  ∀ k st, HasStep s ⟨i, k⟩ st → InFlight st → StepOfHose s st.hose ⟨i, k⟩ st ∧
    st.state = .suspended ∧ st.suspension = some .power ∧ st.endStatus = none ∧ netOf st < st.target

/-- The started steps of an order (R14). -/
def startedOf (s : State) (i : IslandNo) : List (StepRef × Step) := (s.stepsOf i).filter fun p => p.2.isStarted

theorem mem_startedOf {s : State} {i : IslandNo} {r : StepRef} {st : Step} :
    (r, st) ∈ startedOf s i ↔ r.island = i ∧ HasStep s r st ∧ InFlight st := by
  rw [startedOf, List.mem_filter, State.mem_stepsOf, and_assoc, Step.isStarted_iff]

theorem startedOf_nodup (s : State) (i : IslandNo) : ((startedOf s i).map (·.1)).Nodup :=
  (s.stepsOf_nodup i).sublist ((List.filter_sublist).map _)

theorem StepRef.mem_startedOf {s : State} {i : IslandNo} {o : Order} (ho : s.orders.get i = some o) {k : Nat} {st : Step}
    (hst : o.steps[k]? = some st) : (⟨i, k⟩ : StepRef) ∈ (startedOf s i).map (·.1) ↔ InFlight st := by
  rw [List.mem_map]
  constructor
  · rintro ⟨⟨r, w⟩, hm, rfl⟩
    obtain ⟨-, hw, hf⟩ := Machine.mem_startedOf.mp hm
    cases HasStep.unique hw ⟨o, ho, hst⟩
    exact hf
  · exact fun hf => ⟨(⟨i, k⟩, st), Machine.mem_startedOf.mpr ⟨rfl, ⟨o, ho, hst⟩, hf⟩, rfl⟩

/-- A fold that acts on some elements only is the fold over those. -/
theorem foldl_filter_ite {α β : Type} (f : β → α → β) (p q : α → Bool) (l : List α) (b : β)
    (h : ∀ a ∈ l, p a = q a) : l.foldl (fun b a => if p a then f b a else b) b = (l.filter q).foldl f b := by
  induction l generalizing b with
  | nil => rfl
  | cons a l ih =>
    have ha := h a (List.mem_cons_self ..)
    have hl := fun c hc => h c (List.mem_cons_of_mem _ hc)
    rw [List.foldl_cons, ih _ hl, List.filter_cons, ha]
    split <;> rfl

/-- Two steps of one island's order that stand each at its own hose stand at two hoses (R29). -/
theorem StepOfHose.ref_unique {s : State} {h : HoseNo} {q r : StepRef} {v w : Step} (hv : StepOfHose s h q v)
    (hw : StepOfHose s h r w) : q = r := Option.some.inj (hv.1.symm.trans hw.1)

/-- An order that is replaced by one with its steps has the same steps. -/
theorem hasStep_putOrder {s t : State} {i : IslandNo} {o p : Order} (ho : s.orders.get i = some o)
    (hp : p.steps = o.steps) (ht : t.orders = putOrder s i p) {q : StepRef} {w : Step} :
    HasStep t q w ↔ HasStep s q w := by
  unfold HasStep
  rw [ht, putOrder_get]
  split
  · next hq => simp [hq, ho, hp]
  · rfl

theorem AllHeldForPower.putOrder {s : State} {i : IslandNo} {o p : Order} (ho : s.orders.get i = some o)
    (hp : p.steps = o.steps) (h : AllHeldForPower s i) : AllHeldForPower { s with orders := putOrder s i p } i := by
  intro k st hst hf
  obtain ⟨⟨hh, -, he⟩, hrest⟩ := h k st ((hasStep_putOrder ho hp rfl).mp hst) hf
  exact ⟨⟨hh, hst, he⟩, hrest⟩

theorem resumedStep_inFlight (s : State) (i : IslandNo) {st : Step} (h : InFlight st) :
    InFlight (resumedStep s i st) := by
  unfold resumedStep enteredStep
  split
  · exact h
  · split
    · refine ⟨?_, ?_, ?_⟩ <;> dsimp only <;> split <;> decide
    · simp [InFlight]

/-- The resume instruction at an order whose steps in flight are all held for power (R46). -/
theorem State.resumeOrder_eq {s : State} {i : IslandNo} {o : Order} (ho : s.orders.get i = some o)
    (h : AllHeldForPower s i) :
    s.resumeOrder i = { s with
      hoses := (s.resumeOrder i).hoses
      orders := putOrder s i { o with steps := o.steps.map fun st => if InFlight st then resumedStep s i st else st } }
    ∧ (∀ k st, HasStep s ⟨i, k⟩ st → InFlight st →
        (s.resumeOrder i).hoses.get st.hose = resumedChannel s i st (s.hoses.get st.hose))
    ∧ ∀ x, (∀ k st, HasStep s ⟨i, k⟩ st → InFlight st → st.hose ≠ x) → (s.resumeOrder i).hoses.get x = s.hoses.get x := by
  have hfold : s.resumeOrder i = (startedOf s i).foldl (fun s p => s.resumeStep p.1 p.2) s := by
    refine foldl_filter_ite (fun (t : State) (p : StepRef × Step) => t.resumeStep p.1 p.2) (fun p => p.2.heldForPower)
      (fun p => p.2.isStarted) _ _ ?_
    rintro ⟨r, st⟩ hm
    obtain ⟨rfl, hst⟩ := State.mem_stepsOf.mp hm
    rw [Bool.eq_iff_iff, Step.isStarted_iff]
    refine ⟨Step.heldForPower_inFlight, fun hf => ?_⟩
    obtain ⟨-, hs, hp, -⟩ := h r.idx st hst hf
    simp [Step.heldForPower, hs, hp]
  have key := foldl_parts (l := startedOf s i) (fun (t : State) (p : StepRef × Step) => t.resumeStep p.1 p.2)
    (fun l t => HosesTaken s l (fun _ st => resumedChannel s i st) (fun _ st => resumedStep s i st) t
      ∧ t = { s with hoses := t.hoses, orders := t.orders }) (b := s) ⟨HosesTaken.nil s _ _, rfl⟩
    (fun p a q t hl hp => by
      obtain ⟨r, st⟩ := a
      obtain ⟨hp, ht⟩ := hp
      have ha : (r, st) ∈ startedOf s i := by rw [hl]; simp
      obtain ⟨rfl, hst, hf⟩ := mem_startedOf.mp ha
      obtain ⟨hat, hs, -, he, hn⟩ := h r.idx st hst hf
      have hnew : r ∉ p.map (·.1) := notMem_of_nodup_part (by rw [← hl]; exact startedOf_nodup s r.island)
      have hhose : ∀ q w, (q, w) ∈ p → w.hose ≠ st.hose := fun q w hw e => by
        obtain ⟨hq, hw', hfw⟩ := mem_startedOf.mp (by rw [hl]; exact List.mem_append_left _ hw)
        have hatw := (h q.idx w (by rw [← hq]; exact hw') hfw).1
        rw [e] at hatw
        have : q = r := (congrArg₂ StepRef.mk hq rfl).trans (StepOfHose.ref_unique hatw hat)
        exact hnew (this ▸ List.mem_map_of_mem (f := (·.1)) hw)
      have hsame := hp.others _ hhose
      have hislands : t.islands = s.islands := by rw [ht]
      rw [State.resumeStep_eq (hp.hasStep hnew hst) hs he hn]
      refine ⟨hp.append hnew hst hhose ?_ ?_, by rw [ht]⟩
      · exact congrArg (putStep t r) (resumedStep_congr hislands hsame)
      · exact congrArg (t.hoses.modify st.hose) (resumedChannel_congr hislands r.island st))
  rw [← hfold] at key
  generalize s.resumeOrder i = t at key
  obtain ⟨hk, ht⟩ := key
  refine ⟨?_, fun k st hst hf => hk.hoses ⟨i, k⟩ st (mem_startedOf.mpr ⟨rfl, hst, hf⟩), fun x hx =>
    hk.others x fun r w hw => ?_⟩
  · have horders := hk.putOrder ho fun r w hw => (mem_startedOf.mp hw).1
    rw [ht, horders]
    congr 3
    refine List.ext_getElem? fun n => ?_
    rw [List.getElem?_mapIdx, List.getElem?_map]
    cases hn : o.steps[n]? with
    | none => rfl
    | some st => exact congrArg some (if_congr (StepRef.mem_startedOf ho hn) rfl rfl)
  · obtain ⟨rfl, hw, hf⟩ := mem_startedOf.mp hw
    exact hx r.idx w hw hf

/-! ## ORDER_HOLD and ORDER_CONTINUE (R15, R17) -/

theorem orderHold_active {s : State} {i : IslandNo} {o : Order} (ho : s.orders.get i = some o) (ha : o.state = .active) :
    orderHold i.val s = (accepted, if o.hasStarted = true then
        { s with orders := putOrder s i { o with state := .holdPending, hold := some .request } }
      else { s with
        orders := putOrder s i { o with state := .held, hold := some .request }, ports := raised s [noticeAt .orderHeld i] }) := by
  rw [orderHold, withOrder_some ho, if_pos ha]
  cases o.hasStarted with
  | true => exact congrArg (Prod.mk accepted) (State.modOrder_eq ho _)
  | false =>
    refine congrArg (Prod.mk accepted) ?_
    rw [State.modOrder_eq ho, State.raiseAt_eq]
    simp only [Bool.false_eq_true, if_false, Order.toHeld]
    congr 1
    exact raised_congr _ rfl rfl

/-- A HELD order that is continued with no step in flight tries its next group (R17). -/
theorem orderContinue_starts {s v : State} {i : IslandNo} {o : Order} (ho : s.orders.get i = some o) (hs : o.state = .held)
    (hc : (o.hold = some .gap ∨ o.hold = some .request)
      ∨ (o.hold = some .power ∧ s.supply.state = .normal ∧ o.endStatus = none ∧ ∀ st ∈ o.steps, ¬ InFlight st))
    (hv : State.nextGroup { s with orders := putOrder s i { o with state := .active, hold := none } } i = v)
    (he : v.ends = []) (hn : ∀ p, v.orders.get i = some p → p.state ≠ .ending) :
    orderContinue i.val s = (accepted, v.settleAll) := by
  rw [orderContinue, withOrder_some ho]
  rcases hc with hc | ⟨hp, hsup, hend, hno⟩
  · have hm : (s.modOrder i fun o => { o with state := .active, hold := none })
        = { s with orders := putOrder s i { o with state := .active, hold := none } } := State.modOrder_eq ho _
    rcases hc with hh | hh <;> simp only [hs, hh, hm, hv]
  · have hm : s.modOrder i Order.continued
        = { s with orders := putOrder s i { o with state := .active, hold := none } } := by
      rw [State.modOrder_eq ho]
      simp only [Order.continued, hend, Option.isSome_none, Bool.false_eq_true, if_false]
    have hnormal : s.supplyNormal = true := (s.supplyNormal_iff).mpr hsup
    generalize hs₁ : ({ s with orders := putOrder s i { o with state := .active, hold := none } } : State) = s₁ at hm hv
    have ho₁ : s₁.orders.get i = some { o with state := .active, hold := none } := by
      rw [← hs₁]; exact (putOrder_get i).trans (if_pos rfl)
    have hidle : s₁.resumeOrder i = s₁ := by
      have hnone : (s₁.stepsOf i).filter (fun p => p.2.heldForPower) = [] := by
        rw [List.filter_eq_nil_iff]
        rintro ⟨r, st⟩ hm hp
        obtain ⟨rfl, p, hp', hst⟩ := State.mem_stepsOf.mp hm
        cases ho₁.symm.trans hp'
        exact hno st (List.mem_of_getElem? hst) (Step.heldForPower_inFlight hp)
      rw [State.resumeOrder, foldl_filter_ite (fun (t : State) (p : StepRef × Step) => t.resumeStep p.1 p.2) _ _ _ _
        fun _ _ => rfl, hnone]
      rfl
    have hstart : s₁.startIfIdle i = v := by
      have : ¬ ({ o with state := .active, hold := none } : Order).hasStarted = true := by
        rw [Order.hasStarted_iff]
        rintro ⟨st, hm, hf⟩
        exact hno st hm hf
      rw [State.startIfIdle, ho₁]
      simp only [this, Bool.false_eq_true, if_false]
      exact hv
    have hdone : v.endIfDone i = v := by
      rw [State.endIfDone]
      cases hv' : v.orders.get i with
      | none => rfl
      | some p => exact if_neg fun e => hn p hv' e.1
    simp only [hs, hp, hnormal, if_true, hm, hidle, hstart, State.drain_of_nil he, hdone]
    rw [State.settleAll_of_nil he]

/-- An order whose steps held for power are told to resume (R17). -/
def resumingOrder (o : Order) : Order :=
  { o with state := if o.state = .ending ∨ o.endStatus.isSome then .ending else .active, hold := none }

/-- The steps held for power of an order in HELD(POWER) or ENDING resume, and no order starts or ends with it (R17, R46). -/
theorem orderContinue_resumes {s : State} {i : IslandNo} {o : Order} (ho : s.orders.get i = some o) (hS : Steady s)
    (hsup : s.supply.state = .normal)
    (hc : (o.state = .held ∧ o.hold = some .power) ∨ (o.state = .ending ∧ o.hold = none))
    (hany : ∃ st ∈ o.steps, InFlight st) (hall : AllHeldForPower s i) :
    ∃ v, State.resumeOrder { s with orders := putOrder s i (resumingOrder o) } i = v
      ∧ orderContinue i.val s = (accepted, v.settleAll) := by
  refine ⟨_, rfl, ?_⟩
  generalize hp : resumingOrder o = p
  have hps : p.steps = o.steps := by rw [← hp]; rfl
  have hnormal : s.supplyNormal = true := (s.supplyNormal_iff).mpr hsup
  have ho₁ : ({ s with orders := putOrder s i p } : State).orders.get i = some p := (putOrder_get i).trans (if_pos rfl)
  obtain ⟨hv, -, -⟩ := State.resumeOrder_eq ho₁ (hall.putOrder ho hps)
  rw [orderContinue, withOrder_some ho]
  rcases hc with ⟨hs, hh⟩ | ⟨hs, hh⟩
  · have hm : s.modOrder i Order.continued = { s with orders := putOrder s i p } := by
      rw [State.modOrder_eq ho, ← hp]
      simp [Order.continued, resumingOrder, hs]
    generalize hv' : State.resumeOrder { s with orders := putOrder s i p } i = v at hv
    have hget : ∃ q, v.orders.get i = some q ∧ q.hasStarted = true := by
      rw [hv]
      refine ⟨_, (putOrder_get i).trans (if_pos rfl), (Order.hasStarted_iff _).mpr ?_⟩
      obtain ⟨st, hm, hf⟩ := hany
      exact ⟨_, List.mem_map_of_mem (hps ▸ hm), by rw [if_pos hf]; exact resumedStep_inFlight _ _ hf⟩
    obtain ⟨q, hq, hstarted⟩ := hget
    have hends : v.ends = [] := by rw [hv]; exact hS.2
    have hidle : v.startIfIdle i = v := by
      rw [State.startIfIdle, hq]
      exact if_pos hstarted
    have hdone : v.endIfDone i = v := by
      rw [State.endIfDone, hq]
      exact if_neg fun e => by rw [hstarted] at e; exact absurd e.2.1 (by decide)
    simp only [hs, hh, hnormal, if_true, hm, hv', hidle, State.drain_of_nil hends, hdone]
    rw [State.settleAll_of_nil hends]
  · have hp : p = o := by
      have : (if o.state = .ending ∨ o.endStatus.isSome = true then OrderState.ending else .active) = o.state := by
        rw [if_pos (.inl hs), hs]
      simp only [← hp, resumingOrder, this, ← hh]
    have hheld : o.steps.any Step.heldForPower = true := by
      obtain ⟨st, hm, hf⟩ := hany
      obtain ⟨k, hk⟩ := List.mem_iff_getElem?.mp hm
      obtain ⟨-, hst, hpow, -⟩ := hall k st ⟨o, ho, hk⟩ hf
      exact List.any_eq_true.mpr ⟨st, hm, by simp [Step.heldForPower, hst, hpow]⟩
    simp only [hs, hheld, hnormal, if_true, hp, putOrder_self ho]

/-- Settles O34: the requests are answered by the order's state and hold reason; a group starts by `State.nextGroup_free` or
is held at its gap by `State.nextGroup_gap`, and steps held for power resume by `State.resumeOrder_eq`. -/
theorem orderHoldAndContinue : Obligations.OrderHoldAndContinue := by
  constructor <;> intro l tag n s hA c
  · have replies {u : State} {e : Code} {a : Results} (h : orderHold n s = ((e, a), u)) : Replies c s u l tag .orderHold e a :=
      ⟨_, rfl, State.serve_only hA tag n orderHold h⟩
    refine ⟨fun hn => replies (withOrder_outOfRange hn s _), ?_⟩
    rintro i rfl
    refine ⟨fun ho => replies (withOrder_none ho _), fun o ho => ⟨fun hne => replies ?_, fun ha hs => ?_, fun ha hs => ?_⟩⟩
    · rw [orderHold, withOrder_some ho, if_neg hne]
      rfl
    · have := orderHold_active ho ha
      rw [if_pos ((Order.hasStarted_iff o).mpr hs)] at this
      exact replies this
    · have := orderHold_active ho ha
      rw [if_neg] at this
      · exact replies this
      · rw [Order.hasStarted_iff]
        rintro ⟨st, hm, h₁, h₂, h₃⟩
        rcases hs st hm with e | e | e
        · exact h₁ e
        · exact h₂ e
        · exact h₃ e
  · have replies {u : State} {e : Code} {a : Results} (h : orderContinue n s = ((e, a), u)) : Replies c s u l tag .orderContinue e a :=
      ⟨_, rfl, State.serve_only hA tag n orderContinue h⟩
    refine ⟨fun hn => replies (withOrder_outOfRange hn s _), ?_⟩
    rintro i rfl
    refine ⟨fun ho => replies (withOrder_none ho _), fun o ho => ⟨fun hs => replies ?_, fun hs hh => replies ?_,
      fun hs hh hsup => replies ?_, fun hs hh => replies ?_, fun hs hno => replies ?_, fun hs hany hsup => replies ?_,
      ?_, fun hS hsup hc hany hall => ?_⟩⟩
    · rw [orderContinue, withOrder_some ho]
      simp only [hs]
      rfl
    · rw [orderContinue, withOrder_some ho]
      simp only [hs, hh]
      rfl
    · have : s.supplyNormal = false := by simp [State.supplyNormal, hsup]
      rw [orderContinue, withOrder_some ho]
      simp only [hs, hh, this, Bool.false_eq_true, if_false]
      rfl
    · rw [orderContinue, withOrder_some ho]
      simp only [hs, hh, State.modOrder_eq ho]
      rfl
    · have : o.steps.any Step.heldForPower = false := by
        rw [List.any_eq_false]
        intro st hm
        simp [Step.heldForPower, hno st hm]
      rw [orderContinue, withOrder_some ho]
      simp only [hs, this, Bool.false_eq_true, if_false]
      rfl
    · have : s.supplyNormal = false := by simp [State.supplyNormal, hsup]
      have hheld : o.steps.any Step.heldForPower = true := by
        obtain ⟨st, hm, hst, hp⟩ := hany
        exact List.any_eq_true.mpr ⟨st, hm, by simp [Step.heldForPower, hst, hp]⟩
      rw [orderContinue, withOrder_some ho]
      simp only [hs, this, hheld, if_true, Bool.false_eq_true, if_false]
      rfl
    · intro hS hs hc p
      refine ⟨fun hp => ?_, fun k st hp hst hpend hb => ⟨fun hg hf => ?_, fun hhb hg => ?_⟩⟩
      · have hv := State.nextGroup_absent (s := { s with orders := putOrder s i p }) (i := i) hp
        refine ⟨_, replies (orderContinue_starts ho hs hc hv hS.2 fun q hq => ?_), State.follow_settleAll hS.2 rfl,
          State.settleAll_eq (by exact hS.2)⟩
        cases (hq.symm.trans ((putOrder_get i).trans (if_pos rfl)) : some q = some p)
        nofun
      all_goals
        have ho₁ : ({ s with orders := putOrder s i p } : State).orders.get i = some p := (putOrder_get i).trans (if_pos rfl)
        have hnext : NextAt p k st := ⟨hst, hpend, hb⟩
      · obtain ⟨v, hv, hgs, he⟩ := State.nextGroup_free ho₁ hnext rfl hp hg hf
        have hends : v.ends = [] := by rw [he]; exact hS.2
        obtain ⟨horders, hhoses, hothers⟩ := hgs
        refine ⟨_, replies (orderContinue_starts ho hs hc hv hends fun q hq => ?_),
          State.follow_settleAll hends (by rw [he]), ?_, ?_⟩
        · rw [horders, putOrder_get, if_pos rfl] at hq
          cases hq
          nofun
        · rw [State.settleAll_eq hends]
          exact ⟨horders.trans (putOrder_putOrder rfl _), hhoses, hothers⟩
        · rw [State.settleAll_eq hends, he]
      · have hv := State.nextGroup_gap ho₁ hnext rfl hp hhb hg
        refine ⟨_, replies (orderContinue_starts ho hs hc hv hS.2 fun q hq => ?_), State.follow_settleAll hS.2 rfl, ?_⟩
        · rw [putOrder_get, if_pos rfl] at hq
          cases hq
          nofun
        · rw [State.settleAll_eq (by exact hS.2)]
          congr 1
          · exact raised_congr _ rfl rfl
          · exact putOrder_putOrder (s := s) (p := p) rfl _
    · have hall' : AllHeldForPower s i := hall
      obtain ⟨v, hv', hr⟩ := orderContinue_resumes ho hS hsup hc hany hall'
      obtain ⟨hv, htook, hothers⟩ := State.resumeOrder_eq (s := { s with orders := putOrder s i (resumingOrder o) })
        ((putOrder_get i).trans (if_pos rfl)) (hall'.putOrder ho rfl)
      rw [hv'] at hv htook hothers
      have hends : v.ends = [] := by rw [hv]; exact hS.2
      refine ⟨_, replies hr, State.follow_settleAll hends (by rw [hv]), ?_, fun x => ⟨?_, fun hx => ?_⟩⟩
      · rw [State.settleAll_eq hends, hv]
        congr 1
        exact putOrder_putOrder (s := s) (p := resumingOrder o) rfl _
      · rintro ⟨j, k⟩ st hat hf rfl
        obtain ⟨hx, hst, rfl⟩ := hat
        rw [State.settleAll_eq hends]
        exact htook k st ((hasStep_putOrder (p := resumingOrder o) ho rfl rfl).mpr hst) hf
      · rw [State.settleAll_eq hends]
        refine hothers x fun k st hst hf hxe => ?_
        have hst' := (hasStep_putOrder (p := resumingOrder o) ho rfl rfl).mp hst
        obtain ⟨hat, -⟩ := hall k st hst' hf
        rw [hxe] at hat
        exact hx _ _ hat hf rfl

end Sys2Proof.Machine
end

section
/-! SUPPORT. The hand-off of an ended order (R24, R25) and what the account unit makes of it (R119 to R122). -/

namespace Sys2Proof.Machine

open Sys2Proof.Safety

/-! ## The order end summary (R25) -/

/-- Elements whose figure is 0 add nothing to a sum. -/
theorem sum_filter_pos {α : Type} (d sort : α → Bool) (n : α → Nat) (l : List α) :
    (((l.filter fun a => d a && decide (0 < n a)).filter sort).map n).sum
      = ((l.filter fun a => d a && sort a).map n).sum := by
  induction l with
  | nil => rfl
  | cons a l ih =>
    simp only [List.filter_cons]
    cases d a with
    | false => exact ih
    | true =>
      by_cases hn : 0 < n a
      · simp only [hn, decide_true, Bool.and_self, if_true, List.filter_cons, Bool.true_and]
        cases sort a with
        | false => exact ih
        | true => simp only [if_true, List.map_cons, List.sum_cons, ih]
      · have h0 : n a = 0 := by omega
        simp only [hn, decide_false, Bool.and_false, Bool.false_eq_true, if_false, Bool.true_and]
        cases sort a with
        | false => exact ih
        | true => simp only [if_true, List.map_cons, List.sum_cons, h0, Nat.zero_add, ih]

/-- What an order's steps of a sort have drawn: those of net 0 add nothing (R25). -/
theorem hasDrawn_sum (sort : Step → Bool) (steps : List Step) :
    (((steps.filter hasDrawn).filter sort).map finalNet).sum = drawnBy sort steps := by
  have hd : hasDrawn = fun st => decide (st.state = .ended ∧ (st.kind = .preset ∨ st.kind = .openFill))
      && decide (0 < finalNet st) := by
    funext st
    simp only [hasDrawn, StepKindDraws, Bool.decide_and]
  rw [hd]
  exact sum_filter_pos _ sort finalNet steps

theorem sum_finRange_ite (p : FluidNo → Bool) (c : FluidNo) (n : Nat) :
    (allFluids.map fun f => if p f ∧ c = f then n else 0).sum = if p c then n else 0 := by
  have : (allFluids.map fun f => if p f ∧ c = f then n else 0).sum = ∑ f : FluidNo, if p f ∧ c = f then n else 0 :=
    (Fin.sum_univ_def _).symm
  rw [this, Finset.sum_eq_single c]
  · simp
  · intro f _ hf
    exact if_neg fun e => hf e.2.symm
  · intro h; exact absurd (Finset.mem_univ c) h

/-- The nets of the fluids of a sort add up to what the steps of such fluids have drawn. -/
theorem fluidSums (p : FluidNo → Bool) (draws : List Step) :
    (allFluids.map fun f => if p f then ((draws.filter fun st => decide (st.ctx.fluid = f)).map finalNet).sum else 0).sum
      = ((draws.filter fun st => p st.ctx.fluid).map finalNet).sum := by
  induction draws with
  | nil => simp
  | cons st draws ih =>
    have hsplit (f : FluidNo) : (if p f then (((st :: draws).filter fun st => decide (st.ctx.fluid = f)).map finalNet).sum
        else 0) = (if p f ∧ st.ctx.fluid = f then finalNet st else 0)
          + if p f then ((draws.filter fun st => decide (st.ctx.fluid = f)).map finalNet).sum else 0 := by
      by_cases hf : st.ctx.fluid = f <;> cases p f <;> simp [hf]
    simp only [hsplit, List.sum_map_add, ih, sum_finRange_ite]
    cases hp : p st.ctx.fluid <;> simp [hp]

/-- The fluids that are listed in a summary: those of which something has been drawn. -/
theorem summary_fluids_sum (i : IslandNo) (o : Order) (p : FluidNo → Bool) :
    (((o.summary i).fluids.filter fun x => p x.1).map (·.2)).sum = drawnBy (fun st => p st.ctx.fluid) o.steps := by
  rw [← hasDrawn_sum, ← fluidSums]
  generalize hd : o.steps.filter hasDrawn = draws
  have hf : (o.summary i).fluids = (allFluids.filter fun f => draws.any fun st => decide (st.ctx.fluid = f)).map fun f =>
      (f, ((draws.filter fun st => decide (st.ctx.fluid = f)).map finalNet).sum) := by
    simp only [Order.summary, hd]
  rw [hf]
  generalize allFluids = fluids
  induction fluids with
  | nil => rfl
  | cons f fluids ih =>
    simp only [List.filter_cons, List.map_cons, List.sum_cons]
    cases ha : draws.any fun st => decide (st.ctx.fluid = f) with
    | false =>
      have : (draws.filter fun st => decide (st.ctx.fluid = f)) = [] := by
        rw [List.filter_eq_nil_iff]
        exact List.any_eq_false.mp ha
      simpa [this] using ih
    | true =>
      cases hp : p f
      · simpa [hp] using ih
      · simpa [hp] using ih

theorem summary_all (i : IslandNo) (o : Order) : ((o.summary i).fluids.map (·.2)).sum = drawnBy (fun _ => true) o.steps := by
  have := summary_fluids_sum i o fun _ => true
  simpa using this

theorem summary_fluidNet (i : IslandNo) (o : Order) (code : Nat) :
    fluidNet (o.summary i).fluids code = fluidDrawn code o.steps :=
  summary_fluids_sum i o fun f => decide (f.val = code)

theorem summary_fuelNet (i : IslandNo) (o : Order) : (o.summary i).fuelNet = fuelDrawn o.steps :=
  hasDrawn_sum _ _

/-! ## The account at an order end (R119 to R122) -/

theorem Account.sampled_taken (clock h carry span : Nat) (a : Account) :
    let r := a.sampled clock h (consumptionSample carry span)
    let sample := sampleOf carry span
    let threshold := a.rate * (100 + a.margin) / 100
    r.1.markHours = some h ∧ r.1.carry = 0
      ∧ (a.rate = 0 → r.1.rate = sample ∧ r.1.highUse = a.highUse ∧ r.2 = false)
      ∧ (a.rate ≠ 0 → r.1.rate = (3 * a.rate + sample + 2) / 4
          ∧ (threshold < sample → r.2 = true ∧ r.1.highUse = some { clock, sample, before := a.rate })
          ∧ (sample ≤ threshold → r.2 = false ∧ r.1.highUse = none)) := by
  intro r sample threshold
  have hs : consumptionSample carry span = sample := rfl
  have ht : highUseThreshold a.rate a.margin = threshold := rfl
  refine ⟨rfl, rfl, fun h0 => ?_, fun h0 => ⟨?_, fun hlt => ?_, fun hle => ?_⟩⟩
  · simp only [r, Account.sampled, h0, hs, if_true, ne_eq, not_true, decide_false, Bool.false_and, and_self]
  · simp only [r, Account.sampled, h0, hs, if_false, smoothedRate]
  · simp only [r, Account.sampled, h0, hs, ht, hlt, if_false, ne_eq, not_false_eq_true, decide_true, Bool.and_self, if_true,
      and_self]
  · have : ¬ threshold < sample := by omega
    simp only [r, Account.sampled, h0, hs, ht, this, if_false, decide_false, Bool.and_false, Bool.false_eq_true, and_self]

/-- The consumption computation (R120, R121), for an account whose carry has been raised. -/
theorem Account.consumption_taken (s : State) (m : Summary) (a c : Account) (hstate : c.state = a.state)
    (hmark : c.markHours = a.markHours) (hrate : c.rate = a.rate) (hhigh : c.highUse = a.highUse)
    (hmargin : c.margin = a.margin) :
    let r := c.consumption s.cfg.minSpan s.supply.clock m
    ConsumptionTaken s m.hour m.fuelNet c.carry a r.1 r.2 := by
  intro r
  unfold ConsumptionTaken
  dsimp only
  have hunchanged {p : Account × Bool} (hp : r = p) (e : p = (c, false)) :
      r.1.markHours = a.markHours ∧ r.1.carry = c.carry ∧ r.1.rate = a.rate ∧ r.1.highUse = a.highUse ∧ r.2 = false := by
    rw [hp, e]
    exact ⟨hmark, rfl, hrate, hhigh, rfl⟩
  refine ⟨fun hno => ?_, fun h ha hh hf => ?_⟩
  · cases hh : m.hour with
    | none => exact hunchanged (p := c.consumption s.cfg.minSpan s.supply.clock m) rfl (by simp only [Account.consumption, hh])
    | some h =>
      refine hunchanged (p := c.consumption s.cfg.minSpan s.supply.clock m) rfl ?_
      simp only [Account.consumption, hh]
      refine if_neg fun e => ?_
      rcases hno with e' | e' | e'
      · exact e' (hstate ▸ e.1)
      · rw [hh] at e'; cases e'
      · omega
  · have hgo : c.state = .active ∧ 0 < m.fuelNet := ⟨hstate.trans ha, hf⟩
    refine ⟨fun hm => ?_, fun mark hm => ?_⟩
    · have hr : r = ({ c with markHours := some h, carry := 0 }, false) := by
        simp only [r, Account.consumption, hh, hmark, hm, if_pos hgo]
      rw [hr]
      exact ⟨rfl, rfl, hrate, hhigh, rfl⟩
    · have hr : r = if h - mark < s.cfg.minSpan then (c, false)
          else c.sampled s.supply.clock h (consumptionSample c.carry (h - mark)) := by
        simp only [r, Account.consumption, hh, hmark, hm, if_pos hgo]
      refine ⟨fun hlt => hunchanged hr (if_pos hlt), fun hle => ?_⟩
      rw [if_neg (Nat.not_lt.mpr hle)] at hr
      have := Account.sampled_taken s.supply.clock h c.carry (h - mark) c
      rw [hr]
      rw [hrate, hhigh, hmargin] at this
      exact this

theorem Account.consumption_same (minSpan clock : Nat) (m : Summary) (c : Account) :
    let r := c.consumption minSpan clock m
    r.1 = { c with carry := r.1.carry, rate := r.1.rate, markHours := r.1.markHours, highUse := r.1.highUse } := by
  intro r
  simp only [r, Account.consumption]
  split
  · rfl
  · split
    · split
      · rfl
      · split <;> rfl
    · rfl

theorem Account.serviced_eq (m : Summary) (c : Account) : c.serviced m = { c with
    lube := c.lube.map fun e => if c.state = .active ∧ m.hour ≠ none ∧ e.minQuantity ≤ fluidNet m.fluids e.fluid then
      { e with lastService := m.hour } else e } := by
  unfold Account.serviced
  cases hh : m.hour with
  | none => simp
  | some h => by_cases ha : c.state = .active <;> simp [ha]

/-- The account unit takes an order end summary as the statements say (R119 to R122). -/
theorem Account.afterOrder_settled (s : State) (i : IslandNo) (o : Order) (a : Account) :
    let r := a.afterOrder s.cfg.minSpan s.supply.clock (o.summary i)
    AccountSettled s o.hour o.steps a r.1 r.2 := by
  intro r
  have hfuel := summary_fuelNet i o
  have hall := summary_all i o
  have hhour : (o.summary i).hour = o.hour := rfl
  have hc := (a.addDrawn (o.summary i)).consumption_same s.cfg.minSpan s.supply.clock (o.summary i)
  have htaken := Account.consumption_taken s (o.summary i) a (a.addDrawn (o.summary i)) rfl rfl rfl rfl rfl
  have hr : r = ({ ((a.addDrawn (o.summary i)).consumption s.cfg.minSpan s.supply.clock (o.summary i)).1.serviced
      (o.summary i) with inUse := none },
      ((a.addDrawn (o.summary i)).consumption s.cfg.minSpan s.supply.clock (o.summary i)).2) := rfl
  have hlife : a.addDrawn (o.summary i) = { a with
      lifetimeFuel := min 18446744073709551615 (a.lifetimeFuel + fuelDrawn o.steps)
      lifetimeOther := min 18446744073709551615 (a.lifetimeOther + (drawnBy (fun _ => true) o.steps - fuelDrawn o.steps))
      carry := min 18446744073709551615 (a.carry + fuelDrawn o.steps) } := by
    rw [← hfuel, ← hall]
    rfl
  have hcarry : (a.addDrawn (o.summary i)).carry = min 18446744073709551615 (a.carry + fuelDrawn o.steps) := by rw [hlife]
  rw [hcarry, hfuel, hhour] at htaken
  generalize (a.addDrawn (o.summary i)).consumption s.cfg.minSpan s.supply.clock (o.summary i) = c at hc htaken hr
  obtain ⟨c, high⟩ := c
  simp only at hc htaken hr
  have hstate : c.state = a.state := by rw [hc, hlife]
  have hlube : c.lube = a.lube := by rw [hc, hlife]
  rw [Account.serviced_eq] at hr
  rw [hr]
  refine ⟨by rw [hc, hlife], htaken, ?_⟩
  simp only [hlube, hstate, hhour, summary_fluidNet]

/-! ## The hand-off (R25) -/

theorem State.takeSummary_eq (s : State) (m : Summary) : ∃ high : Bool, s.takeSummary m
    = { s.modAccount m.machine (fun a => (a.afterOrder s.cfg.minSpan s.supply.clock m).1) with
        ports := raised s (noticeIf (high = true) (notice .highUse)) }
    ∧ (∀ a, s.findAccount m.machine = some a → (a.afterOrder s.cfg.minSpan s.supply.clock m).2 = high)
    ∧ (s.findAccount m.machine = none → high = false) := by
  refine ⟨match s.findAccount m.machine with
    | some a => (a.afterOrder s.cfg.minSpan s.supply.clock m).2 | none => false, ?_, fun a ha => by rw [ha],
    fun ha => by rw [ha]⟩
  unfold State.takeSummary
  dsimp only
  rw [State.ite_raiseKind]
  congr 1
  exact raised_congr _ rfl rfl

theorem Account.afterOrder_machine (minSpan clock : Nat) (m : Summary) (a : Account) :
    (a.afterOrder minSpan clock m).1.machine = a.machine := by
  have hc := (a.addDrawn m).consumption_same minSpan clock m
  have hs (c : Account) : (c.serviced m).machine = c.machine := by
    unfold Account.serviced
    split
    · rfl
    · split <;> rfl
  unfold Account.afterOrder
  dsimp only
  rw [hs, hc]
  rfl

theorem State.handOff_eq (s : State) (i : IslandNo) (o : Order) (status : OrderEnd) : ∃ high : Bool,
    s.handOff i o status = { s with
      orders := s.orders.put i none
      journal := withRecord s.journal (o.clockNotSet || !s.supply.clockSet) (serviceRecord s i o status) 1
      islands := s.islands.modify i fun k => { k with lastSeq := some s.journal.next }
      accounts := (s.modAccount o.machine fun a =>
        (a.afterOrder s.cfg.minSpan s.supply.clock (o.summary i)).1).accounts
      ports := raised s (noticeIf (high = true) (notice .highUse) ++ noticeIf (s.journal.records = []) (notice .journalWaiting)
        ++ [noticeAt .orderEnded i]) }
    ∧ (∀ a, s.findAccount o.machine = some a → (a.afterOrder s.cfg.minSpan s.supply.clock (o.summary i)).2 = high)
    ∧ (s.findAccount o.machine = none → high = false) := by
  obtain ⟨high, ht, hsome, hnone⟩ := s.takeSummary_eq (o.summary i)
  refine ⟨high, ?_, hsome, hnone⟩
  unfold State.handOff
  rw [ht]
  simp only [State.writeReserved_eq, State.setOrder, State.modIsland, State.raiseAt_eq, Table.put_put, raised_append]
  congr 1
  refine (raised_congr _ rfl ?_)
  exact raised_congr _ rfl rfl

theorem serviceRecord_of (s : State) (i : IslandNo) (o : Order) (status : OrderEnd) :
    ∃ rec, serviceRecord s i o status = .service rec ∧ ServiceRecordOf s i o status o.steps rec := by
  refine ⟨_, rfl, rfl, rfl, rfl, rfl, rfl, rfl, List.length_map .., fun k st w hst hw => ?_⟩
  rw [List.getElem?_map, hst] at hw
  cases hw
  refine ⟨rfl, rfl, rfl, rfl, fun hne => ?_, fun f e hs hf he => ?_⟩
  · simp [stepRecord, hne]
  · simp [stepRecord, hs, hf, he]

/-- An ended order is handed off: `u` is the state at its end, which differs from `s` by what its last steps have done. -/
theorem State.handOff_handedOff {s u : State} {i : IslandNo} {o p : Order} {before : List Notice} (status : OrderEnd)
    (horders : ∀ j, j ≠ i → u.orders.get j = s.orders.get j) (hjournal : u.journal = s.journal)
    (hislands : u.islands = s.islands) (haccounts : u.accounts = s.accounts) (hsupply : u.supply = s.supply)
    (hcfg : u.cfg = s.cfg) (hports : u.ports = raised s before) (hmachine : p.machine = o.machine) (hhour : p.hour = o.hour)
    (hclock : p.admissionClock = o.admissionClock) (hset : p.clockNotSet = o.clockNotSet) :
    HandedOff s (u.handOff i p status) i o status p.steps before
      ∧ u.handOff i p status = { u with
          orders := (u.handOff i p status).orders, journal := (u.handOff i p status).journal
          islands := (u.handOff i p status).islands, accounts := (u.handOff i p status).accounts
          ports := (u.handOff i p status).ports } := by
  obtain ⟨high, ht, hsome, hnone⟩ := u.handOff_eq i p status
  have hfind (n : Nat) : u.findAccount n = s.findAccount n := by rw [State.findAccount, State.findAccount, haccounts]
  have hafter (n : Nat) : (u.handOff i p status).findAccount n = if n = o.machine then
      (s.findAccount o.machine).map fun a => (a.afterOrder s.cfg.minSpan s.supply.clock (p.summary i)).1
      else s.findAccount n := by
    rw [ht, ← hfind, ← hfind, ← hmachine, ← hcfg, ← hsupply]
    exact State.findAccount_modAccount u p.machine (fun a => Account.afterOrder_machine _ _ _ a) n
  obtain ⟨rec, hrec, hof⟩ := serviceRecord_of u i p status
  refine ⟨⟨?_, ⟨rec, ?_, ?_⟩, ?_, ⟨high, fun a ha => ?_, fun ha => ?_, ?_⟩, fun n hn => ?_⟩, ?_⟩
  · rw [ht]
    refine Table.ext_get fun j => ?_
    simp only [Table.put_get]
    split
    · rfl
    · next hj => exact horders j hj
  · rw [ht, hrec, hjournal, hset, hsupply]
  · obtain ⟨h₁, h₂, h₃, h₄, h₅, h₆⟩ := hof
    exact ⟨h₁, h₂.trans hmachine, h₃.trans hhour, h₄.trans hclock, h₅.trans (by rw [hsupply]), h₆⟩
  · rw [ht, hislands, hjournal]
  · rw [hmachine, hfind] at hsome
    refine ⟨_, by rw [hafter, if_pos rfl, ha]; rfl, ?_⟩
    have hs := Account.afterOrder_settled s i p a
    have hh := hsome a ha
    rw [hcfg, hsupply] at hh
    rw [← hh, ← hhour]
    exact hs
  · rw [hmachine, hfind] at hnone
    exact ⟨by rw [hafter, if_pos rfl, ha]; rfl, hnone ha⟩
  · rw [ht, hjournal]
    simp only [List.append_assoc, raised_append s before]
    exact raised_congr _ hcfg hports
  · rw [hafter, if_neg hn]
  · rw [ht]

end Sys2Proof.Machine
end

section
/-! SUPPORT. Step ends: what the tank, the channel and the order unit make of an end report (R12, R49, R91). -/

namespace Sys2Proof.Machine

open Sys2Proof.Safety

/-! ## The tank (R91, R94, R99) -/

theorem Tank.addToBook_eq (x : Int) (k : Tank) : k.addToBook x = bookCharged x k := rfl

theorem Tank.leakRest_eq (quiet : Nat) (k : Tank) : k.leakRest quiet = watchAtRest quiet k := by
  unfold Tank.leakRest watchAtRest Tank.isWorking
  have : (decide (k.leak = .busy) && !(decide (0 < k.reserved) || k.receipt.isSome)) = true
      ↔ k.leak = .busy ∧ k.reserved = 0 ∧ k.receipt = none := by
    simp
  rw [if_congr this rfl rfl]
  rfl

/-- A change of the reserved figure commutes with a charge to the book. -/
theorem bookCharged_reserved (x : Int) (n : Nat) (k : Tank) :
    bookCharged x { k with reserved := n } = { bookCharged x k with reserved := n } := by
  unfold bookCharged
  dsimp only
  split
  · rfl
  · split <;> rfl

theorem bookCharged_receipt (x : Int) (k : Tank) : (bookCharged x k).receipt = k.receipt := by
  unfold bookCharged
  split
  · rfl
  · split <;> rfl

theorem Tank.afterEnd_eq (st : Step) (net quiet : Nat) (k : Tank) :
    Tank.afterEnd st.kind st.target net quiet k = chargedTank quiet st net k := by
  unfold Tank.afterEnd chargedTank
  simp only [Tank.addToBook_eq, Tank.leakRest_eq, bookCharged_reserved]
  congr 1
  by_cases hd : st.kind = .preset ∨ st.kind = .openFill
  · have hd' := (StepKindDraws_iff st.kind).mpr hd
    simp only [hd', if_true, if_pos hd, Tank.addDrawn, bookCharged_receipt]
  · have hd' : ¬ StepKindDraws st.kind = true := fun e => hd ((StepKindDraws_iff _).mp e)
    simp only [hd', if_false, if_neg hd, Bool.false_eq_true]

/-! ## The end report (R49) -/

theorem State.sendEnd_eq (s : State) (st : Step) (rep : EndReport) (ht : rep.target = st.target) :
    let k := st.ctx.tank
    let charged := chargedTank (s.cfg.tanks.get k).quietTime st rep.figures.net
    s.sendEnd st rep = { s with
      tanks := s.tanks.modify k charged
      hoses := s.hoses.modify st.hose freedChannel
      ports := raised s
        (noticeIf (lowPassed (s.cfg.tanks.get k) (s.tanks.get k) (charged (s.tanks.get k))) (notice .tankLow))
      ends := s.ends ++ [rep] } := by
  intro k charged
  have hc : Tank.afterEnd st.kind st.target rep.figures.net (s.cfg.tanks.get k).quietTime = charged :=
    funext fun x => Tank.afterEnd_eq st _ _ x
  unfold State.sendEnd State.chargeEnd
  simp only [State.changeStock_eq, State.modHose, ht]
  rw [hc]
  rfl

/-! ## What limited an ended step (R31, R33) -/

/-- The bound that gives what a step wants is the first of the least ones, in the order of the table of R31. -/
theorem wants_iff (st : Step) (amount : Nat) (limit : LimitedBy) :
    Wants st amount limit ↔ requestedTarget st = (amount, limit) := by
  unfold Wants requestedTarget bounds lesser
  cases hp : st.preset with
  | none =>
    cases hc : st.ctx.capacityBound with
    | none => 
      simp only [Option.map_none, Option.toList_none, List.nil_append, List.append_nil, List.foldl_nil, Prod.mk.injEq]
      constructor
      · rintro ⟨-, -, -, ⟨h, -⟩ | ⟨-, h, hl⟩ | ⟨-, -, h, -⟩⟩
        · cases h
        · exact ⟨h.symm, hl.symm⟩
        · cases h
      · rintro ⟨rfl, rfl⟩
        simp
    | some c =>
      simp only [Option.map_none, Option.toList_none, List.nil_append, Option.map_some, Option.toList_some,
        List.cons_append, List.foldl_cons, List.foldl_nil, Option.some.injEq, reduceCtorEq]
      split
      all_goals simp only [Prod.mk.injEq]; grind
  | some p =>
    cases hc : st.ctx.capacityBound with
    | none =>
      simp only [Option.map_none, Option.toList_none, List.append_nil, Option.map_some, Option.toList_some,
        List.cons_append, List.nil_append, List.foldl_cons, List.foldl_nil, Option.some.injEq]
      split
      all_goals simp only [Prod.mk.injEq]; grind
    | some c =>
      simp only [Option.map_some, Option.toList_some,
        List.cons_append, List.nil_append, List.foldl_cons, List.foldl_nil, Option.some.injEq]
      grind

/-- The limited-by that an end report carries is the one that the statements name (log entry 17). -/
theorem endLimit_iff (st : Step) (limit : LimitedBy) : EndLimit st limit ↔ limit = endLimit st := by
  unfold EndLimit endLimit
  by_cases h : st.target = 0
  · simp only [h, ne_eq, not_true, false_imp_iff, true_imp_iff, true_and, if_true]
    constructor
    · rintro ⟨a, ha⟩
      rw [(wants_iff st a limit).mp ha]
    · rintro rfl
      exact ⟨_, (wants_iff st _ _).mpr rfl⟩
  · simp only [h, ne_eq, not_false_eq_true, true_imp_iff, false_imp_iff, and_true, if_false]

/-- A step that ends from WAITING_COUPLE, as the model leaves it (R47). -/
def endedWaitingStep (status : StepEnd) (cause : Option Cause) (st : Step) : Step :=
  Step.ended (endReport ⟨0, 0⟩ st status (waitingFigures st) cause) st

theorem Step.ended_waiting (r : StepRef) (status : StepEnd) (cause : Option Cause) (st : Step) :
    Step.ended (endReport r st status (waitingFigures st) cause) st = endedWaitingStep status cause st := rfl

theorem endedWaiting_iff {status : StepEnd} {cause : Option Cause} {st w : Step} :
    EndedWaiting status cause st w ↔ w = endedWaitingStep status cause st := by
  unfold EndedWaiting
  rw [endLimit_iff]
  constructor
  · rintro ⟨hl, hw⟩
    rw [hl] at hw
    exact hw
  · rintro rfl
    exact ⟨rfl, rfl⟩

/-! ## Orders in both vocabularies -/

theorem isError_iff (k : StepKind) (e : StepEnd) : isError k e = true ↔ ErrorFor k e := by
  cases e <;> simp [isError, ErrorFor, StepKindPreset]

theorem Step.endedInError_eq : Step.endedInError = Safety.endedInError := by
  funext st
  unfold Step.endedInError Safety.endedInError
  cases st.endStatus with
  | none => rfl
  | some e =>
    congr 1
    rw [Bool.eq_iff_iff, isError_iff, decide_eq_true_iff]

theorem Order.finalStatus_eq (o : Order) :
    o.finalStatus = o.endStatus.getD (if o.steps.any Safety.endedInError then .completeWithErrors else .complete) := by
  unfold Order.finalStatus
  rw [Step.endedInError_eq]

theorem endingOrder_hasPending (status : OrderEnd) (o : Order) : (endingOrder status o).hasPending = false := by
  rw [← Bool.not_eq_true, Order.hasPending_iff]
  rintro ⟨st, hm, hs⟩
  obtain ⟨w, -, rfl⟩ := List.mem_map.mp hm
  split at hs
  · cases hs
  · next h => exact h hs

theorem endingOrder_hasStarted (status : OrderEnd) (o : Order) : (endingOrder status o).hasStarted = o.hasStarted := by
  rw [Bool.eq_iff_iff, Order.hasStarted_iff, Order.hasStarted_iff]
  constructor
  · rintro ⟨st, hm, hf⟩
    obtain ⟨w, hw, rfl⟩ := List.mem_map.mp hm
    refine ⟨w, hw, ?_⟩
    split at hf
    · exact absurd hf (by simp [InFlight])
    · exact hf
  · rintro ⟨st, hm, hf⟩
    exact ⟨st, List.mem_map.mpr ⟨st, hm, if_neg hf.1⟩, hf⟩

/-! ## The order's course after a step end (R12, R13, R16) -/

theorem State.endIfDone_of {s : State} {i : IslandNo}
    (h : ∀ o, s.orders.get i = some o → o.state = .ending → o.hasStarted = true ∨ o.hasPending = true) :
    s.endIfDone i = s := by
  unfold State.endIfDone
  cases ho : s.orders.get i with
  | none => rfl
  | some o =>
    refine if_neg fun e => ?_
    obtain ⟨he, hs, hp⟩ := e
    rcases h o ho he with h | h
    · rw [h] at hs; exact absurd hs (by decide)
    · rw [h] at hp; exact absurd hp (by decide)

theorem State.endIfDone_done {s : State} {i : IslandNo} {o : Order} (ho : s.orders.get i = some o)
    (he : o.state = .ending) (hs : o.hasStarted = false) (hp : o.hasPending = false) :
    s.endIfDone i = s.handOff i o o.finalStatus := by
  unfold State.endIfDone State.endOrder
  simp only [ho, he, hs, hp, Bool.not_false, and_self, if_true]

section
variable {c : State} {i : IslandNo} {o : Order}

theorem State.stopOnError_goesOn (ho : c.orders.get i = some o) (hs : o.hasStarted = true) :
    c.stopOnError i = { c with orders := putOrder c i (endingOrder .stopped o) } := by
  rw [State.stopOnError, State.modOrder_eq ho]
  refine State.endIfDone_of fun p hp _ => .inl ?_
  have : p = endingOrder .stopped o := Option.some.inj (hp.symm.trans ((putOrder_get i).trans (if_pos rfl)))
  rw [this, endingOrder_hasStarted, hs]

theorem State.stopOnError_ends (ho : c.orders.get i = some o) (hs : o.hasStarted = false) :
    c.stopOnError i = State.handOff { c with orders := putOrder c i (endingOrder .stopped o) } i (endingOrder .stopped o)
      (o.endStatus.getD .stopped) := by
  rw [State.stopOnError, State.modOrder_eq ho]
  exact State.endIfDone_done ((putOrder_get i).trans (if_pos rfl)) rfl ((endingOrder_hasStarted _ o).trans hs)
    (endingOrder_hasPending _ _)

theorem State.course_stops (ho : c.orders.get i = some o) (he : o.state ≠ .ending) : c.course i true = c.stopOnError i := by
  unfold State.course
  simp only [ho]
  exact if_pos ⟨trivial, he⟩

theorem State.course_ending (ho : c.orders.get i = some o) (he : o.state = .ending) (b : Bool) :
    c.course i b = c.endIfDone i := by
  unfold State.course Order.holdDone
  simp [ho, he]

theorem State.course_holdDone (ho : c.orders.get i = some o) (hd : o.holdDone = true) : c.course i false = c.completeHold i := by
  unfold State.course
  simp [ho, hd]

theorem State.course_else (ho : c.orders.get i = some o) (he : o.state ≠ .ending) (hd : o.holdDone = false) :
    c.course i false = if o.groupDone then (if o.hasPending then c.nextGroup i else c.endOrder i) else c := by
  unfold State.course
  simp [ho, hd, he]

theorem Order.groupDone_iff (o : Order) : o.groupDone = true ↔ ¬ ∃ (j : Nat) (w : Step), o.steps[j]? = some w
    ∧ groupOf o.steps j = o.group ∧ w.state ≠ .ended ∧ w.state ≠ .notRun := by
  unfold Order.groupDone
  simp only [List.all_eq_true, Prod.forall, List.mem_zipIdx_iff_getElem?, Bool.or_eq_true, decide_eq_true_iff,
    Bool.not_eq_true', ← Bool.not_eq_true, Step.isLive_iff]
  constructor
  · rintro h ⟨j, w, hw, hg, hl⟩
    exact (h w j hw).elim (fun e => e hg) fun e => e hl
  · intro h w j hw
    by_cases hg : groupOf o.steps j = o.group
    · exact .inr fun hl => h ⟨j, w, hw, hg, hl⟩
    · exact .inl hg

theorem State.completeHold_held (ho : c.orders.get i = some o) (h : o.hasPending = true ∨ o.hasStarted = true) :
    c.completeHold i = { c with
      orders := putOrder c i { o with state := .held }, ports := raised c [noticeAt .orderHeld i] } := by
  have h' : (o.hasPending || o.hasStarted) = true := by rw [Bool.or_eq_true]; exact h
  unfold State.completeHold
  simp only [ho, h', if_true, State.modOrder_eq ho, State.raiseAt_eq]
  congr 1
  exact raised_congr _ rfl rfl

theorem State.completeHold_ends (ho : c.orders.get i = some o) (hp : o.hasPending = false) (hs : o.hasStarted = false) :
    c.completeHold i = State.handOff { c with orders := putOrder c i { o with hold := none } } i { o with hold := none }
      o.finalStatus := by
  unfold State.completeHold State.endOrder
  simp only [ho, hp, hs, Bool.or_self, Bool.false_eq_true, if_false, State.modOrder_eq ho]
  rw [putOrder_get, if_pos rfl]
  rfl

theorem State.endOrder_eq (ho : c.orders.get i = some o) : c.endOrder i = c.handOff i o o.finalStatus := by
  unfold State.endOrder
  simp only [ho]

/-- An order that is not ACTIVE starts no group (R9). -/
theorem State.nextGroup_inactive (ho : c.orders.get i = some o) (ha : o.state ≠ .active) : c.nextGroup i = c := by
  rw [State.nextGroup, State.tryStart, ho]
  simp only
  split
  · rfl
  · exact if_neg fun e => ha e.1

end

/-! ## The order unit takes an end report (R12, R49) -/

theorem State.takeEnd_eq {s : State} {rep : EndReport} {st : Step} (h : HasStep s rep.ref st) :
    s.takeEnd rep = State.course { s with
      orders := putStep s rep.ref (st.ended rep), ports := raised s [noticeAt .stepEnded rep.ref.island] } rep.ref.island
      (st.stopOnError && isError st.kind rep.status) := by
  unfold State.takeEnd
  simp only [State.stepAt_eq_some.mpr h, State.modStep_eq h, State.raiseAt_eq]
  congr 2
  exact raised_congr _ rfl rfl

theorem State.drain_one {s v : State} {rep : EndReport} (he : s.ends = [rep])
    (hv : State.takeEnd { s with ends := [] } rep = v) (hn : v.ends = []) : s.drain = v := by
  unfold State.drain State.takeEnds
  simp only [he, hv]
  unfold State.takeEnds
  simp only [hn]

end Sys2Proof.Machine
end

section
/-! SUPPORT. The commands that end one step: its timers, STEP_STOP, and a trip whose object it alone lies on (R34, R40, R41, R48). -/

namespace Sys2Proof.Machine

open Sys2Proof.Safety

/-! ## Folds that change little -/

theorem foldl_same {α β : Type} (f : β → α → β) (l : List α) (b : β) (h : ∀ a ∈ l, f b a = b) : l.foldl f b = b := by
  induction l with
  | nil => rfl
  | cons a l ih => rw [List.foldl_cons, h a (List.mem_cons_self ..), ih fun x hx => h x (List.mem_cons_of_mem _ hx)]

/-- A fold in which one element acts, and the others act neither before it nor after it. -/
theorem foldl_one {α β : Type} (f : β → α → β) {l : List α} {a : α} {b c : β} (hm : a ∈ l) (hn : l.Nodup)
    (h : f b a = c) (hb : ∀ x, x ≠ a → f b x = b) (hc : ∀ x, x ≠ a → f c x = c) : l.foldl f b = c := by
  obtain ⟨p, q, rfl⟩ := List.append_of_mem hm
  obtain ⟨-, hq, hd⟩ := List.nodup_append.mp hn
  rw [List.foldl_append, List.foldl_cons, foldl_same f p b fun x hx => hb x fun e => hd x hx a (List.mem_cons_self ..) e, h]
  exact foldl_same f q c fun x hx => hc x fun e => (List.nodup_cons.mp hq).1 (e ▸ hx)

/-! ## The objects of a trip (R48, R153) -/

theorem coversStep_iff (o : Scope) (r : StepRef) (st : Step) : coversStep o r st = true ↔ OnObject o r st := by
  cases o <;> simp [coversStep, OnObject, eq_comm]

/-- The step that a trip captures is a first one, and there is one exactly when a step in flight lies on the object (R153). -/
theorem State.capture_of {s : State} {o : Scope} {r : StepRef} {st : Step} {ord : Order}
    (ho : s.orders.get r.island = some ord) (hst : HasStep s r st) (hf : InFlight st) (hon : OnObject o r st)
    (honly : ∀ q w, HasStep s q w → InFlight w → OnObject o q w → q = r) :
    s.capture o = some { island := r.island, machine := ord.machine, index := r.idx + 1, hose := st.hose } := by
  have hfind : s.allSteps.find? (fun p => p.2.isStarted && coversStep o p.1 p.2) = some (r, st) := by
    cases hp : s.allSteps.find? fun p => p.2.isStarted && coversStep o p.1 p.2 with
    | none =>
      have := List.find?_eq_none.mp hp (r, st) (State.mem_allSteps.mpr hst)
      simp only [Bool.and_eq_true, Step.isStarted_iff, coversStep_iff] at this
      exact absurd ⟨hf, hon⟩ this
    | some p =>
      obtain ⟨q, w⟩ := p
      have hq := List.find?_some hp
      simp only [Bool.and_eq_true, Step.isStarted_iff, coversStep_iff] at hq
      have hw := State.mem_allSteps.mp (List.mem_of_find?_eq_some hp)
      cases honly q w hw hq.1 hq.2
      cases HasStep.unique hw hst
      rfl
  rw [State.capture, hfind, Option.bind_some, captureOf, ho]
  rfl

/-! ## A step's end entered -/

/-- The charge of a step's end to its tank (R91). -/
abbrev chargeOf (s : State) (st : Step) (net : Nat) : Tank → Tank :=
  chargedTank (s.cfg.tanks.get st.ctx.tank).quietTime st net

/-- The notices up to STEP_ENDED of a step's end (R49, R93). -/
def endNotices (s : State) (r : StepRef) (st : Step) (net : Nat) (first : List Notice) : List Notice :=
  noticeIf (lowPassed (s.cfg.tanks.get st.ctx.tank) (s.tanks.get st.ctx.tank) (chargeOf s st net (s.tanks.get st.ctx.tank)))
    (notice .tankLow) ++ first ++ [noticeAt .stepEnded r.island]

/-- The state with a step's end entered and the order as `p`, before the order takes its course; `sh` is the shutdown unit. -/
def endEntered (s b : State) (sh : Shutdown) (r : StepRef) (st : Step) (net : Nat) (first : List Notice) (p : Order) :
    State :=
  { b with
    hoses := s.hoses.modify st.hose freedChannel, orders := putOrder s r.island p
    tanks := s.tanks.modify st.ctx.tank (chargeOf s st net), ports := raised s (endNotices s r st net first), shut := sh }

/-- A state that differs by its reports and its shutdown unit only. -/
def ReportsAndShut (s b : State) : Prop := b = { s with reports := b.reports, shut := b.shut }

section
variable {s b : State} {r : StepRef} {st : Step} {o : Order} {net : Nat} {first : List Notice}

/-- The end report of a step is taken: the step's record is its end, and the order takes its course. -/
theorem drain_entered {sh : Shutdown} {rep : EndReport} {q D : State} (hb : ReportsAndShut s b) (hends : s.ends = [])
    (ho : s.orders.get r.island = some o) (hst : HasStep s r st) (href : rep.ref = r)
    (hq : q = { b with
      hoses := s.hoses.modify st.hose freedChannel, tanks := s.tanks.modify st.ctx.tank (chargeOf s st net)
      ports := raised s (noticeIf (lowPassed (s.cfg.tanks.get st.ctx.tank) (s.tanks.get st.ctx.tank)
        (chargeOf s st net (s.tanks.get st.ctx.tank))) (notice .tankLow) ++ first)
      shut := sh, ends := [rep] })
    (hD : (endEntered s b sh r st net first { o with steps := o.steps.set r.idx (st.ended rep) }).course r.island
      (st.stopOnError && isError st.kind rep.status) = D) (he : D.ends = []) : q.drain = D := by
  have hbo : b.orders = s.orders := by rw [hb]
  have hbe : b.ends = [] := by rw [hb]; exact hends
  have hbc : b.cfg = s.cfg := by rw [hb]
  refine State.drain_one (rep := rep) (by rw [hq]) ?_ he
  rw [← hD, State.takeEnd_eq (st := st) (by
    rw [href, hq]
    exact (HasStep.congr (by simp only [hbo])).mpr hst)]
  rw [href, hq]
  congr 1
  simp only [endEntered, endNotices]
  rw [raised_append s (_ ++ first) [noticeAt .stepEnded r.island], hbe]
  congr 1
  · exact raised_congr _ hbc rfl
  · rw [putStep_congr (s := s) (by exact hbo), putStep_eq_putOrder ho]

/-- A command ends the step in the state `b`: what it gives is the order's course, with the outputs brought into line. -/
def EndGives (s b : State) (c : Instr) (r : StepRef) (st : Step) (net : Nat) (first : List Notice) (p : Order)
    (stops : Bool) : Prop :=
  ∃ sh : Shutdown, sh = { b.shut with relay := sh.relay, pumps := sh.pumps } ∧
    ∀ D, (endEntered s b sh r st net first p).course r.island stops = D → D.ends = [] → D.shut = sh →
      (∀ j, j ≠ r.island → D.orders.get j = s.orders.get j) → D.endIfDone r.island = D → Gives c s D.alignOutputs

/-- A step that ends outside a trip: its report is taken as the command ends. -/
theorem sendEnd_gives {c : Instr} {rep : EndReport} (hends : s.ends = []) (ho : s.orders.get r.island = some o)
    (hst : HasStep s r st) (href : rep.ref = r) (htarget : rep.target = st.target)
    (hc : ∀ t, (s.sendEnd st rep).settleAll = t → Gives c s t) :
    EndGives s s c r st rep.figures.net [] { o with steps := o.steps.set r.idx (st.ended rep) }
      (st.stopOnError && isError st.kind rep.status) := by
  refine ⟨s.shut, rfl, fun D hD he _ _ _ => hc _ ?_⟩
  rw [State.settleAll, drain_entered (b := s) (sh := s.shut) rfl hends ho hst href ?_ hD he]
  rw [State.sendEnd_eq s st rep htarget, hends, List.append_nil]
  rfl

/-! ### The trip of an object on which one waiting step lies -/

/-- The trip reaches the one step on its object, and no other (R48, R155). -/
theorem tripHoses_one {h : HoseNo} {obj : Scope} {cause : Cause} {t : State} (ht : t.orders = s.orders)
    (hh : t.hoses = s.hoses) (hat : StepOfHose s h r st) (hon : OnObject obj r st) (hw : st.state = .waitingCouple)
    (honly : ∀ x q w, (s.hoses.get x).step = some q → HasStep s q w → OnObject obj q w → x = h) :
    allHoses.foldl (State.tripHoseAt obj cause) t
      = t.sendEnd st (endReport r st .shutdown (waitingFigures st) (some cause)) := by
  obtain ⟨href, hst, rfl⟩ := hat
  have hstep {q : StepRef} {w : Step} : HasStep t q w ↔ HasStep s q w := HasStep.congr (by rw [ht])
  have hsend := State.sendEnd_eq t st (endReport r st .shutdown (waitingFigures st) (some cause)) rfl
  refine foldl_one _ (mem_allHoses st.hose) (List.nodup_finRange 16) ?_ (fun x hx => ?_) (fun x hx => ?_)
  · have hs : t.hoseStep st.hose = some (r, st) := State.hoseStep_eq_some.mpr ⟨by rw [hh]; exact href, hstep.mpr hst⟩
    have hcov : coversStep obj r st = true := (coversStep_iff obj r st).mpr hon
    simp only [State.tripHoseAt, hs, hcov, if_true, State.tripStep, if_pos hw]
    rfl
  · cases hs : t.hoseStep x with
    | none => simp only [State.tripHoseAt, hs]
    | some p =>
      obtain ⟨q, w⟩ := p
      obtain ⟨hq, hw'⟩ := State.hoseStep_eq_some.mp hs
      have hcov : ¬ coversStep obj q w = true := fun e =>
        hx (honly x q w (by rw [← hh]; exact hq) (hstep.mp hw') ((coversStep_iff obj q w).mp e))
      simp only [State.tripHoseAt, hs, if_neg hcov]
  · generalize t.sendEnd st (endReport r st .shutdown (waitingFigures st) (some cause)) = v at hsend
    have hvo : v.orders = s.orders := by rw [hsend]; exact ht
    have hvh : (v.hoses.get x).step = (s.hoses.get x).step := by
      rw [hsend]
      simp only [Table.modify_of_ne _ _ hx, hh]
    cases hs : v.hoseStep x with
    | none => simp only [State.tripHoseAt, hs]
    | some p =>
      obtain ⟨q, w⟩ := p
      obtain ⟨hq, hw'⟩ := State.hoseStep_eq_some.mp hs
      have hcov : ¬ coversStep obj q w = true := fun e =>
        hx (honly x q w (hvh ▸ hq) ((HasStep.congr (by rw [hvo])).mp hw') ((coversStep_iff obj q w).mp e))
      simp only [State.tripHoseAt, hs, if_neg hcov]

/-- A step's end handed over, the outputs brought into line, and a notice raised. -/
theorem sendEnd_raised (hb : ReportsAndShut s b) (hends : s.ends = []) (st : Step) (rep : EndReport)
    (ht : rep.target = st.target) (k : NoticeKind) :
    (b.sendEnd st rep).alignOutputs.raiseKind k = { b with
      hoses := s.hoses.modify st.hose freedChannel, tanks := s.tanks.modify st.ctx.tank (chargeOf s st rep.figures.net)
      ports := raised s (noticeIf (lowPassed (s.cfg.tanks.get st.ctx.tank) (s.tanks.get st.ctx.tank)
        (chargeOf s st rep.figures.net (s.tanks.get st.ctx.tank))) (notice .tankLow) ++ [notice k])
      shut := (b.sendEnd st rep).alignOutputs.shut, ends := [rep] } := by
  have hsend := State.sendEnd_eq b st rep ht
  generalize b.sendEnd st rep = v at hsend
  have halign : v.alignOutputs = { v with shut := v.alignOutputs.shut } := rfl
  generalize v.alignOutputs.shut = sh at halign
  obtain ⟨hends', hcfg, htanks, hhoses, hports⟩ : b.ends = [] ∧ b.cfg = s.cfg ∧ b.tanks = s.tanks ∧ b.hoses = s.hoses
      ∧ b.ports = s.ports := by
    rw [hb]
    exact ⟨hends, rfl, rfl, rfl, rfl⟩
  rw [halign, State.raiseKind_eq, hsend, raised_append]
  simp only [hends', hcfg, htanks, hhoses, List.nil_append]
  congr 1
  exact raised_congr _ rfl (raised_congr _ hcfg hports)

/-- The trip of an object on which one waiting step lies (R155): its entry, the step's end, TRIP, then the order's course. -/
theorem trip_gives {h : HoseNo} {rep : Report} {b' : State} {c : Instr} (hb' : b' = { s with reports := b'.reports })
    (hends : s.ends = []) (hat : StepOfHose s h r st) (ho : s.orders.get r.island = some o)
    (hone : TripsOne s h r st (reportObject rep)) (hw : st.state = .waitingCouple)
    (hc : ∀ t, b'.trip rep = t → t.shut.map = (tripEntered b' r st o.machine rep).shut.map → Gives c s t) :
    EndGives s (tripEntered b' r st o.machine rep) c r st 0 [notice .trip]
      { o with
        steps := o.steps.set r.idx (st.ended (endReport r st .shutdown (waitingFigures st) (some (reportCause rep)))) }
      (st.stopOnError && isError st.kind .shutdown) := by
  obtain ⟨hobj, -, honly, hhoses, hending⟩ := hone
  have hst : HasStep s r st := hat.2.1
  have hf : InFlight st := by simp [InFlight, hw]
  have hon : OnObject (reportObject rep) r st := by
    obtain ⟨-, -, rfl⟩ := hat
    rcases hobj with e | e <;> simp [OnObject, e]
  -- the entry
  have hentry : b'.setEntry (reportObject rep) (some (newEntry b' rep)) = tripEntered b' r st o.machine rep := by
    have hcap := State.capture_of (s := b') (o := reportObject rep) (r := r) (st := st) (ord := o) (by rw [hb']; exact ho)
      ((HasStep.congr (by rw [hb'])).mpr hst) hf hon
      (fun q w hq hfq hoq => honly q w ((HasStep.congr (by rw [hb'])).mp hq) hfq hoq)
    unfold State.setEntry newEntry
    rw [hcap]
    rfl
  -- the steps on the object: the one step ends
  have horders : (tripEntered b' r st o.machine rep).tripOrders (reportObject rep) = tripEntered b' r st o.machine rep := by
    rcases hobj with e | e <;> rw [e] <;> rfl
  have hbo : (tripEntered b' r st o.machine rep).orders = s.orders := by rw [hb']; rfl
  have hbh : (tripEntered b' r st o.machine rep).hoses = s.hoses := by rw [hb']; rfl
  have hfold := tripHoses_one (cause := reportCause rep) hbo hbh hat hon hw hhoses
  have htrip : b'.trip rep = ((((tripEntered b' r st o.machine rep).sendEnd st (endReport r st .shutdown (waitingFigures st)
      (some (reportCause rep)))).alignOutputs.raiseKind .trip).drain.endDone).alignOutputs := by
    unfold State.trip
    simp only [hentry, horders, hfold]
  have hb : ReportsAndShut s (tripEntered b' r st o.machine rep) := by
    unfold ReportsAndShut tripEntered
    rw [hb']
  have hsend := State.sendEnd_eq (tripEntered b' r st o.machine rep) st
    (endReport r st .shutdown (waitingFigures st) (some (reportCause rep))) rfl
  generalize hv : (tripEntered b' r st o.machine rep).sendEnd st
    (endReport r st .shutdown (waitingFigures st) (some (reportCause rep))) = v at hsend htrip
  refine ⟨v.alignOutputs.shut, ?_, fun D hD he hsh hothers hdone => ?_⟩
  · rw [hsend]
    rfl
  · have hdrain : (v.alignOutputs.raiseKind .trip).drain = D := by
      refine drain_entered (b := tripEntered b' r st o.machine rep)
        (rep := endReport r st .shutdown (waitingFigures st) (some (reportCause rep))) hb hends ho hst rfl ?_ hD he
      rw [← hv]
      exact sendEnd_raised hb hends st _ rfl .trip
    have hall : D.endDone = D := by
      refine foldl_same _ _ _ fun j _ => ?_
      by_cases hj : j = r.island
      · rw [hj]; exact hdone
      · refine State.endIfDone_of fun p hp hs => .inl ?_
        rw [hothers j hj] at hp
        exact (Order.hasStarted_iff p).mpr (hending j p hj hp hs)
    refine hc _ (by rw [htrip, hdrain, hall]) ?_
    change D.shut.map = _
    rw [hsh]
    change v.shut.map = _
    rw [hsend]

end

end Sys2Proof.Machine
end

section
/-! SUPPORT. The four ways in which one step ends, and the order's course after each (R12, R34, R40, R41, R48). -/

namespace Sys2Proof.Machine

open Sys2Proof.Safety

theorem State.applyReport_trips {s : State} {r : Report} (ha : s.actionOf (reportCause r) = .trip)
    (hn : s.entryAt (reportObject r) = none) : s.applyReport r = s.trip r := by
  simp only [State.applyReport, ha, hn]

/-- A trip request for an object that is not latched (R163). -/
theorem tripRequest_new {s : State} {r : Report} {e : Entry} (ha : s.actionOf (reportCause r) = .trip)
    (hn : s.entryAt (reportObject r) = none) (he : (s.trip r).entryAt (reportObject r) = some e) :
    tripRequest r s = ((.ok, .trip .new e.firstCause e.repeats), s.trip r) := by
  have hl : s.isLatched (reportObject r) = false := by
    rw [← Bool.not_eq_true, State.isLatched_iff, not_not]; exact hn
  simp only [tripRequest, State.applyReport_trips ha hn, he, hl, Bool.false_eq_true, if_false]

/-- The trip that a command carries out is given by it (R150, R163). -/
theorem TripCommand.gives {s : State} {c : Instr} {rep : Report} {b' : State} (h : TripCommand s c rep b')
    (hr : s.running = true) (hn : s.entryAt (reportObject rep) = none) :
    b' = { s with reports := b'.reports }
      ∧ ∀ t e, b'.trip rep = t → t.entryAt (reportObject rep) = some e → e.firstCause = reportCause rep → e.repeats = 0 →
        Gives c s t := by
  rcases h with ⟨rfl, ha, rfl⟩ | ⟨l, tag, h, rfl, hA, rfl, rfl⟩ | ⟨l, tag, k, rfl, hA, rfl, rfl⟩
  · refine ⟨rfl, fun t e ht _ _ _ => ?_⟩
    change exec (.shutdownReport rep) s = .next t
    rw [exec, execShutdownReport, State.whileRunning_of hr]
    exact congrArg _ ((State.applyReport_trips (s := { s with reports := s.reports.erase rep }) ha hn).trans ht)
  · refine ⟨rfl, fun t e ht he hc h0 => ⟨_, rfl, State.serve_only hA tag h.val (tripHose l) ?_⟩⟩
    rw [tripHose, hoseOf_val]
    dsimp only
    rw [tripRequest_new (s := b') (r := .linkTrip (.hose h) l) rfl hn (by rw [ht]; exact he), ht, hc, h0]
    rfl
  · refine ⟨rfl, fun t e ht he hc h0 => ⟨_, rfl, State.serve_only hA tag k.val (tripTank l) ?_⟩⟩
    rw [tripTank, tankOf_val]
    dsimp only
    rw [tripRequest_new (s := b') (r := .linkTrip (.tank k) l) rfl hn (by rw [ht]; exact he), ht, hc, h0]
    rfl

theorem entryAt_tripEntered (s : State) (r : StepRef) (st : Step) (machine : Nat) (rep : Report) :
    ∃ e, (tripEntered s r st machine rep).entryAt (reportObject rep) = some e ∧ e.firstCause = reportCause rep
      ∧ e.repeats = 0 :=
  ⟨_, Table.put_self _ _ _, rfl, rfl⟩

/-- A SETTLING step's end as the model leaves it (R41, R49). -/
theorem Step.ended_settled {st : Step} {e : StepEnd} (he : st.endStatus = some e) (r : StepRef) :
    st.ended (endReport r st e (meteredFigures st) st.cause) = { endedStep st with limitedBy := endLimit st } := by
  have hm : meteredFigures st
      = { gross := grossOf st, net := netOf st, overrun := netOf st - st.target, residue := st.target - netOf st } := rfl
  simp only [Step.ended, endReport, endedStep, hm, he]

/-- A command that ends a hose's step enters its end, and gives what the order's course comes to. -/
theorem endsBy_gives {s b : State} {h : HoseNo} {r : StepRef} {st u : Step} {o : Order} {c : Instr} {first : List Notice}
    {e : StepEnd} {net : Nat} (hS : Steady s) (hat : StepOfHose s h r st) (ho : s.orders.get r.island = some o)
    (hend : EndsBy s h r st o.machine c b first e net u) :
    ReportsAndShut s b ∧ u.state = .ended
      ∧ EndGives s b c r st net first { o with steps := o.steps.set r.idx u } (st.stopOnError && isError st.kind e) := by
  have hhose : s.hoseStep h = some (r, st) := State.hoseStep_eq_some.mpr ⟨hat.1, hat.2.1⟩
  rcases hend with ⟨rfl, hw, ht, rfl, rfl, rfl, rfl, hu⟩ | ⟨rfl, hs, ht, rfl, rfl, he, rfl, hl, hu⟩
    | ⟨⟨l, tag, rfl, h8, hA⟩, hw, rfl, rfl, rfl, rfl, hu⟩ | ⟨rep, b', hc, hone, hw, rfl, rfl, rfl, rfl, hu⟩
  · rw [endedWaiting_iff, ← Step.ended_waiting r] at hu
    refine ⟨rfl, by rw [hu]; rfl, ?_⟩
    have hg := sendEnd_gives (rep := endReport r st .notCoupled (waitingFigures st) none) (c := .coupleWaitExpiry h) hS.2 ho
      hat.2.1 rfl rfl fun t ht' => by
        have hwait : b.coupleWait h = b.sendEnd st (endReport r st .notCoupled (waitingFigures st) none) := by
          simp only [State.coupleWait, hhose]
          exact if_pos ⟨Option.isSome_iff_ne_none.mpr ht, hw⟩
        change exec (.coupleWaitExpiry h) b = .next t
        rw [exec, execCoupleWaitExpiry, State.whileRunning_of hS.1, hwait, ht']
    rw [hu]
    exact hg
  · have hu' : u = st.ended (endReport r st e (meteredFigures st) st.cause) := by
      rw [endLimit_iff] at hl
      rw [hl] at hu
      rw [hu, Step.ended_settled he]
    refine ⟨rfl, by rw [hu']; rfl, ?_⟩
    have hg := sendEnd_gives (rep := endReport r st e (meteredFigures st) st.cause) (c := .settleTimerExpiry h) hS.2 ho
      hat.2.1 rfl rfl fun t ht' => by
        have hend : b.settleEnd h = b.sendEnd st (endReport r st e (meteredFigures st) st.cause) := by
          simp only [State.settleEnd, hhose, he, Option.getD_some]
          exact if_pos ⟨Option.isSome_iff_ne_none.mpr ht, hs⟩
        change exec (.settleTimerExpiry h) b = .next t
        rw [exec, execSettleTimerExpiry, State.whileRunning_of hS.1, hend, ht']
    rw [hu']
    exact hg
  · rw [endedWaiting_iff, ← Step.ended_waiting r] at hu
    refine ⟨rfl, by rw [hu]; rfl, ?_⟩
    have hg := sendEnd_gives (rep := endReport r st .stopped (waitingFigures st) none)
      (c := .stepStop l tag (.fields ⟨r.island.val, r.idx + 1⟩)) hS.2 ho hat.2.1 rfl rfl fun t ht' => by
        refine ⟨_, rfl, State.serve_only hA tag _ stepStop ?_⟩
        rw [stepStop_named b (i := r.island) rfl (by simp) (by simpa using h8), ho]
        have hat' : b.stepAt ⟨r.island, r.idx + 1 - 1⟩ = some st := State.stepAt_eq_some.mpr hat.2.1
        have hc : (st.isRunning || decide (st.state = .suspended ∨ st.state = .waitingCouple)) = true := by simp [hw]
        have hclose : b.closeStep ⟨r.island, r.idx + 1 - 1⟩ st .stopped
            = b.sendEnd st (endReport r st .stopped (waitingFigures st) none) := if_pos hw
        simp only [hat', hc, if_true, hclose, ht']
        rfl
    rw [hu]
    exact hg
  · rw [endedWaiting_iff, ← Step.ended_waiting r] at hu
    obtain ⟨hb', hgives⟩ := TripCommand.gives hc hS.1 hone.2.1
    refine ⟨?_, by rw [hu]; rfl, ?_⟩
    · unfold ReportsAndShut tripEntered
      rw [hb']
    · have hg := trip_gives (c := c) hb' hS.2 hat ho hone hw fun t ht hmap => by
        obtain ⟨en, hen, hcause, hrep⟩ := entryAt_tripEntered b' r st o.machine rep
        refine hgives t en ht ?_ hcause hrep
        unfold State.entryAt at hen ⊢
        rw [hmap]
        exact hen
      rw [hu]
      exact hg

end Sys2Proof.Machine
end

section
/-! SUPPORT. What the order's course comes to when one step has ended (R12, R13, R16, R24). -/

namespace Sys2Proof.Machine

open Sys2Proof.Safety

theorem State.alignOutputs_eq (s : State) : s.alignOutputs = { s with shut := s.alignOutputs.shut } := rfl

/-- Outputs brought into line follow, whatever they were meanwhile. -/
theorem State.alignOutputs_follow_of {s u : State} {sh : Shutdown} (hu : u.shut = sh)
    (h : sh = { s.shut with relay := sh.relay, pumps := sh.pumps }) : OutputsFollow s u.alignOutputs := by
  obtain ⟨-, hr, hp⟩ := State.alignOutputs_follow (s := u) rfl
  refine ⟨?_, hr, hp⟩
  have : u.alignOutputs.shut = { u.shut with relay := u.alignOutputs.shut.relay, pumps := u.alignOutputs.shut.pumps } := rfl
  rw [this, hu, h]

section
variable {s b : State} {c : Instr} {r : StepRef} {st : Step} {net : Nat} {first : List Notice} {o o' : Order} {stops : Bool}

theorem endEntered_get (sh : Shutdown) (p : Order) : (endEntered s b sh r st net first p).orders.get r.island = some p :=
  (putOrder_get _).trans (if_pos rfl)

/-- The course changes the order and raises notices, and that is all. -/
theorem EndGives.changes (hg : EndGives s b c r st net first o' stops) (hb : ReportsAndShut s b) (hS : Steady s)
    (p : Order) (l : List Notice)
    (hcourse : ∀ x : State, x.orders.get r.island = some o' → x.islands = s.islands →
      x.course r.island stops = { x with orders := putOrder x r.island p, ports := raised x l })
    (hp : p.state = .ending → p.hasStarted = true ∨ p.hasPending = true) :
    ∃ t, Gives c s t ∧ OutputsFollow b t ∧ t = { b with
      hoses := s.hoses.modify st.hose freedChannel, orders := putOrder s r.island p
      tanks := s.tanks.modify st.ctx.tank (chargeOf s st net)
      ports := raised s (endNotices s r st net first ++ l), shut := t.shut } := by
  obtain ⟨sh, hsh, hD⟩ := hg
  have hbe : b.ends = [] := by rw [hb]; exact hS.2
  have hbc : b.cfg = s.cfg := by rw [hb]
  have hx := hcourse _ (endEntered_get (s := s) (b := b) (st := st) (net := net) (first := first) sh o') (by rw [hb]; rfl)
  have horders : putOrder (endEntered s b sh r st net first o') r.island p = putOrder s r.island p :=
    putOrder_putOrder (s := s) (p := o') rfl p
  rw [horders] at hx
  refine ⟨_, hD _ hx hbe rfl (fun j hj => ?_) (State.endIfDone_of fun q hq hs => ?_), State.alignOutputs_follow_of rfl hsh, ?_⟩
  · exact (putOrder_get j).trans (if_neg hj)
  · have : q = p := Option.some.inj (hq.symm.trans ((putOrder_get _).trans (if_pos rfl)))
    subst this
    exact hp hs
  · rw [State.alignOutputs_eq, raised_append]
    congr 1
    exact raised_congr _ hbc rfl

/-- The course hands the order off. -/
theorem EndGives.handsOff (hg : EndGives s b c r st net first o' stops) (hb : ReportsAndShut s b) (hS : Steady s)
    (p q : Order) (status : OrderEnd)
    (hcourse : ∀ x : State, x.orders.get r.island = some o' →
      x.course r.island stops = State.handOff { x with orders := putOrder x r.island q } r.island p status)
    (hmachine : p.machine = o.machine) (hhour : p.hour = o.hour) (hclock : p.admissionClock = o.admissionClock)
    (hset : p.clockNotSet = o.clockNotSet) :
    ∃ t, Gives c s t ∧ OutputsFollow b t ∧ HandedOff s t r.island o status p.steps (endNotices s r st net first)
      ∧ t = { b with
        hoses := s.hoses.modify st.hose freedChannel, tanks := s.tanks.modify st.ctx.tank (chargeOf s st net)
        orders := t.orders, journal := t.journal, islands := t.islands, accounts := t.accounts, ports := t.ports
        shut := t.shut } := by
  obtain ⟨sh, hsh, hD⟩ := hg
  have hbe : b.ends = [] := by rw [hb]; exact hS.2
  have hx := hcourse _ (endEntered_get (s := s) (b := b) (st := st) (net := net) (first := first) sh o')
  have horders : putOrder (endEntered s b sh r st net first o') r.island q = putOrder s r.island q :=
    putOrder_putOrder (s := s) (p := o') rfl q
  rw [horders] at hx
  obtain ⟨hoff, ht⟩ := State.handOff_handedOff (s := s)
    (u := { endEntered s b sh r st net first o' with orders := putOrder s r.island q }) (i := r.island) (o := o) (p := p)
    (before := endNotices s r st net first) status (fun j hj => (putOrder_get j).trans (if_neg hj)) (by rw [hb]; rfl)
    (by rw [hb]; rfl) (by rw [hb]; rfl) (by rw [hb]; rfl) (by rw [hb]; rfl) rfl hmachine hhour hclock hset
  rw [← hx] at hoff ht
  generalize hDx : (endEntered s b sh r st net first o').course r.island stops = D at hoff ht
  have horders' : D.orders = s.orders.put r.island none := hoff.1
  refine ⟨_, hD D hDx (by rw [ht]; exact hbe) (by rw [ht]; rfl) (fun j hj => ?_) (State.endIfDone_of fun w hw => ?_),
    State.alignOutputs_follow_of (by rw [ht]; rfl) hsh, hoff, ?_⟩
  · rw [horders', Table.put_of_ne _ _ hj]
  · rw [horders', Table.put_self] at hw
    cases hw
  · rw [State.alignOutputs_eq, ht]
    rfl

end

end Sys2Proof.Machine
end

section
namespace Sys2Proof.Machine

open Sys2Proof.Safety

theorem Bool.eq_false_of_not_iff {b : Bool} {p : Prop} (h : b = true ↔ p) (hp : ¬ p) : b = false := by
  rw [← Bool.not_eq_true, h]; exact hp

theorem Order.hasSettling_iff (o : Order) : o.hasSettling = true ↔ ∃ st ∈ o.steps, st.state = .settling := by
  simp only [Order.hasSettling, List.any_eq_true, decide_eq_true_iff]

/-- A pending hold completes when nothing that it waits for is left (R16). -/
theorem Order.holdDone_iff (o : Order) : o.holdDone = true ↔ o.state = .holdPending
    ∧ ((o.hold = some .request ∧ ¬ ∃ st ∈ o.steps, InFlight st)
      ∨ (o.hold = some .power ∧ ¬ ∃ st ∈ o.steps, st.state = .settling)) := by
  rw [← Order.hasStarted_iff, ← Order.hasSettling_iff]
  unfold Order.holdDone
  cases o.hold with
  | none => simp
  | some x => cases x <;> simp

/-- Settles O42: the step's end is entered (`endsBy_gives`), and the order's course is one of the equations of
`State.course`. -/
theorem timersEndTheStep : Obligations.TimersEndTheStep := by
  intro h r st u o c b first e net s hS hat ho hend k charged i o' before entered gives handsOff stops started waits settles
    goesOn completes final
  obtain ⟨hb, hu, hg⟩ := endsBy_gives hS hat ho hend
  obtain ⟨-, -, rfl⟩ := hat
  have hstarted : o'.hasStarted = true ↔ started := Order.hasStarted_iff o'
  have hwaits : o'.hasPending = true ↔ waits := Order.hasPending_iff o'
  have hgroup : o'.groupDone = true ↔ ¬ goesOn := Order.groupDone_iff o'
  have hstops : (st.stopOnError && isError st.kind e) = true ↔ stops := by
    rw [Bool.and_eq_true, isError_iff]; exact and_comm
  have hno (hst : ¬ stops) : EndGives s b c r st net first o' false := by
    rw [← Bool.eq_false_of_not_iff hstops hst]; exact hg
  have hidle (hs : o.state ≠ .holdPending) : o'.holdDone = false :=
    Bool.eq_false_of_not_iff (Order.holdDone_iff o') fun e => hs e.1
  have hfinal : o'.finalStatus = final := Order.finalStatus_eq o'
  have hself {x : State} (hx : x.orders.get i = some o') : { x with orders := putOrder x i o', ports := raised x [] } = x := by
    rw [putOrder_self hx, raised_nil]
  have hself' {x : State} (hx : x.orders.get i = some o') : { x with orders := putOrder x i o' } = x := by
    rw [putOrder_self hx]
  refine ⟨fun hs hst => ?_, fun hs hst hw => ?_, fun hst hs hf => ?_, fun hst hs hf => ?_, fun hst hs hc => ⟨fun hw => ?_,
    fun hf hw => ?_⟩, fun hst hs hgo hc => ?_, fun hst hs hgo => ?_, fun hst hs hgo hw => ?_, fun hst hs hgo => ?_,
    ?_⟩
  · refine hg.changes hb hS o' [] (fun x hx _ => ?_) fun _ => .inl (hstarted.mpr hst)
    rw [hself hx, State.course_ending hx hs]
    exact State.endIfDone_of fun q hq _ => .inl (by cases hx.symm.trans hq; exact hstarted.mpr hst)
  · refine hg.handsOff hb hS o' o' final (fun x hx => ?_) rfl rfl rfl rfl
    rw [hself' hx, State.course_ending hx hs, ← hfinal]
    exact State.endIfDone_done hx hs (Bool.eq_false_of_not_iff hstarted hst) (Bool.eq_false_of_not_iff hwaits hw)
  · rw [hstops.mpr hst] at hg
    refine hg.changes hb hS (endingOrder .stopped o') [] (fun x hx _ => ?_)
      fun _ => .inl (by rw [endingOrder_hasStarted]; exact hstarted.mpr hf)
    rw [State.course_stops hx hs, State.stopOnError_goesOn hx (hstarted.mpr hf), raised_nil]
  · rw [hstops.mpr hst] at hg
    refine hg.handsOff hb hS (endingOrder .stopped o') (endingOrder .stopped o') _ (fun x hx => ?_) rfl rfl rfl rfl
    rw [State.course_stops hx hs, State.stopOnError_ends hx (Bool.eq_false_of_not_iff hstarted hf)]
  · refine (hno hst).changes hb hS { o' with state := .held } [noticeAt .orderHeld i] (fun x hx _ => ?_) nofun
    rw [State.course_holdDone hx ((Order.holdDone_iff o').mpr ⟨hs, hc⟩)]
    exact State.completeHold_held hx (hw.elim (fun e => .inr (hstarted.mpr e)) fun e => .inl (hwaits.mpr e))
  · refine (hno hst).handsOff hb hS { o' with hold := none } { o' with hold := none } final (fun x hx => ?_) rfl rfl rfl rfl
    rw [State.course_holdDone hx ((Order.holdDone_iff o').mpr ⟨hs, hc⟩), ← hfinal]
    exact State.completeHold_ends hx (Bool.eq_false_of_not_iff hwaits hw) (Bool.eq_false_of_not_iff hstarted hf)
  · refine (hno hst).changes hb hS o' [] (fun x hx _ => ?_) fun he => absurd (hs.symm.trans he) (by decide)
    have hnot : ¬ (o'.state = .holdPending ∧ ((o'.hold = some .request ∧ ¬ started) ∨ (o'.hold = some .power ∧ ¬ settles))) := by
      rintro ⟨-, hc'⟩
      rcases hc with ⟨hh, hc⟩ | ⟨hh, hc⟩ <;> rcases hc' with ⟨hh', hc'⟩ | ⟨hh', hc'⟩
      · exact hc' hc
      · cases hh.symm.trans hh'
      · cases hh.symm.trans hh'
      · exact hc' hc
    rw [hself hx, State.course_else hx (fun e => absurd (hs.symm.trans e) (by decide))
      (Bool.eq_false_of_not_iff (Order.holdDone_iff o') hnot), if_neg fun e => hgroup.mp e hgo]
  · refine (hno hst).changes hb hS o' [] (fun x hx _ => ?_) fun he => absurd (hs.symm.trans he) (by decide)
    rw [hself hx, State.course_else hx (fun e => absurd (hs.symm.trans e) (by decide)) (hidle (by rw [hs]; decide))]
    by_cases hg : goesOn
    · rw [if_neg fun e => hgroup.mp e hg]
    · rw [if_pos (hgroup.mpr hg), if_pos (hwaits.mpr (hgo.resolve_left hg))]
      exact State.nextGroup_inactive hx fun e => absurd (hs.symm.trans e) (by decide)
  · refine (hno hst).handsOff hb hS o' o' final (fun x hx => ?_) rfl rfl rfl rfl
    rw [hself' hx, State.course_else hx (fun e => absurd (hs.symm.trans e) (by decide)) (hidle (by rw [hs]; decide)),
      if_pos (hgroup.mpr hgo), if_neg fun e => hw (hwaits.mp e), State.endOrder_eq hx, hfinal]
  · refine (hno hst).changes hb hS o' [] (fun x hx _ => ?_) fun he => absurd (hs.symm.trans he) (by decide)
    rw [hself hx, State.course_else hx (fun e => absurd (hs.symm.trans e) (by decide)) (hidle (by rw [hs]; decide)),
      if_neg fun e => hgroup.mp e hgo]
  · intro n w hst hs hw hp hbefore hgo g
    have hnext : NextAt o' n w := ⟨hw, hp, hbefore⟩
    have hcourse {x : State} (hx : x.orders.get i = some o') : x.course i false = x.nextGroup i := by
      rw [State.course_else hx (fun e => absurd (hs.symm.trans e) (by decide)) (hidle (by rw [hs]; decide)),
        if_pos (hgroup.mpr hgo), if_pos (hwaits.mpr ⟨w, List.mem_of_getElem? hw, hp⟩)]
    refine ⟨fun hpres => ?_, fun hpres hh hgap => ?_, fun hpres hh hfree => ?_⟩
    · refine (hno hst).changes hb hS o' [] (fun x hx hi => ?_) fun he => absurd (hs.symm.trans he) (by decide)
      rw [hself hx, hcourse hx]
      exact State.nextGroup_absent (by rw [hi]; exact hpres)
    · refine (hno hst).changes hb hS { o' with state := .held, hold := some .gap, gapTaken := some g } [noticeAt .orderHeld i]
        (fun x hx hi => ?_) nofun
      rw [hcourse hx]
      exact State.nextGroup_gap hx hnext hs (by rw [hi]; exact hpres) hh hgap
    · obtain ⟨sh, hsh, hD⟩ := hno hst
      have hx := endEntered_get (s := s) (b := b) (r := r) (st := st) (net := net) (first := first) sh o'
      have hmap : sh.map = b.shut.map := by rw [hsh]
      have hfree' : GroupFree (endEntered s b sh r st net first o') i o' g := by
        intro j w hw hgw
        obtain ⟨hc, hcov, hd⟩ := hfree j w hw hgw
        refine ⟨hc, fun hcov' => hcov ?_, hd⟩
        unfold Covered State.entryAt at hcov' ⊢
        change (sh.map.get _ ≠ none ∨ sh.map.get _ ≠ none ∨ sh.map.get _ ≠ none ∨ sh.map.get _ ≠ none) at hcov'
        rw [hmap] at hcov'
        exact hcov'
      obtain ⟨v, hv, ⟨horders, hhoses, hothers⟩, he⟩ := State.nextGroup_free hx hnext hs
        (by rw [show (endEntered s b sh r st net first o').islands = s.islands by rw [hb]; rfl]; exact hpres) hh hfree'
      refine ⟨_, hD v ((hcourse hx).trans hv) ?_ (by rw [he]; rfl) (fun j hj => ?_) (State.endIfDone_of fun q hq hq' => ?_),
        State.alignOutputs_follow_of (by rw [he]; rfl) hsh, ⟨horders, hhoses, hothers⟩, ?_⟩
      · rw [he]
        change b.ends = []
        rw [hb]
        exact hS.2
      · rw [horders, putOrder_get, if_neg hj]
        exact (putOrder_get j).trans (if_neg hj)
      · rw [horders, putOrder_get, if_pos rfl] at hq
        cases hq
        exact absurd (hs.symm.trans hq') (by decide)
      · rw [State.alignOutputs_eq, he]
        simp only [entered, List.append_nil]
        rfl

end Sys2Proof.Machine
end

section
namespace Sys2Proof.Machine

open Sys2Proof.Safety

/-- The hold reason with which an order whose last step ends is handed off: a pending hold that completes is discarded (R16). -/
def holdAtEnd (o : Order) : Option HoldReason := if o.state ≠ .ending ∧ o.holdDone = true then none else o.hold

/-- The course of an order whose steps have all ended or not run: it is handed off, whatever its state (R12, R13). -/
theorem State.course_allDone {x : State} {i : IslandNo} {o : Order} (hx : x.orders.get i = some o) {stops : Bool}
    (hdone : ∀ w ∈ o.steps, w.state = .ended ∨ w.state = .notRun) (hs : o.state = .ending ∨ stops = false) :
    x.course i stops = State.handOff { x with orders := putOrder x i { o with hold := holdAtEnd o } } i
      { o with hold := holdAtEnd o } o.finalStatus := by
  have hstarted : o.hasStarted = false := Bool.eq_false_of_not_iff (Order.hasStarted_iff o) fun ⟨w, hw, hf⟩ =>
    (hdone w hw).elim hf.2.1 hf.2.2
  have hpending : o.hasPending = false := Bool.eq_false_of_not_iff (Order.hasPending_iff o) fun ⟨w, hw, hp⟩ => by
    rcases hdone w hw with e | e <;> rw [hp] at e <;> cases e
  have hsame : x.handOff i o o.finalStatus = State.handOff { x with orders := putOrder x i { o with hold := o.hold } } i
      { o with hold := o.hold } o.finalStatus := by rw [putOrder_self hx]
  by_cases he : o.state = .ending
  · have hold : holdAtEnd o = o.hold := if_neg fun e => e.1 he
    rw [hold, State.course_ending hx he, State.endIfDone_done hx he hstarted hpending, hsame]
  · rw [hs.resolve_left he]
    by_cases hd : o.holdDone = true
    · have hold : holdAtEnd o = none := if_pos ⟨he, hd⟩
      rw [hold, State.course_holdDone hx hd]
      exact State.completeHold_ends hx hpending hstarted
    · have hgroup : o.groupDone = true := (Order.groupDone_iff o).mpr fun ⟨j, w, hw, _, h₁, h₂⟩ =>
        (hdone w (List.mem_of_getElem? hw)).elim h₁ h₂
      have hold : holdAtEnd o = o.hold := if_neg fun e => hd e.2
      rw [hold, State.course_else hx he (Bool.eq_false_iff.mpr hd), if_pos hgroup, hpending, State.endOrder_eq hx, ← hsame]
      rfl

/-- Settles O43: the step's end is entered (`endsBy_gives`), and its order, whose steps are all done, is handed off
(`State.course_allDone`). -/
theorem lastStepEndsTheOrder : Obligations.LastStepEndsTheOrder := by
  intro h r st u o c b first e net s hS hat ho hend hothers hstops k cfg charged steps
  obtain ⟨hb, hu, hg⟩ := endsBy_gives hS hat ho hend
  obtain ⟨-, -, rfl⟩ := hat
  have hdone : ∀ w ∈ steps, w.state = .ended ∨ w.state = .notRun := by
    intro w hw
    obtain ⟨j, hj⟩ := List.mem_iff_getElem?.mp hw
    rw [List.getElem?_set] at hj
    split at hj
    · split at hj
      · cases hj; exact .inl hu
      · cases hj
    · next hne => exact hothers j w (fun e => hne e.symm) hj
  have hs : o.state = .ending ∨ (st.stopOnError && isError st.kind e) = false := by
    refine hstops.imp id fun hn => ?_
    rw [← Bool.not_eq_true, Bool.and_eq_true, isError_iff]
    exact fun e => hn e.symm
  have hfinal : Order.finalStatus { o with steps := steps }
      = o.endStatus.getD (if steps.any endedInError then .completeWithErrors else .complete) := Order.finalStatus_eq _
  rw [← hfinal]
  exact hg.handsOff hb hS { o with steps := steps, hold := holdAtEnd { o with steps := steps } } _ _
    (fun x hx => State.course_allDone hx hdone hs) rfl rfl rfl rfl

end Sys2Proof.Machine
end

section
/-! SUPPORT. An instruction that closes the steps of a list, each at its own hose (R18, R22, R47, R48). -/

namespace Sys2Proof.Machine

open Sys2Proof.Safety

/-! ## What a step's end with nothing metered makes of its tank (R47, R91) -/

theorem bookCharged_zero {k : Tank} (h₁ : -2147483648 ≤ k.book) (h₂ : k.book ≤ 2147483647) : bookCharged 0 k = k := by
  unfold bookCharged
  rw [if_neg (by omega), if_neg (by omega), Int.add_zero]

theorem watchAtRest_figures (minutes : Nat) (k : Tank) :
    (watchAtRest minutes k).book = k.book ∧ (watchAtRest minutes k).reserved = k.reserved := by
  unfold watchAtRest
  split <;> exact ⟨rfl, rfl⟩

/-- A tank within its book's limits that is charged nothing keeps its book and gives back the target. -/
theorem chargedTank_zero {k : Tank} (h₁ : -2147483648 ≤ k.book) (h₂ : k.book ≤ 2147483647) (minutes : Nat) (st : Step) :
    (chargedTank minutes st 0 k).book = k.book ∧ (chargedTank minutes st 0 k).reserved = k.reserved - st.target := by
  have hz : bookCharged (-((0 : Nat) : Int)) k = k := bookCharged_zero h₁ h₂
  have hz' : bookCharged ((0 : Nat) : Int) k = k := bookCharged_zero h₁ h₂
  unfold chargedTank
  obtain ⟨hb, hr⟩ := watchAtRest_figures minutes (if st.kind = .preset ∨ st.kind = .openFill then
      { bookCharged (-((0 : Nat) : Int)) k with
        reserved := k.reserved - st.target, receipt := k.receipt.map fun r => { r with drawn := r.drawn + 0 } }
    else { bookCharged ((0 : Nat) : Int) k with reserved := k.reserved - st.target })
  rw [hb, hr, hz, hz']
  split <;> exact ⟨rfl, rfl⟩

/-- A fall of reserved passes no tank below its reorder level (R93). -/
theorem not_lowPassed_zero {k : Tank} (h₁ : -2147483648 ≤ k.book) (h₂ : k.book ≤ 2147483647) (c : TankCfg) (minutes : Nat)
    (st : Step) : ¬ lowPassed c k (chargedTank minutes st 0 k) := by
  obtain ⟨hb, hr⟩ := chargedTank_zero h₁ h₂ minutes st
  have : stockQuantity c k ≤ stockQuantity c (chargedTank minutes st 0 k) := by
    unfold stockQuantity available room
    rw [hb, hr]
    split <;> omega
  rintro ⟨ha, hlt⟩
  omega

theorem releasedTank_append (minutes : Nat) (l : List Step) (st : Step) (k : Tank) :
    releasedTank minutes (l ++ [st]) k = chargedTank minutes st 0 (releasedTank minutes l k) := by
  rw [releasedTank, List.foldl_append]
  rfl

/-- A step that ends from WAITING_COUPLE: its tank takes the target back, its channel is free, its report is on its way (R47). -/
theorem State.endWaiting_eq {s : State} {st : Step} (h₁ : -2147483648 ≤ (s.tanks.get st.ctx.tank).book)
    (h₂ : (s.tanks.get st.ctx.tank).book ≤ 2147483647) (r : StepRef) (e : StepEnd) (cause : Option Cause) :
    s.endWaiting r st e cause = { s with
      tanks := s.tanks.modify st.ctx.tank (chargedTank (s.cfg.tanks.get st.ctx.tank).quietTime st 0)
      hoses := s.hoses.modify st.hose freedChannel
      ends := s.ends ++ [endReport r st e (waitingFigures st) cause] } := by
  have hsend := State.sendEnd_eq s st (endReport r st e (waitingFigures st) cause) rfl
  have h0 : (endReport r st e (waitingFigures st) cause).figures.net = 0 := rfl
  have hno := not_lowPassed_zero h₁ h₂ (s.cfg.tanks.get st.ctx.tank) (s.cfg.tanks.get st.ctx.tank).quietTime st
  rw [h0] at hsend
  unfold noticeIf at hsend
  dsimp only at hsend
  rw [if_neg hno, raised_nil] at hsend
  exact hsend

/-! ## The closing of one step after another -/

/-- A waiting step, as the closings single it out. -/
abbrev isWaiting (st : Step) : Bool := decide (st.state = .waitingCouple)

/-- What an instruction does that closes a step in flight with a status: a waiting one ends at once, a RUNNING or SUSPENDED one
settles as `took` has it, and a SETTLING one changes by `took` alone. -/
structure Closes (act : State → StepRef × Step → State) (e : StepEnd) (cause : Option Cause) (took : Step → Step) : Prop where
  waits : ∀ t r st, st.state = .waitingCouple → act t (r, st) = t.endWaiting r st e cause
  settles : ∀ t r st, HasStep t r st → Running st ∨ st.state = .suspended → act t (r, st) = { t with
    hoses := t.hoses.modify st.hose (settlingChannel st.ctx.settleTime), orders := putStep t r (took st)
    reports := t.reports ++ runOnsOf [st] }
  stays : ∀ t r st, HasStep t r st → st.state = .settling → act t (r, st) = { t with orders := putStep t r (took st) }
  took_waiting : ∀ st, st.state = .waitingCouple → took st = st

/-- The end reports of the waiting steps of a list. -/
def waitingReports (e : StepEnd) (cause : Option Cause) (l : List (StepRef × Step)) : List EndReport :=
  (l.filter fun p => isWaiting p.2).map fun p => endReport p.1 p.2 e (waitingFigures p.2) cause

/-- The state when the steps of `l` have been closed and their end reports are on their way. -/
structure StepsClosed (s : State) (l : List (StepRef × Step)) (e : StepEnd) (cause : Option Cause) (took : Step → Step)
    (t : State) : Prop where
  taken : HosesTaken s l (fun _ st => closedChannel st) (fun _ st => took st) t
  tanks : ∀ k, t.tanks.get k = releasedTank (s.cfg.tanks.get k).quietTime
    ((l.map (·.2)).filter fun st => isWaiting st && decide (st.ctx.tank = k)) (s.tanks.get k)
  books : ∀ k, (t.tanks.get k).book = (s.tanks.get k).book
  only : t = { s with
    orders := t.orders, hoses := t.hoses, tanks := t.tanks, reports := s.reports ++ runOnsOf (l.map (·.2))
    ends := s.ends ++ waitingReports e cause l }

theorem runOnsOf_append (l m : List Step) : runOnsOf (l ++ m) = runOnsOf l ++ runOnsOf m := by
  simp [runOnsOf]

theorem closedChannel_of_waiting {st : Step} (h : st.state = .waitingCouple) : closedChannel st = freedChannel := by
  funext k
  rw [closedChannel, if_pos h]

theorem closedChannel_of_settles {st : Step} (h : Running st ∨ st.state = .suspended) :
    closedChannel st = settlingChannel st.ctx.settleTime := by
  have h₁ : st.state ≠ .waitingCouple := by rcases h with (h | h) | h <;> simp [h]
  have h₂ : st.state ≠ .settling := by rcases h with (h | h) | h <;> simp [h]
  funext k
  rw [closedChannel, if_neg h₁, if_neg h₂]

theorem closedChannel_of_settling {st : Step} (h : st.state = .settling) (k : Channel) : closedChannel st k = k := by
  rw [closedChannel, if_neg (by simp [h]), if_pos h]

section
variable {s t : State} {l : List (StepRef × Step)} {e : StepEnd} {cause : Option Cause} {took : Step → Step}
  {act : State → StepRef × Step → State} {r : StepRef} {st : Step}

theorem StepsClosed.nil (s : State) (e : StepEnd) (cause : Option Cause) (took : Step → Step) :
    StepsClosed s [] e cause took s :=
  ⟨HosesTaken.nil s _ _, fun _ => rfl, fun _ => rfl, by simp [runOnsOf, waitingReports]⟩

theorem StepsClosed.append (hact : Closes act e cause took) (hB : BooksLaw s) (h : StepsClosed s l e cause took t)
    (hnew : r ∉ l.map (·.1)) (hst : HasStep s r st) (hf : InFlight st) (hhose : ∀ q w, (q, w) ∈ l → w.hose ≠ st.hose) :
    StepsClosed s (l ++ [(r, st)]) e cause took (act t (r, st)) := by
  have hst' := h.taken.hasStep hnew hst
  have hreports (hw : st.state ≠ .waitingCouple) :
      waitingReports e cause (l ++ [(r, st)]) = waitingReports e cause l := by
    simp [waitingReports, isWaiting, hw]
  have htanks (hw : st.state ≠ .waitingCouple) (k : TankNo) :
      (((l ++ [(r, st)]).map (·.2)).filter fun st => isWaiting st && decide (st.ctx.tank = k))
        = (l.map (·.2)).filter fun st => isWaiting st && decide (st.ctx.tank = k) := by
    simp [isWaiting, hw]
  have hcases : st.state = .waitingCouple ∨ (Running st ∨ st.state = .suspended) ∨ st.state = .settling := by
    rw [or_assoc]; exact InFlight.cases hf
  rcases hcases with hw | hs | hs
  · -- the step ends at once
    have hcfg : t.cfg = s.cfg := by rw [h.only]
    have hbook := hB st.ctx.tank
    rw [← h.books st.ctx.tank] at hbook
    have hsend : act t (r, st) = { t with
        tanks := t.tanks.modify st.ctx.tank (chargedTank (s.cfg.tanks.get st.ctx.tank).quietTime st 0)
        hoses := t.hoses.modify st.hose freedChannel
        ends := t.ends ++ [endReport r st e (waitingFigures st) cause] } := by
      rw [hact.waits t r st hw, State.endWaiting_eq hbook.1 hbook.2, hcfg]
    rw [hsend]
    refine ⟨h.taken.append hnew hst hhose ?_ ?_, fun k => ?_, fun k => ?_, ?_⟩
    · rw [hact.took_waiting st hw, putStep_self hst']
    · rw [closedChannel_of_waiting hw]
    · simp only [Table.modify_get, h.tanks]
      by_cases hk : k = st.ctx.tank
      · subst hk
        simp only [if_true, List.map_append, List.map_cons, List.map_nil, List.filter_append]
        have : [st].filter (fun w => isWaiting w && decide (w.ctx.tank = st.ctx.tank)) = [st] := by simp [isWaiting, hw]
        rw [this, releasedTank_append]
      · have hk' : st.ctx.tank ≠ k := fun e => hk e.symm
        simp [hk, hk']
    · simp only [Table.modify_get]
      split
      · next hk =>
        rw [hk, (chargedTank_zero hbook.1 hbook.2 _ st).1, h.books]
      · exact h.books k
    · have hr : runOnsOf ((l ++ [(r, st)]).map (·.2)) = runOnsOf (l.map (·.2)) := by
        rw [List.map_append, runOnsOf_append]
        simp [runOnsOf, hw]
      have hends : waitingReports e cause (l ++ [(r, st)])
          = waitingReports e cause l ++ [endReport r st e (waitingFigures st) cause] := by
        simp [waitingReports, isWaiting, hw]
      rw [hr, hends, ← List.append_assoc, h.only]
  · have hw : st.state ≠ .waitingCouple := by rcases hs with (hs | hs) | hs <;> simp [hs]
    rw [hact.settles t r st hst' hs]
    refine ⟨h.taken.append hnew hst hhose rfl ?_, fun k => ?_, h.books, ?_⟩
    · rw [closedChannel_of_settles hs]
    · rw [htanks hw]; exact h.tanks k
    · rw [hreports hw, List.map_append, runOnsOf_append, ← List.append_assoc, h.only]
      rfl
  · have hw : st.state ≠ .waitingCouple := by simp [hs]
    rw [hact.stays t r st hst' hs]
    refine ⟨h.taken.append hnew hst hhose rfl ?_, fun k => ?_, h.books, ?_⟩
    · exact (Table.modify_id _ _ (closedChannel_of_settling hs _)).symm
    · rw [htanks hw]; exact h.tanks k
    · have hr : runOnsOf ((l ++ [(r, st)]).map (·.2)) = runOnsOf (l.map (·.2)) := by
        rw [List.map_append, runOnsOf_append]
        simp [runOnsOf, hs]
      rw [hreports hw, hr, h.only]

/-- The steps of a list are closed one after another: each is in flight and stands at its own hose (R29). -/
theorem StepsClosed.foldl (hact : Closes act e cause took) (hB : BooksLaw s) {L : List (StepRef × Step)}
    (hn : (L.map (·.1)).Nodup) (hL : ∀ r st, (r, st) ∈ L → HasStep s r st ∧ InFlight st ∧ StepOfHose s st.hose r st) :
    StepsClosed s L e cause took (L.foldl act s) := by
  refine foldl_parts act (fun l t => StepsClosed s l e cause took t) (StepsClosed.nil s e cause took) ?_
  rintro p ⟨r, st⟩ q t hl hp
  obtain ⟨hst, hf, hat⟩ := hL r st (by rw [hl]; simp)
  have hnew : r ∉ p.map (·.1) := notMem_of_nodup_part (by rw [← hl]; exact hn)
  refine hp.append hact hB hnew hst hf fun x w hw hhose => ?_
  obtain ⟨-, -, hatw⟩ := hL x w (by rw [hl]; exact List.mem_append_left _ hw)
  rw [hhose] at hatw
  exact hnew (StepOfHose.ref_unique hatw hat ▸ List.mem_map_of_mem (f := (·.1)) hw)

end

end Sys2Proof.Machine
end

section
/-! SUPPORT. The end reports of steps that ended from WAITING_COUPLE are taken one after another (R12, R47, R49). -/

namespace Sys2Proof.Machine

open Sys2Proof.Safety

theorem State.takeEnds_nil (n : Nat) {s : State} (h : s.ends = []) : State.takeEnds n s = s := by
  cases n with
  | zero => rw [State.takeEnds, ← h]
  | succ n => rw [State.takeEnds]; simp only [h]

theorem State.endIfDone_cases (s : State) (i : IslandNo) : s.endIfDone i = s
    ∨ ∃ o, s.orders.get i = some o ∧ o.state = .ending ∧ o.hasStarted = false ∧ o.hasPending = false
        ∧ s.endIfDone i = s.handOff i o o.finalStatus := by
  cases ho : s.orders.get i with
  | none => left; simp only [State.endIfDone, ho]
  | some o =>
    by_cases h : o.state = .ending ∧ o.hasStarted = false ∧ o.hasPending = false
    · obtain ⟨he, hs, hp⟩ := h
      exact .inr ⟨o, rfl, he, hs, hp, State.endIfDone_done ho he hs hp⟩
    · refine .inl (State.endIfDone_of fun p hp he => ?_)
      cases ho.symm.trans hp
      by_contra hn
      rw [not_or, Bool.not_eq_true, Bool.not_eq_true] at hn
      exact h ⟨he, hn⟩

theorem State.handOff_orders (s : State) (i : IslandNo) (o : Order) (status : OrderEnd) :
    (s.handOff i o status).orders = s.orders.put i none := by
  obtain ⟨high, ht, -⟩ := s.handOff_eq i o status
  rw [ht]

theorem State.handOff_ends (s : State) (i : IslandNo) (o : Order) (status : OrderEnd) :
    (s.handOff i o status).ends = s.ends := by
  obtain ⟨high, ht, -⟩ := s.handOff_eq i o status
  rw [ht]

theorem State.handOff_shut (s : State) (i : IslandNo) (o : Order) (status : OrderEnd) :
    (s.handOff i o status).shut = s.shut := by
  obtain ⟨high, ht, -⟩ := s.handOff_eq i o status
  rw [ht]

theorem State.endIfDone_ends (s : State) (i : IslandNo) : (s.endIfDone i).ends = s.ends := by
  rcases s.endIfDone_cases i with h | ⟨o, -, -, -, -, h⟩ <;> rw [h]
  exact State.handOff_ends ..

theorem State.endIfDone_shut (s : State) (i : IslandNo) : (s.endIfDone i).shut = s.shut := by
  rcases s.endIfDone_cases i with h | ⟨o, -, -, -, -, h⟩ <;> rw [h]
  exact State.handOff_shut ..

/-- What the end of an order changes (R25). -/
theorem State.endIfDone_only (s : State) (i : IslandNo) : s.endIfDone i = { s with
    orders := (s.endIfDone i).orders, journal := (s.endIfDone i).journal, islands := (s.endIfDone i).islands
    accounts := (s.endIfDone i).accounts, ports := (s.endIfDone i).ports } := by
  rcases s.endIfDone_cases i with h | ⟨o, -, -, -, -, h⟩
  · rw [h]
  · obtain ⟨high, ht, -⟩ := s.handOff_eq i o o.finalStatus
    rw [h, ht]

/-- An order that has ended does not end again. -/
theorem State.endIfDone_idem (s : State) (i : IslandNo) : (s.endIfDone i).endIfDone i = s.endIfDone i := by
  rcases s.endIfDone_cases i with h | ⟨o, -, -, -, -, h⟩
  · rw [h, h]
  · rw [h]
    refine State.endIfDone_of fun p hp => ?_
    rw [State.handOff_orders, Table.put_self] at hp
    cases hp

/-- The state when the end reports of the waiting steps of `l` have been taken and no order has taken its course. -/
def waitersEnded (s : State) (l : List (StepRef × Step)) (e : StepEnd) (cause : Option Cause) : State :=
  { s with
    ends := []
    orders := mapSteps s fun q st => if q ∈ l.map (·.1) then endedWaitingStep e cause st else st
    ports := raised s (l.map fun p => noticeAt .stepEnded p.1.island) }

theorem waitersEnded_nil {s : State} (h : s.ends = []) (e : StepEnd) (cause : Option Cause) :
    waitersEnded s [] e cause = s := by
  unfold waitersEnded
  rw [List.map_nil, List.map_nil, raised_nil, mapSteps_self fun _ _ _ => by simp, ← h]

/-- One more report taken. -/
theorem waitersEnded_cons {s t : State} {r : StepRef} {st : Step} {l : List (StepRef × Step)} (hst : HasStep s r st)
    (e : StepEnd) (cause : Option Cause) (x : List EndReport)
    (ht : t = { s with
      ends := x, orders := putStep s r (endedWaitingStep e cause st), ports := raised s [noticeAt .stepEnded r.island] })
    (hnew : r ∉ l.map (·.1)) :
    waitersEnded t l e cause = waitersEnded s ((r, st) :: l) e cause := by
  have ho : t.orders = mapSteps s fun q w => if q = r then endedWaitingStep e cause st else w := by
    rw [ht]; exact putStep_eq_mapSteps s r _
  unfold waitersEnded
  rw [mapSteps_mapSteps ho, List.map_cons, List.map_cons]
  have horders : (mapSteps s fun q w => if q ∈ l.map (·.1) then
        endedWaitingStep e cause (if q = r then endedWaitingStep e cause st else w)
      else if q = r then endedWaitingStep e cause st else w)
      = mapSteps s fun q w => if q ∈ r :: l.map (·.1) then endedWaitingStep e cause w else w := by
    refine mapSteps_congr fun q w hw => ?_
    by_cases hq : q = r
    · subst hq
      cases HasStep.unique hw hst
      simp [hnew]
    · simp only [if_neg hq]
      exact if_congr (by simp [hq]) rfl rfl
  have hports : raised t (l.map fun p => noticeAt .stepEnded p.1.island)
      = raised s (noticeAt .stepEnded r.island :: l.map fun p => noticeAt .stepEnded p.1.island) := by
    rw [← List.singleton_append, raised_append]
    exact raised_congr _ (by rw [ht]) (by rw [ht])
  rw [horders, hports, ht]

/-- The reports of the waiting steps of an order in ENDING are taken: the order ends with the last of them, if it ends. -/
theorem State.takeEnds_ending_cases {i : IslandNo} {e : StepEnd} {cause : Option Cause} :
    ∀ (l : List (StepRef × Step)) (n : Nat) (s : State) (p : Order), l.length ≤ n →
      s.ends = l.map (fun p => endReport p.1 p.2 e (waitingFigures p.2) cause) → (l.map (·.1)).Nodup →
      (∀ r st, (r, st) ∈ l → r.island = i ∧ HasStep s r st ∧ InFlight st) → s.orders.get i = some p → p.state = .ending →
      p.hasPending = false →
      State.takeEnds n s = waitersEnded s l e cause
        ∨ State.takeEnds n s = (waitersEnded s l e cause).endIfDone i := by
  intro l
  induction l with
  | nil =>
    intro n s p _ hends _ _ _ _ _
    exact .inl (by rw [State.takeEnds_nil n hends, waitersEnded_nil hends])
  | cons a l ih =>
    obtain ⟨r, st⟩ := a
    intro n s p hlen hends hn hl hp hs hpend
    obtain ⟨rfl, hst, hf⟩ := hl r st (List.mem_cons_self ..)
    obtain ⟨hnew, hn'⟩ := List.nodup_cons.mp hn
    cases n with
    | zero => simp at hlen
    | succ n =>
      -- the first report is taken
      generalize hrest : l.map (fun p => endReport p.1 p.2 e (waitingFigures p.2) cause) = rest
      have htake : State.takeEnds (n + 1) s = State.takeEnds n
          (State.takeEnd { s with ends := rest } (endReport r st e (waitingFigures st) cause)) := by
        rw [State.takeEnds]
        simp only [hends, List.map_cons, hrest]
      rw [htake, State.takeEnd_eq (st := st) (by exact hst)]
      generalize ht : ({ s with
        ends := rest, orders := putStep s r (endedWaitingStep e cause st)
        ports := raised s [noticeAt .stepEnded r.island] } : State) = t
      have ht' : ({ s with
          ends := rest, orders := putStep { s with ends := rest } r (st.ended (endReport r st e (waitingFigures st) cause))
          ports := raised { s with ends := rest } [noticeAt .stepEnded r.island] } : State) = t := by
        rw [← ht]
        congr 1
        exact raised_congr _ rfl rfl
      have hget : t.orders.get r.island = some { p with steps := p.steps.set r.idx (endedWaitingStep e cause st) } := by
        rw [← ht]
        exact (putStep_get _).trans (by rw [if_pos rfl, hp]; rfl)
      have hcourse : State.course t r.island (st.stopOnError && isError st.kind e) = t.endIfDone r.island :=
        State.course_ending hget hs _
      have hcourse' : State.course { s with
          ends := rest, orders := putStep { s with ends := rest } r (st.ended (endReport r st e (waitingFigures st) cause))
          ports := raised { s with ends := rest } [noticeAt .stepEnded r.island] } r.island
          (st.stopOnError && isError st.kind e) = t.endIfDone r.island := by
        rw [ht', hcourse]
      change State.takeEnds n (State.course { s with
          ends := rest, orders := putStep { s with ends := rest } r (st.ended (endReport r st e (waitingFigures st) cause))
          ports := raised { s with ends := rest } [noticeAt .stepEnded r.island] } r.island
          (st.stopOnError && isError st.kind e)) = _ ∨ State.takeEnds n (State.course { s with
          ends := rest, orders := putStep { s with ends := rest } r (st.ended (endReport r st e (waitingFigures st) cause))
          ports := raised { s with ends := rest } [noticeAt .stepEnded r.island] } r.island
          (st.stopOnError && isError st.kind e)) = _
      rw [hcourse', ← waitersEnded_cons hst e cause rest ht.symm hnew]
      have hpend' : Order.hasPending { p with steps := p.steps.set r.idx (endedWaitingStep e cause st) } = false := by
        refine Bool.eq_false_of_not_iff (Order.hasPending_iff _) fun ⟨w, hw, hwp⟩ => ?_
        rcases List.mem_or_eq_of_mem_set hw with hw | rfl
        · have := (Order.hasPending_iff p).mpr ⟨w, hw, hwp⟩
          rw [hpend] at this
          cases this
        · cases hwp
      have hrest' : ∀ q w, (q, w) ∈ l → q.island = r.island ∧ HasStep t q w ∧ InFlight w := by
        intro q w hq
        obtain ⟨hi, hw, hfw⟩ := hl q w (List.mem_cons_of_mem _ hq)
        have hne : q ≠ r := fun e => hnew (e ▸ List.mem_map_of_mem (f := (·.1)) hq)
        exact ⟨hi, (hasStep_putStep_of_ne hne (by rw [← ht])).mpr hw, hfw⟩
      have hends' : t.ends = l.map (fun p => endReport p.1 p.2 e (waitingFigures p.2) cause) := by rw [← ht, hrest]
      have hih := ih n t _ (by simpa using hlen) hends' hn' hrest' hget hs hpend'
      rcases t.endIfDone_cases r.island with hsame | ⟨q, hq, -, hstarted, -, -⟩
      · rw [hsame]; exact hih
      · -- the order ends with this report, and so no other is left
        have hnil : l = [] := by
          cases l with
          | nil => rfl
          | cons b l =>
            obtain ⟨x, w⟩ := b
            obtain ⟨hi, ⟨q', hq', hw⟩, hfw⟩ := hrest' x w (List.mem_cons_self ..)
            rw [hi, hq] at hq'
            cases hq'
            have := (Order.hasStarted_iff q).mpr ⟨w, List.mem_of_getElem? hw, hfw⟩
            rw [hstarted] at this
            cases this
        subst hnil
        have hnone : t.ends = [] := hends'
        right
        rw [State.takeEnds_nil n ((t.endIfDone_ends r.island).trans hnone), waitersEnded_nil hnone]

/-- Whether the order ends is seen when all the reports are in. -/
theorem State.takeEnds_ending {i : IslandNo} {e : StepEnd} {cause : Option Cause} (l : List (StepRef × Step)) (n : Nat)
    (s : State) (p : Order) (hlen : l.length ≤ n)
    (hends : s.ends = l.map fun p => endReport p.1 p.2 e (waitingFigures p.2) cause) (hn : (l.map (·.1)).Nodup)
    (hl : ∀ r st, (r, st) ∈ l → r.island = i ∧ HasStep s r st ∧ InFlight st) (hp : s.orders.get i = some p)
    (hs : p.state = .ending) (hpend : p.hasPending = false) :
    (State.takeEnds n s).endIfDone i = (waitersEnded s l e cause).endIfDone i := by
  rcases State.takeEnds_ending_cases l n s p hlen hends hn hl hp hs hpend with h | h <;> rw [h]
  exact State.endIfDone_idem _ i

end Sys2Proof.Machine
end

section
/-! SUPPORT. A cancel or a departure at an order (R18, R22, R24, R25, R47). -/

namespace Sys2Proof.Machine

open Sys2Proof.Safety

theorem closedStep_of_other {st : Step} (hr : ¬ Running st) (hs : st.state ≠ .suspended) (e : StepEnd) :
    closedStep e st = st := by
  rw [closedStep, if_neg hr, if_neg hs]

theorem State.closeStep_closes (e : StepEnd) : Closes (fun t p => t.closeStep p.1 p.2 e) e none (closedStep e) where
  waits t r st h := if_pos h
  settles t r st h hr := State.closeStep_settles h hr e
  stays t r st h hs := by
    have h₁ : st.state ≠ .waitingCouple := by simp [hs]
    have h₂ : ¬ (st.isRunning || decide (st.state = .suspended)) = true := by simp [Step.isRunning, hs]
    simp only [State.closeStep, if_neg h₁, if_neg h₂]
    rw [closedStep_of_other (by simp [Running, hs]) (by simp [hs]), putStep_self h]
  took_waiting st h := closedStep_of_other (by simp [Running, h]) (by simp [h]) e

/-- A step of an order that is closed with a status, as the model leaves it. -/
def closedEnd (e : StepEnd) (st : Step) : Step := if st.state = .waitingCouple then endedWaitingStep e none st else closedStep e st

theorem closed_iff (e : StepEnd) (st w : Step) : Closed e st w ↔ w = closedEnd e st := by
  unfold Closed closedEnd
  split
  · exact endedWaiting_iff
  · rfl

theorem closedStep_of_not_inFlight {e : StepEnd} {st : Step} (h : ¬ InFlight st) : closedStep e st = st := by
  have h₂ : st.state ≠ .suspended := fun e => h (by simp [InFlight, e])
  have h₃ : ¬ Running st := by rintro (e | e) <;> exact h (by simp [InFlight, e])
  exact closedStep_of_other h₃ h₂ e

theorem closedStep_pending {e : StepEnd} {st : Step} (h : (closedStep e st).state = .pending) : st.state = .pending := by
  unfold closedStep at h
  split at h
  · cases h
  · split at h
    · cases h
    · exact h

theorem closedEnd_pending {e : StepEnd} {st : Step} (h : (closedEnd e st).state = .pending) : st.state = .pending := by
  unfold closedEnd at h
  split at h
  · cases h
  · exact closedStep_pending h

/-! ## The started steps of an order in ENDING -/

section
variable {s : State} {i : IslandNo} {o : Order} {status : OrderEnd}

/-- A step in flight is not changed when its order goes to ENDING. -/
theorem endingOrder_getElem? {k : Nat} {st : Step} (hf : InFlight st) :
    (endingOrder status o).steps[k]? = some st ↔ o.steps[k]? = some st := by
  rw [endingOrder, List.getElem?_map]
  constructor
  · intro h
    obtain ⟨w, hw, hwst⟩ := Option.map_eq_some_iff.mp h
    split at hwst
    · subst hwst; exact absurd rfl hf.2.2
    · subst hwst; exact hw
  · intro h
    rw [h]
    exact congrArg some (if_neg hf.1)

theorem hasStep_ending {t : State} (ho : s.orders.get i = some o) (ht : t.orders = putOrder s i (endingOrder status o))
    {q : StepRef} {st : Step} (hf : InFlight st) : HasStep t q st ↔ HasStep s q st := by
  unfold HasStep
  rw [ht, putOrder_get]
  split
  · next hq => simp [hq, ho, endingOrder_getElem? hf]
  · rfl

/-- The steps of a sort that are in flight, among the started ones of the order in ENDING. -/
theorem startedOf_ending_filter {t : State} (ht : t.orders = putOrder s i (endingOrder status o)) (P : Step → Bool)
    (hP : ∀ st, P st = true → InFlight st) : ((startedOf t i).map (·.2)).filter P = o.steps.filter P := by
  have hget : t.orders.get i = some (endingOrder status o) := by rw [ht]; exact (putOrder_get i).trans (if_pos rfl)
  have hsteps : (t.stepsOf i).map (·.2) = (endingOrder status o).steps := by
    rw [State.stepsOf_eq hget, List.map_map]
    exact List.zipIdx_map_fst 0 _
  have h₁ : ((startedOf t i).map (·.2)).filter P = ((t.stepsOf i).map (·.2)).filter P := by
    rw [startedOf, List.filter_map, List.filter_filter, List.filter_map]
    congr 1
    refine List.filter_congr fun x _ => ?_
    simp only [Function.comp]
    cases hp : P x.2 with
    | false => rfl
    | true => rw [(Step.isStarted_iff x.2).mpr (hP _ hp)]; rfl
  rw [h₁, hsteps]
  show (o.steps.map _).filter P = _
  induction o.steps with
  | nil => rfl
  | cons st l ih =>
    rw [List.map_cons, List.filter_cons, List.filter_cons, ih]
    by_cases hs : st.state = .pending
    · rw [if_pos hs]
      have h₁ : P st = false := Bool.eq_false_iff.mpr fun h => (hP st h).1 hs
      have h₂ : P { st with state := .notRun } = false := Bool.eq_false_iff.mpr fun h => (hP _ h).2.2 rfl
      rw [h₁, h₂]
      rfl
    · rw [if_neg hs]

/-- A list of steps that stand each at its own hose holds at most 16 (R29). -/
theorem length_le_of_hoses {t : State} {l : List (StepRef × Step)} (hn : (l.map (·.1)).Nodup)
    (hl : ∀ r st, (r, st) ∈ l → HasStep t r st ∧ (t.hoses.get st.hose).step = some r) : l.length ≤ 16 := by
  have hinj : (l.map fun p => p.2.hose).Nodup := by
    refine List.Nodup.map_on ?_ hn.of_map
    rintro ⟨q, v⟩ hq ⟨r, w⟩ hr h
    obtain ⟨hv, hqs⟩ := hl q v hq
    obtain ⟨hw, hrs⟩ := hl r w hr
    have hh : v.hose = w.hose := h
    rw [hh, hrs] at hqs
    cases hqs
    cases HasStep.unique hv hw
    rfl
  have := hinj.length_le_card
  simpa using this

/-- The steps of the order when they have been closed. -/
abbrev closedSteps (o : Order) (status : OrderEnd) (e : StepEnd) : List Step :=
  (endingOrder status o).steps.map (closedEnd e)

/-- The state when the started steps of an order have been closed and their reports are taken, before it is seen whether the
order has ended (R18, R22, R47). -/
structure StepsShut (s : State) (i : IslandNo) (o : Order) (status : OrderEnd) (e : StepEnd) (u : State) : Prop where
  orders : u.orders = putOrder s i { endingOrder status o with steps := closedSteps o status e }
  tanks : ∀ k, u.tanks.get k = releasedTank (s.cfg.tanks.get k).quietTime
    ((o.steps.filter isWaiting).filter fun st => decide (st.ctx.tank = k)) (s.tanks.get k)
  hoses : ∀ k st, HasStep s ⟨i, k⟩ st → InFlight st → u.hoses.get st.hose = closedChannel st (s.hoses.get st.hose)
  others : ∀ h, (∀ k st, HasStep s ⟨i, k⟩ st → InFlight st → st.hose ≠ h) → u.hoses.get h = s.hoses.get h
  only : u = { s with
    orders := u.orders, hoses := u.hoses, tanks := u.tanks, reports := s.reports ++ runOnsOf o.steps
    ports := raised s ((o.steps.filter isWaiting).map fun _ => noticeAt .stepEnded i) }

theorem closedSteps_stepByStep (o : Order) (status : OrderEnd) (e : StepEnd) :
    StepByStep (Closed e) (endingOrder status o).steps (closedSteps o status e) := by
  refine ⟨List.length_map _, fun k st w hst hw => ?_⟩
  rw [List.getElem?_map, hst] at hw
  exact (closed_iff e st w).mpr (Option.some.inj hw).symm

/-- What the statements say of an order that is closed, whether a step of it is left or it is handed off (R24, R25). -/
theorem StepsShut.orderClosed {status : OrderEnd} {e : StepEnd} {u : State} (h : StepsShut s i o status e u) :
    OrderClosed s (u.endIfDone i).alignOutputs i o status e := by
  have hget : u.orders.get i = some { endingOrder status o with steps := closedSteps o status e } := by
    rw [h.orders]; exact (putOrder_get i).trans (if_pos rfl)
  have hpending : Order.hasPending { endingOrder status o with steps := closedSteps o status e } = false := by
    refine Bool.eq_false_of_not_iff (Order.hasPending_iff _) fun ⟨w, hw, hwp⟩ => ?_
    obtain ⟨st, hst, rfl⟩ := List.mem_map.mp hw
    have := (Order.hasPending_iff (endingOrder status o)).mpr ⟨st, hst, closedEnd_pending hwp⟩
    rw [endingOrder_hasPending] at this
    cases this
  have hdone := u.endIfDone_only i
  have htanks : (u.endIfDone i).tanks = u.tanks := by rw [hdone]
  have hhoses : (u.endIfDone i).hoses = u.hoses := by rw [hdone]
  refine ⟨closedSteps o status e, closedSteps_stepByStep o status e, fun k => ?_, fun k st hst hf => ?_, fun x hx => ?_,
    State.alignOutputs_follow ?_, ?_, fun hgoes => ?_, fun hends => ?_⟩
  · exact (congrArg (·.get k) htanks).trans (h.tanks k)
  · exact (congrArg (·.get st.hose) hhoses).trans (h.hoses k st hst hf)
  · exact (congrArg (·.get x) hhoses).trans (h.others x hx)
  · rw [State.endIfDone_shut, h.only]
  · rw [State.alignOutputs_eq]
    generalize (u.endIfDone i).alignOutputs.shut = sh
    generalize u.endIfDone i = v at hdone htanks hhoses
    rw [hdone, h.only]
  · have hsame : u.endIfDone i = u := by
      refine State.endIfDone_of fun p hp _ => .inl ?_
      rw [hget] at hp
      cases hp
      exact (Order.hasStarted_iff _).mpr hgoes
    rw [State.alignOutputs_eq, hsame]
    have hj : u.journal = s.journal := by rw [h.only]
    have hi : u.islands = s.islands := by rw [h.only]
    have ha : u.accounts = s.accounts := by rw [h.only]
    exact ⟨h.orders, hj, hi, ha, (congrArg State.ports h.only :)⟩
  · have hnone : Order.hasStarted { endingOrder status o with steps := closedSteps o status e } = false :=
      Bool.eq_false_of_not_iff (Order.hasStarted_iff _) fun ⟨w, hw, hf⟩ => hends w hw hf
    have hstatus : Order.finalStatus { endingOrder status o with steps := closedSteps o status e } = o.endStatus.getD status :=
      Order.finalStatus_eq _
    rw [State.endIfDone_done hget rfl hnone hpending, hstatus, State.alignOutputs_eq]
    obtain ⟨hoff, -⟩ := State.handOff_handedOff (s := s) (u := u) (i := i) (o := o)
      (p := { endingOrder status o with steps := closedSteps o status e })
      (before := (o.steps.filter isWaiting).map fun _ => noticeAt .stepEnded i) (o.endStatus.getD status)
      (fun j hj => by rw [h.orders]; exact (putOrder_get j).trans (if_neg hj)) (by rw [h.only]) (by rw [h.only])
      (by rw [h.only]) (by rw [h.only]) (by rw [h.only]) (by rw [h.only]) rfl rfl rfl rfl
    generalize State.handOff u i { endingOrder status o with steps := closedSteps o status e } (o.endStatus.getD status) = v
      at hoff
    exact hoff

/-- A cancel or a departure puts an order in ENDING and closes its started steps: those in WAITING_COUPLE end at once. -/
theorem State.closed_stepsShut (hends : s.ends = []) (hB : BooksLaw s) (hat : AtTheirHoses s i)
    (ho : s.orders.get i = some o) (status : OrderEnd) (e : StepEnd) :
    ∃ u, StepsShut s i o status e u
      ∧ ((s.modOrder i (Order.toEnding status)).closeSteps i fun _ => e).drain.endIfDone i = u.endIfDone i := by
  have hmod : s.modOrder i (Order.toEnding status) = { s with orders := putOrder s i (endingOrder status o) } :=
    State.modOrder_eq ho _
  generalize hs₁ : ({ s with orders := putOrder s i (endingOrder status o) } : State) = s₁ at hmod
  have horders₁ : s₁.orders = putOrder s i (endingOrder status o) := by rw [← hs₁]
  have hhoses₁ : s₁.hoses = s.hoses := by rw [← hs₁]
  have hget₁ : s₁.orders.get i = some (endingOrder status o) := by rw [horders₁]; exact (putOrder_get i).trans (if_pos rfl)
  have hmem {k : Nat} {st : Step} : (⟨i, k⟩, st) ∈ startedOf s₁ i ↔ HasStep s ⟨i, k⟩ st ∧ InFlight st := by
    rw [mem_startedOf]
    constructor
    · rintro ⟨-, hst, hf⟩
      exact ⟨(hasStep_ending ho horders₁ hf).mp hst, hf⟩
    · rintro ⟨hst, hf⟩
      exact ⟨rfl, (hasStep_ending ho horders₁ hf).mpr hst, hf⟩
  have hpending (f : Step → Step) (hf : ∀ st, (f st).state = .pending → st.state = .pending) :
      Order.hasPending { endingOrder status o with steps := (endingOrder status o).steps.map f } = false := by
    refine Bool.eq_false_of_not_iff (Order.hasPending_iff _) fun ⟨w, hw, hwp⟩ => ?_
    obtain ⟨st, hst, rfl⟩ := List.mem_map.mp hw
    have := (Order.hasPending_iff (endingOrder status o)).mpr ⟨st, hst, hf st hwp⟩
    rw [endingOrder_hasPending] at this
    cases this
  -- the started steps are closed
  have hfold : s₁.closeSteps i (fun _ => e) = (startedOf s₁ i).foldl (fun t p => t.closeStep p.1 p.2 e) s₁ :=
    foldl_filter_ite (fun (t : State) (p : StepRef × Step) => t.closeStep p.1 p.2 e) _ _ _ _ fun _ _ => rfl
  have hL : ∀ r st, (r, st) ∈ startedOf s₁ i → HasStep s₁ r st ∧ InFlight st ∧ StepOfHose s₁ st.hose r st := by
    rintro ⟨j, k⟩ st hm
    obtain ⟨(rfl : j = i), hst, hf⟩ := mem_startedOf.mp hm
    obtain ⟨hx, -, hhose⟩ := hat k st (hmem.mp hm).1 hf
    exact ⟨hst, hf, ⟨by rw [hhoses₁]; exact hx, hst, hhose⟩⟩
  have hclosed := StepsClosed.foldl (State.closeStep_closes e) (s := s₁) (by rw [← hs₁]; exact hB) (startedOf_nodup s₁ i) hL
  rw [hmod, hfold]
  generalize (startedOf s₁ i).foldl (fun t p => t.closeStep p.1 p.2 e) s₁ = t at hclosed
  -- the reports of the waiting ones are taken
  generalize hW : ((startedOf s₁ i).filter fun p => isWaiting p.2) = W
  have hWmem {r : StepRef} {st : Step} : (r, st) ∈ W ↔ (r, st) ∈ startedOf s₁ i ∧ st.state = .waitingCouple := by
    rw [← hW, List.mem_filter, decide_eq_true_iff]
  have hWn : (W.map (·.1)).Nodup := by
    rw [← hW]; exact (startedOf_nodup s₁ i).sublist ((List.filter_sublist).map _)
  have htget := hclosed.taken.putOrder hget₁ fun r st hm => (mem_startedOf.mp hm).1
  have htget' : t.orders.get i = some { endingOrder status o with
      steps := (endingOrder status o).steps.map (closedStep e) } := by
    rw [htget, putOrder_get, if_pos rfl]
    congr 2
    refine List.ext_getElem? fun n => ?_
    rw [List.getElem?_mapIdx, List.getElem?_map]
    cases hn : (endingOrder status o).steps[n]? with
    | none => rfl
    | some st =>
      refine congrArg some ?_
      by_cases hf : InFlight st
      · exact if_pos ((StepRef.mem_startedOf hget₁ hn).mpr hf)
      · rw [closedStep_of_not_inFlight hf]
        exact if_neg fun hm => hf ((StepRef.mem_startedOf hget₁ hn).mp hm)
  have htother (j : IslandNo) (hj : j ≠ i) : t.orders.get j = s.orders.get j := by
    rw [htget, putOrder_get, if_neg hj, horders₁, putOrder_get, if_neg hj]
  have htends : t.ends = W.map fun p => endReport p.1 p.2 e (waitingFigures p.2) none := by
    rw [hclosed.only, ← hW]
    have : s₁.ends = [] := by rw [← hs₁]; exact hends
    rw [this]
    rfl
  have hWstep : ∀ r st, (r, st) ∈ W → r.island = i ∧ HasStep t r st ∧ InFlight st := by
    intro r st hm
    obtain ⟨hm, hw⟩ := hWmem.mp hm
    obtain ⟨hi, hst, hf⟩ := mem_startedOf.mp hm
    refine ⟨hi, (hasStep_mapSteps hclosed.taken.orders).mpr ⟨st, hst, ?_⟩, hf⟩
    rw [if_pos (List.mem_map_of_mem (f := (·.1)) hm)]
    exact (closedStep_of_other (by simp [Running, hw]) (by simp [hw]) e).symm
  have hlen : W.length ≤ 64 := by
    have := length_le_of_hoses (t := s₁) hWn fun r st hm => ⟨(hL r st (hWmem.mp hm).1).1, (hL r st (hWmem.mp hm).1).2.2.1⟩
    omega
  have hdrain : t.drain.endIfDone i = (waitersEnded t W e none).endIfDone i :=
    State.takeEnds_ending W 64 t _ hlen htends hWn hWstep htget' rfl (hpending _ fun _ => closedStep_pending)
  have hsteps (P : Step → Bool) (hP : ∀ st, P st = true → InFlight st) :
      ((startedOf s₁ i).map (·.2)).filter P = o.steps.filter P := startedOf_ending_filter horders₁ P hP
  have hWsteps : W.map (·.2) = o.steps.filter isWaiting := by
    rw [← hW, ← hsteps isWaiting fun st h => by simp [InFlight, of_decide_eq_true h], List.filter_map]
    rfl
  have hrunOns : runOnsOf ((startedOf s₁ i).map (·.2)) = runOnsOf o.steps := by
    unfold runOnsOf
    rw [hsteps _ fun st h => ?_]
    rw [Bool.and_eq_true, decide_eq_true_iff] at h
    simp [InFlight, h.1]
  have hWref {n : Nat} {st : Step} (hn : (endingOrder status o).steps[n]? = some st) :
      (⟨i, n⟩ : StepRef) ∈ W.map (·.1) ↔ st.state = .waitingCouple := by
    rw [List.mem_map]
    constructor
    · rintro ⟨⟨r, w⟩, hm, rfl⟩
      obtain ⟨hm, hw⟩ := hWmem.mp hm
      obtain ⟨-, hst, -⟩ := mem_startedOf.mp hm
      rw [← HasStep.unique hst ⟨_, hget₁, hn⟩]
      exact hw
    · intro hw
      have hf : InFlight st := by simp [InFlight, hw]
      exact ⟨(⟨i, n⟩, st), hWmem.mpr ⟨mem_startedOf.mpr ⟨rfl, ⟨_, hget₁, hn⟩, hf⟩, hw⟩, rfl⟩
  refine ⟨waitersEnded t W e none, ⟨?_, fun k => ?_, fun k st hst hf => ?_, fun x hx => ?_, ?_⟩, hdrain⟩
  · refine Table.ext_get fun j => ?_
    refine (mapSteps_get t _ j).trans ?_
    rw [putOrder_get]
    split
    · next hj =>
      rw [hj, htget']
      refine congrArg some (congrArg (fun l => { endingOrder status o with steps := l }) (List.ext_getElem? fun n => ?_))
      rw [List.getElem?_mapIdx, closedSteps, List.getElem?_map, List.getElem?_map]
      cases hn : (endingOrder status o).steps[n]? with
      | none => rfl
      | some st =>
        refine congrArg some ?_
        rw [closedEnd]
        refine (if_congr (hWref hn) rfl rfl).trans ?_
        split
        · next hw => rw [closedStep_of_other (by simp [Running, hw]) (by simp [hw])]
        · rfl
    · next hj =>
      rw [htother j hj]
      cases s.orders.get j with
      | none => rfl
      | some p =>
        refine congrArg some (congrArg (fun l => { p with steps := l }) ?_)
        refine (mapIdx_congr fun n st _ => if_neg fun hm => ?_).trans (mapIdx_snd _)
        obtain ⟨⟨r, w⟩, hr, rfl⟩ := List.mem_map.mp hm
        exact hj (hWstep _ _ hr).1
  · have htanks := hclosed.tanks k
    rw [← List.filter_filter, List.filter_comm, hsteps isWaiting fun st h => by simp [InFlight, of_decide_eq_true h]] at htanks
    rw [← hs₁] at htanks
    exact htanks
  · rw [← hhoses₁]
    exact hclosed.taken.hoses _ st (hmem.mpr ⟨hst, hf⟩)
  · rw [← hhoses₁]
    refine hclosed.taken.others x ?_
    rintro ⟨j, k⟩ st hm
    obtain ⟨(rfl : j = i), -, -⟩ := mem_startedOf.mp hm
    exact hx k st (hmem.mp hm).1 (hmem.mp hm).2
  · have hnotices : (W.map fun p => noticeAt .stepEnded p.1.island)
        = (o.steps.filter isWaiting).map fun _ => noticeAt .stepEnded i := by
      rw [← hWsteps, List.map_map]
      exact List.map_congr_left fun p hp => by rw [(hWstep p.1 p.2 hp).1]; rfl
    have hports : (waitersEnded t W e none).ports
        = raised s ((o.steps.filter isWaiting).map fun _ => noticeAt .stepEnded i) := by
      rw [← hnotices]
      exact raised_congr _ (by rw [hclosed.only, ← hs₁]) (by rw [hclosed.only, ← hs₁])
    have honly := hclosed.only
    rw [hrunOns] at honly
    generalize hu : waitersEnded t W e none = u at hports
    have hu' : u = { t with ends := [], orders := u.orders, ports := u.ports } := by rw [← hu]; rfl
    have huh : u.hoses = t.hoses := by rw [hu']
    have hut : u.tanks = t.tanks := by rw [hu']
    rw [huh, hut, ← hports, hu', honly, ← hs₁, ← hends]

/-- What the statements say of a cancel or a departure at an order. -/
theorem State.closed_orderClosed (hends : s.ends = []) (hB : BooksLaw s) (hat : AtTheirHoses s i)
    (ho : s.orders.get i = some o) (status : OrderEnd) (e : StepEnd) :
    OrderClosed s
      ((((s.modOrder i (Order.toEnding status)).closeSteps i fun _ => e).drain.endIfDone i).alignOutputs) i o status e := by
  obtain ⟨u, hu, hdone⟩ := State.closed_stepsShut hends hB hat ho status e
  rw [hdone]
  exact hu.orderClosed

end

end Sys2Proof.Machine
end

section
/-! FAMILY. Cancels (R18). -/

namespace Sys2Proof.Machine

open Sys2Proof.Safety

theorem orderCancel_ends {s : State} {i : IslandNo} {o : Order} (ho : s.orders.get i = some o) (he : o.state = .ending) :
    orderCancel i.val s = (refuse .state, s) := by
  rw [orderCancel, withOrder_some ho, if_pos he]

theorem orderCancel_closes {s : State} {i : IslandNo} {o : Order} (ho : s.orders.get i = some o) (he : o.state ≠ .ending) :
    orderCancel i.val s = (accepted,
      (((s.modOrder i (Order.toEnding .cancelled)).closeSteps i fun _ => .cancelled).drain.endIfDone i).alignOutputs) := by
  rw [orderCancel, withOrder_some ho, if_neg he]

/-- Settles O35: an order that is not in ENDING is closed as `State.closed_orderClosed` says. -/
theorem cancelOfAWaitingOrderEndsIt : Obligations.CancelOfAWaitingOrderEndsIt := by
  intro l tag n s hA c
  have replies {u : State} {e : Code} {a : Results} (h : orderCancel n s = ((e, a), u)) : Replies c s u l tag .orderCancel e a :=
    ⟨_, rfl, State.serve_only hA tag n orderCancel h⟩
  refine ⟨fun hn => replies (withOrder_outOfRange hn s _), ?_⟩
  rintro i rfl
  exact ⟨fun ho => replies (withOrder_none ho _), fun o ho => ⟨fun he => replies (orderCancel_ends ho he),
    fun hS hB hat he => ⟨_, replies (orderCancel_closes ho he), State.closed_orderClosed hS.2 hB hat ho _ _⟩⟩⟩

end Sys2Proof.Machine
end

section
/-! SUPPORT. The work of the bay leaves the shutdown unit alone: its map, its records and its outputs stand until a trip, a warning
or the end of the command (R150, R159). -/

namespace Sys2Proof.Machine

open Sys2Proof.Safety

theorem foldl_keeps {α β γ : Type} (f : β → α → β) (g : β → γ) (h : ∀ b a, g (f b a) = g b) (l : List α) :
    ∀ b, g (l.foldl f b) = g b := by
  induction l with
  | nil => exact fun _ => rfl
  | cons a l ih => exact fun b => (ih _).trans (h b a)

@[simp] theorem State.lowTest_shut (s : State) (a b) : (s.lowTest a b).shut = s.shut := by
  unfold State.lowTest; split <;> simp

@[simp] theorem State.changeStock_shut (s : State) (t f) : (s.changeStock t f).shut = s.shut := by
  simp [State.changeStock]

@[simp] theorem State.sendEnd_shut (s : State) (st rep) : (s.sendEnd st rep).shut = s.shut := by
  simp [State.sendEnd, State.chargeEnd]

@[simp] theorem State.endWaiting_shut (s : State) (r st e c) : (s.endWaiting r st e c).shut = s.shut := s.sendEnd_shut _ _

@[simp] theorem State.runOnCheck_shut (s : State) (r) : (s.runOnCheck r).shut = s.shut := by
  unfold State.runOnCheck
  split
  · rfl
  · split <;> simp

@[simp] theorem State.settle_shut (s : State) (r st e c) : (s.settle r st e c).shut = s.shut := by
  simp [State.settle]

@[simp] theorem State.enterRunning_shut (s : State) (r st) : (s.enterRunning r st).shut = s.shut := by
  unfold State.enterRunning; split <;> simp

@[simp] theorem State.applyClaim_shut (s : State) (r st d w a) : (s.applyClaim r st d w a).shut = s.shut := by
  unfold State.applyClaim; split <;> simp [State.grant]

@[simp] theorem State.claim_shut (s : State) (r st) : (s.claim r st).shut = s.shut := by
  unfold State.claim; split <;> simp

@[simp] theorem State.tryClaim_shut (s : State) (h) : (s.tryClaim h).shut = s.shut := by
  unfold State.tryClaim
  split
  · rfl
  · split
    · dsimp only; split <;> simp
    · rfl

@[simp] theorem State.presentAt_shut (s : State) (h) : (s.presentAt h).shut = s.shut := by
  unfold State.presentAt
  split
  · rfl
  · split
    · simp
    · split
      · split
        · simp
        · split <;> simp
      · rfl

@[simp] theorem State.startOne_shut (s : State) (p) : (s.startOne p).shut = s.shut := by
  unfold State.startOne; split <;> simp [State.startStep]

@[simp] theorem State.stopOnError_shut (s : State) (i) : (s.stopOnError i).shut = s.shut := by
  simp [State.stopOnError, State.endIfDone_shut]

@[simp] theorem State.endOrder_shut (s : State) (i) : (s.endOrder i).shut = s.shut := by
  unfold State.endOrder
  split
  · rfl
  · exact State.handOff_shut ..

@[simp] theorem State.startGroup_shut (s : State) (i g m) : (s.startGroup i g m).1.shut = s.shut := by
  have h (l : List (StepRef × Step)) (t : State) : (l.foldl State.startOne t).shut = t.shut :=
    foldl_keeps State.startOne State.shut State.startOne_shut l t
  dsimp only [State.startGroup]
  split <;> simp [h]

@[simp] theorem State.tryStart_shut (n : Nat) : ∀ (s : State) (i), (State.tryStart n s i).shut = s.shut := by
  induction n with
  | zero => exact fun _ _ => rfl
  | succ n ih =>
    intro s i
    unfold State.tryStart
    split
    · rfl
    · split
      · rfl
      · split
        · dsimp only
          split
          · simp
          · split
            · split
              · simp
              · split <;> simp [ih]
            · simp
        · rfl

@[simp] theorem State.nextGroup_shut (s : State) (i) : (s.nextGroup i).shut = s.shut := s.tryStart_shut 8 i

@[simp] theorem State.completeHold_shut (s : State) (i) : (s.completeHold i).shut = s.shut := by
  unfold State.completeHold
  split
  · rfl
  · split <;> simp

@[simp] theorem State.course_shut (s : State) (i b) : (s.course i b).shut = s.shut := by
  unfold State.course
  split
  · rfl
  · repeat' split
    all_goals simp [State.endIfDone_shut]

@[simp] theorem State.takeEnd_shut (s : State) (e) : (s.takeEnd e).shut = s.shut := by
  unfold State.takeEnd; split <;> simp

@[simp] theorem State.takeEnds_shut (n : Nat) : ∀ s : State, (State.takeEnds n s).shut = s.shut := by
  induction n with
  | zero => exact fun _ => rfl
  | succ n ih =>
    intro s
    unfold State.takeEnds
    split <;> simp [ih]

@[simp] theorem State.drain_shut (s : State) : s.drain.shut = s.shut := s.takeEnds_shut 64

theorem State.takeEnds_ends (n : Nat) : ∀ s : State, (State.takeEnds n s).ends = [] := by
  induction n with
  | zero => exact fun _ => rfl
  | succ n ih =>
    intro s
    unfold State.takeEnds
    split
    · assumption
    · exact ih _

/-- The end of a command: only the outputs of the shutdown unit follow. -/
theorem State.follow_settleAll_of_shut {s u : State} (h : u.shut = s.shut) : OutputsFollow s u.settleAll :=
  State.alignOutputs_follow (u.drain_shut.trans h)

end Sys2Proof.Machine
end

section
/-! SUPPORT. The detector, the debounces, and the leaving of a machine (R43, R75, R76). -/

namespace Sys2Proof.Machine

open Sys2Proof.Safety

section
variable {s : State} {i : IslandNo}

/-- An island with its level, presence and debounce timer set. -/
abbrev islandPut (s : State) (i : IslandNo) (level : Bool) (p : Presence) (t : Timer) : Table Island 4 :=
  s.islands.put i { s.islands.get i with level, presence := p, timer := t }

/-- The pins with the detector of an island at a level. -/
abbrev detectorPins (s : State) (i : IslandNo) (level : Bool) : Pins :=
  { s.pins with detectors := s.pins.detectors.put i level }

/-- What follows the channels' and the order unit's taking of an entry to PRESENT (R78). -/
def State.arrived (s : State) (i : IslandNo) : State := ((s.islandHoses i).foldl State.presentAt s).drain.nextGroup i

theorem State.level_presence (s : State) (i : IslandNo) (b : Bool) :
    ((s.modIsland i fun k => { k with level := b }).islands.get i).presence = (s.islands.get i).presence := by
  simp

theorem State.setPresence_level (s : State) (i : IslandNo) (b : Bool) (p : Presence) (t : Timer) :
    (s.modIsland i fun k => { k with level := b }).setPresence i p t = { s with islands := islandPut s i b p t } := by
  have h := Table.modify_modify s.islands i (fun k => { k with level := b }) fun k => { k with presence := p, timer := t }
  exact congrArg (fun x => { s with islands := x }) h

theorem State.detectorOn_absent (h : (s.islands.get i).presence = .absent) :
    s.detectorOn i = { s with islands := islandPut s i true .arriving (some (s.cfg.islands.get i).arrival) } := by
  have hp : ((s.modIsland i fun k => { k with level := true }).islands.get i).presence = .absent := (s.level_presence i _).trans h
  simp only [State.detectorOn, hp]
  exact s.setPresence_level i _ _ _

theorem State.detectorOn_leaving (h : (s.islands.get i).presence = .leaving) :
    s.detectorOn i = State.arrived { s with islands := islandPut s i true .present none } i := by
  have hp : ((s.modIsland i fun k => { k with level := true }).islands.get i).presence = .leaving := (s.level_presence i _).trans h
  simp only [State.detectorOn, hp]
  exact congrArg (State.arrived · i) (s.setPresence_level i true .present none)

theorem State.detectorOff_arriving (h : (s.islands.get i).presence = .arriving) :
    s.detectorOff i = { s with islands := islandPut s i false .absent none } := by
  have hp : ((s.modIsland i fun k => { k with level := false }).islands.get i).presence = .arriving := (s.level_presence i _).trans h
  simp only [State.detectorOff, hp]
  exact s.setPresence_level i _ _ _

theorem State.detectorOff_present (h : (s.islands.get i).presence = .present) :
    s.detectorOff i = (s.islandHoses i).foldl State.leavingAt
      { s with islands := islandPut s i false .leaving (some (s.cfg.islands.get i).leaving) } := by
  have hp : ((s.modIsland i fun k => { k with level := false }).islands.get i).presence = .present := (s.level_presence i _).trans h
  simp only [State.detectorOff, hp]
  exact congrArg (fun x => (s.islandHoses i).foldl State.leavingAt x) (s.setPresence_level i false .leaving _)

theorem State.arrivalExpiry_arriving (h : (s.islands.get i).presence = .arriving) (ht : (s.islands.get i).timer ≠ none) :
    s.arrivalExpiry i = State.arrived { s with islands := islandPut s i (s.islands.get i).level .present none } i := by
  rw [State.arrivalExpiry]
  exact if_pos ⟨h, Option.isSome_iff_ne_none.mpr ht⟩

theorem State.arrivalExpiry_idle (h : (s.islands.get i).presence ≠ .arriving ∨ (s.islands.get i).timer = none) :
    s.arrivalExpiry i = s := by
  rw [State.arrivalExpiry]
  refine if_neg fun e => ?_
  rcases h with h | h
  · exact h e.1
  · rw [h] at e; cases e.2

theorem State.leavingExpiry_leaving (h : (s.islands.get i).presence = .leaving) (ht : (s.islands.get i).timer ≠ none) :
    s.leavingExpiry i
      = State.departure { s with islands := islandPut s i (s.islands.get i).level .absent none } i := by
  rw [State.leavingExpiry]
  exact if_pos ⟨h, Option.isSome_iff_ne_none.mpr ht⟩

theorem State.leavingExpiry_idle (h : (s.islands.get i).presence ≠ .leaving ∨ (s.islands.get i).timer = none) :
    s.leavingExpiry i = s := by
  rw [State.leavingExpiry]
  refine if_neg fun e => ?_
  rcases h with h | h
  · exact h e.1
  · rw [h] at e; cases e.2

/-! ## The four commands -/

theorem exec_detectorAsserted (hr : s.running = true) (hl : (s.islands.get i).level = false) :
    exec (.detectorAsserted i) s = .next (State.detectorOn { s with pins := detectorPins s i true } i).settleAll := by
  have hr' : (s.modPins fun p => { p with detectors := p.detectors.put i true }).running = true := hr
  rw [exec, execDetectorAsserted, State.whileRunning_of hr']
  refine congrArg _ (if_neg ?_)
  rw [State.modPins_islands, hl]
  decide

theorem exec_detectorNegated (hr : s.running = true) (hl : (s.islands.get i).level = true) :
    exec (.detectorNegated i) s = .next (State.detectorOff { s with pins := detectorPins s i false } i).settleAll := by
  have hr' : (s.modPins fun p => { p with detectors := p.detectors.put i false }).running = true := hr
  rw [exec, execDetectorNegated, State.whileRunning_of hr']
  exact congrArg _ (if_pos hl)

theorem exec_arrivalDebounceExpiry (hr : s.running = true) :
    exec (.arrivalDebounceExpiry i) s = .next (s.arrivalExpiry i).settleAll := by
  rw [exec, execArrivalDebounceExpiry, State.whileRunning_of hr]

theorem exec_leavingDebounceExpiry (hr : s.running = true) :
    exec (.leavingDebounceExpiry i) s = .next (s.leavingExpiry i).settleAll := by
  rw [exec, execLeavingDebounceExpiry, State.whileRunning_of hr]

/-- A command that changes pins and islands alone, and then brings the outputs into line. -/
theorem exec_islands {c : Instr} {p : Pins} {x : Table Island 4} (hS : Steady s)
    (h : exec c s = .next ({ s with pins := p, islands := x } : State).settleAll) :
    ∃ t, exec c s = .next t ∧ OutputsFollow s t ∧ t = { s with pins := p, islands := x, shut := t.shut } :=
  ⟨_, h, State.follow_settleAll (by exact hS.2) rfl, State.settleAll_eq (by exact hS.2)⟩

/-! ## An island with no step at its hoses, and one with no order -/

theorem State.mem_islandHoses {h : HoseNo} : h ∈ s.islandHoses i ↔ (s.cfg.hoses.get h).island = i := by
  simp [State.islandHoses, mem_allHoses]

theorem State.hoseStep_of_idle {h : HoseNo} (hn : (s.hoses.get h).step = none) : s.hoseStep h = none := by
  rw [State.hoseStep, hn, Option.bind_none]

theorem State.presentAt_idle {h : HoseNo} (hn : s.hoseStep h = none) : s.presentAt h = s := by
  rw [State.presentAt, hn]

theorem State.leavingAt_idle {h : HoseNo} (hn : s.hoseStep h = none) : s.leavingAt h = s := by
  rw [State.leavingAt, hn]

theorem State.nextGroup_none (ho : s.orders.get i = none) : s.nextGroup i = s := by
  rw [State.nextGroup, State.tryStart, ho]

theorem State.departure_none (ho : s.orders.get i = none) : s.departure i = s := by
  rw [State.departure, ho]

/-- At an island with no step at its hoses the order unit alone takes the entry to PRESENT. -/
theorem State.arrived_idle (he : s.ends = []) (h : ∀ h, (s.cfg.hoses.get h).island = i → (s.hoses.get h).step = none) :
    s.arrived i = s.nextGroup i := by
  rw [State.arrived, foldl_same _ _ _ fun a ha =>
    State.presentAt_idle (State.hoseStep_of_idle (h a (State.mem_islandHoses.mp ha))), State.drain_of_nil he]

/-! ## Leaving (R43) -/

/-- A step after the leaving of its machine (R43). -/
abbrev leftStep (st : Step) : Step := if Running st then suspendedStep .presence st else st

theorem State.leavingAt_suspends : Suspends State.leavingAt leftStep id where
  idle _ _ hn := State.leavingAt_idle hn
  runs t h q w hq hr := by
    rw [State.leavingAt, hq, leftStep, if_pos hr]
    dsimp only
    rw [if_pos ((Step.isRunning_iff w).mpr hr)]
    exact State.suspend_eq (State.hoseStep_eq_some.mp hq).2 .presence
  waits t h q w hq hw := by
    have hr : ¬ Running w := by simp [Running, hw]
    rw [State.leavingAt, hq, leftStep, if_neg hr, putStep_self (State.hoseStep_eq_some.mp hq).2,
      Table.modify_id _ _ rfl]
    exact if_neg fun e => hr ((Step.isRunning_iff w).mp e)
  other t h q w hq hr hw := by
    rw [State.leavingAt, hq, leftStep, if_neg hr, putStep_self (State.hoseStep_eq_some.mp hq).2]
    exact if_neg fun e => hr ((Step.isRunning_iff w).mp e)
  took_took w := by
    by_cases h : Running w
    · rw [leftStep, leftStep, if_pos h]
      exact if_neg (by simp [Running, suspendedStep])
    · rw [leftStep, leftStep, if_neg h, if_neg h]
  took_running w := by
    unfold leftStep
    split
    · simp [Running, suspendedStep]
    · next h => exact h
  took_waiting w := by
    unfold leftStep
    split
    · next hr => rcases hr with hr | hr <;> simp [suspendedStep, hr]
    · rfl
  pause_pause _ := rfl
  pause_suspended _ := rfl
  pause_step _ := rfl

end

end Sys2Proof.Machine
end

section
/-! SUPPORT. The steps that an entry to PRESENT moves (R44). -/

namespace Sys2Proof.Machine

open Sys2Proof.Safety

/-! ## Changes at two hoses or two steps -/

theorem Table.modify_comm {α : Type} {n : Nat} (v : Table α n) {i j : Fin n} (h : i ≠ j) (f g : α → α) :
    (v.modify i f).modify j g = (v.modify j g).modify i f := by
  refine Table.ext_get fun k => ?_
  simp only [Table.modify_get, if_neg h, if_neg h.symm]
  by_cases hi : k = i
  · subst hi; simp [h]
  · simp [hi]

theorem putStep_comm {s t u : State} {q r : StepRef} (h : q ≠ r) {v w : Step} (ht : t.orders = putStep s q v)
    (hu : u.orders = putStep s r w) : putStep t r w = putStep u q v := by
  have ht' : t.orders = mapSteps s fun p st => if p = q then v else st := ht.trans (putStep_eq_mapSteps s q v)
  have hu' : u.orders = mapSteps s fun p st => if p = r then w else st := hu.trans (putStep_eq_mapSteps s r w)
  rw [putStep_mapSteps ht', putStep_mapSteps hu']
  refine mapSteps_congr fun p st _ => ?_
  by_cases hp : p = q
  · subst hp; simp [h]
  · simp [hp]

/-! ## One step that returns -/

theorem settledBy_of_not_running {st : Step} (h : ¬ Running st) (e : StepEnd) : settledBy e none st = settledFrom e st := by
  rw [settledBy_eq, settledCause_none, if_neg h, if_neg h, settledFrom]

theorem runOnOf_of_not_running {st : Step} (h : ¬ Running st) (e : StepEnd) :
    runOnOf (st.settled e none) = if runsOn st = true then [.runOn st.hose] else [] := by
  rw [runOnOf, runsOn_settled, if_neg h]
  rfl

/-- A step whose net at valve close is filled in has run on as before (R35, R42). -/
theorem runsOn_filled (st : Step) : runsOn { st with netAtClose := some (st.netAtClose.getD (netOf st)) } = runsOn st := by
  rw [runsOn_of rfl rfl (netOf_withNetAtClose st _) rfl, Option.getD_some, runsOn]

/-- A hose at which no step of the list stands holds what it held. -/
theorem HosesTaken.hoseStep {s t : State} {l : List (StepRef × Step)} {chan : StepRef → Step → Channel → Channel}
    {took : StepRef → Step → Step} {a : HoseNo} (h : HosesTaken s l chan took t) (hl : ∀ r st, (r, st) ∈ l → st.hose ≠ a)
    (ha : ∀ q v, s.hoseStep a = some (q, v) → q ∉ l.map (·.1)) : t.hoseStep a = s.hoseStep a := by
  have hhose := h.others a hl
  cases hs : s.hoseStep a with
  | some x =>
    obtain ⟨q, v⟩ := x
    obtain ⟨hq, hv⟩ := State.hoseStep_eq_some.mp hs
    exact State.hoseStep_eq_some.mpr ⟨by rw [hhose]; exact hq, h.hasStep (ha q v hs) hv⟩
  | none =>
    cases ht : t.hoseStep a with
    | none => rfl
    | some x =>
      obtain ⟨q, v⟩ := x
      obtain ⟨hq, hv⟩ := State.hoseStep_eq_some.mp ht
      obtain ⟨w, hw, -⟩ := (hasStep_mapSteps h.orders).mp hv
      rw [State.hoseStep_eq_some.mpr ⟨by rw [← hhose]; exact hq, hw⟩] at hs
      cases hs

/-- What the settling of a step that returns reports (R42). -/
def returnReports (s : State) (st : Step) : List Report :=
  if (returnedStep s st).state = .settling ∧ runsOn st = true then [.runOn st.hose] else []

/-- What a step that has returned leaves, when its own channel and record are all that it changes. -/
def stepReturned (s : State) (r : StepRef) (st : Step) : State :=
  { s with
    hoses := s.hoses.modify st.hose (returnedChannel s st), orders := putStep s r (returnedStep s st)
    reports := s.reports ++ returnReports s st }

section
variable {s : State} {r : StepRef} {st : Step}

/-- A step that settles as it returns, with its own end status or the one given. -/
theorem State.settle_returned (h : HasStep s r st) (hr : ¬ Running st)
    (hret : returnedStep s st = settledFrom .uncoupled st) (e : StepEnd) (he : st.endStatus.getD e = st.endStatus.getD .uncoupled) :
    s.settle r st e none = stepReturned s r st := by
  have hset : (returnedStep s st).state = .settling := by rw [hret]; rfl
  have hchan : returnedChannel s st = settlingChannel st.ctx.settleTime := by
    funext k; rw [returnedChannel, if_pos hset]
  have hsame : settledFrom e st = settledFrom .uncoupled st := by rw [settledFrom, he, settledFrom]
  have hrep : (if runsOn st = true then [Report.runOn st.hose] else []) = returnReports s st :=
    (if_congr (and_iff_right hset) rfl rfl).symm
  rw [State.settle_eq h, settledBy_of_not_running hr, runOnOf_of_not_running hr, hsame, ← hret, ← hchan, hrep]
  rfl

/-- A step that runs on as it returns, or settles COMPLETE with its target met (R35). -/
theorem State.enterRunning_returned (h : HasStep s r st) (hr : ¬ Running st) (hret : returnedStep s st = arrivedStep st) :
    s.enterRunning r st = stepReturned s r st := by
  by_cases hn : st.target ≤ netOf st
  · have hr' : ¬ Running { st with netAtClose := some (st.netAtClose.getD (netOf st)) } := hr
    have hret' : returnedStep s st = settledFrom .complete { st with netAtClose := some (st.netAtClose.getD (netOf st)) } := by
      rw [hret, arrivedStep, if_pos hn]
    have hset : (returnedStep s st).state = .settling := by rw [hret']; rfl
    have hchan : returnedChannel s st = settlingChannel st.ctx.settleTime := by
      funext k; rw [returnedChannel, if_pos hset]
    have hrep : (if runsOn st = true then [Report.runOn st.hose] else []) = returnReports s st :=
      (if_congr (and_iff_right hset) rfl rfl).symm
    have hmod := State.modStep_eq h fun st => { st with netAtClose := some (st.netAtClose.getD st.net) }
    rw [State.enterRunning, if_pos (by rw [Step.net_eq]; exact hn), hmod]
    simp only [Step.net_eq]
    have horders (v w : Step) : putStep { s with orders := putStep s r v } r w = putStep s r w := putStep_putStep (s := s) (v := v) rfl w
    rw [State.settle_eq (hasStep_putStep h rfl), settledBy_of_not_running hr', runOnOf_of_not_running hr', runsOn_filled,
      ← hret', horders, stepReturned, hchan, ← hrep]
  · have hlt : netOf st < st.target := Nat.lt_of_not_le hn
    have hret' : returnedStep s st = enteredStep st := by rw [hret, arrivedStep, if_neg hn]
    have hset : (returnedStep s st).state ≠ .settling := by
      rw [hret', enteredStep]; dsimp only; split <;> decide
    have hchan : returnedChannel s st = enteredChannel st := by
      funext k; rw [returnedChannel, if_neg hset]
    have hrep : returnReports s st = [] := if_neg fun e => hset e.1
    rw [State.enterRunning_eq h hlt, stepReturned, hret', hchan, hrep, List.append_nil]

variable {h : HoseNo}

/-- A step that claims as its machine comes back (R32). -/
abbrev ClaimsNow (s : State) (st : Step) : Prop :=
  st.state = .waitingCouple ∧ st.suspension ≠ some .power ∧ (s.hoses.get st.hose).coupled = true
    ∧ s.supply.state = .normal ∧ st.target = 0

theorem State.claimReady_iff (hp : (s.islands.get r.island).presence = .present) :
    s.claimReady r st = true ↔ st.state = .waitingCouple ∧ st.suspension ≠ some .power
      ∧ (s.hoses.get st.hose).coupled = true ∧ s.supply.state = .normal := by
  simp only [State.claimReady, (s.isPresent_iff r.island).mpr hp, Bool.and_eq_true, decide_eq_true_iff, State.supplyNormal_iff]
  tauto

theorem returnedStep_arrived (h : ¬ (st.state = .suspended ∧ (st.endStatus ≠ none ∨ (s.hoses.get st.hose).coupled = false))) :
    returnedStep s st = arrivedStep st := if_neg h

/-- A waiting step at its coupled hose: the couple-wait timer stops, and it runs on with its reservation or claims (R32). -/
theorem State.presentAt_ready (hs : s.hoseStep h = some (r, st))
    (hw : st.state = .waitingCouple) (hr : s.claimReady r st = true) :
    s.presentAt h = if 0 < st.target then (s.modHose h fun c => { c with coupleTimer := none }).enterRunning r st
      else (s.modHose h fun c => { c with coupleTimer := none }).claim r st := by
  rw [State.presentAt, hs]
  dsimp only
  rw [if_pos hw, State.tryClaim, hs]
  dsimp only
  rw [if_pos hr]

theorem State.presentAt_claims (hs : s.hoseStep h = some (r, st)) (hp : (s.islands.get r.island).presence = .present)
    (hc : ClaimsNow s st) : s.presentAt h = (s.modHose h fun c => { c with coupleTimer := none }).claim r st := by
  obtain ⟨hw, hsus, hco, hn, h0⟩ := hc
  rw [State.presentAt_ready hs hw ((State.claimReady_iff hp).mpr ⟨hw, hsus, hco, hn⟩), if_neg (by omega)]

/-- A step that the entry to PRESENT moves returns (R44). -/
theorem State.presentAt_moves (hs : s.hoseStep h = some (r, st)) (hh : st.hose = h)
    (hp : (s.islands.get r.island).presence = .present) (hm : MovesAt s st) : s.presentAt h = stepReturned s r st := by
  have hst := (State.hoseStep_eq_some.mp hs).2
  rcases hm with ⟨hsus, hpres⟩ | ⟨hw, hsus, hco, hn, ht⟩
  · have hw : st.state ≠ .waitingCouple := by simp [hsus]
    have hr : ¬ Running st := by simp [Running, hsus]
    have hcond : st.state = .suspended ∧ st.suspension = some .presence := ⟨hsus, hpres⟩
    rw [State.presentAt, hs]
    dsimp only
    rw [if_neg hw, if_pos hcond]
    cases he : st.endStatus with
    | some e => exact State.settle_returned hst hr (if_pos ⟨hsus, .inl (by rw [he]; nofun)⟩) e (by rw [he]; rfl)
    | none =>
      cases hc : (s.hoses.get h).coupled with
      | true =>
        refine State.enterRunning_returned hst hr (returnedStep_arrived ?_)
        rw [he, hh, hc]
        simp
      | false => exact State.settle_returned hst hr (if_pos ⟨hsus, .inr (by rw [hh, hc])⟩) _ rfl
  · have hr : ¬ Running st := by simp [Running, hw]
    have hns : st.state ≠ .suspended := by simp [hw]
    have hret (x : State) : returnedStep x st = arrivedStep st := returnedStep_arrived fun e => hns e.1
    rw [State.presentAt_ready hs hw ((State.claimReady_iff hp).mpr ⟨hw, hsus, hco, hn⟩), if_pos ht,
      State.enterRunning_returned (s := s.modHose h _) hst hr (hret _)]
    have hrep (x : State) : returnReports x st = returnReports s st := by rw [returnReports, returnReports, hret, hret]
    have hchan (x : State) (k : Channel) : returnedChannel x st { k with coupleTimer := none } = returnedChannel s st k := by
      rw [returnedChannel, returnedChannel, hret, hret]
      split <;> rfl
    have hhoses : (s.hoses.modify h fun c => { c with coupleTimer := none }).modify st.hose
        (returnedChannel (s.modHose h fun c => { c with coupleTimer := none }) st)
        = s.hoses.modify st.hose (returnedChannel s st) := by
      rw [hh, Table.modify_modify]
      exact congrArg (s.hoses.modify h) (funext (hchan _))
    rw [stepReturned, hret, hrep, stepReturned, hret, ← hhoses]
    rfl

/-- Any other step is as it was (R44). -/
theorem State.presentAt_stays (hs : s.hoseStep h = some (r, st)) (hp : (s.islands.get r.island).presence = .present)
    (hm : ¬ MovesAt s st) (hc : ¬ ClaimsNow s st) : s.presentAt h = s := by
  rw [State.presentAt, hs]
  dsimp only
  by_cases hw : st.state = .waitingCouple
  · rw [if_pos hw, State.tryClaim, hs]
    refine if_neg fun hr => ?_
    obtain ⟨-, hsus, hco, hn⟩ := (State.claimReady_iff hp).mp hr
    by_cases ht : st.target = 0
    · exact hc ⟨hw, hsus, hco, hn, ht⟩
    · exact hm (.inr ⟨hw, hsus, hco, hn, Nat.pos_of_ne_zero ht⟩)
  · rw [if_neg hw]
    exact if_neg fun e => hm (.inl e)

theorem returnedStep_congr {t : State} (h : t.hoses.get st.hose = s.hoses.get st.hose) : returnedStep t st = returnedStep s st := by
  rw [returnedStep, returnedStep, h]

theorem returnedChannel_congr {t : State} (h : t.hoses.get st.hose = s.hoses.get st.hose) :
    returnedChannel t st = returnedChannel s st := by
  funext k
  rw [returnedChannel, returnedChannel, returnedStep_congr h]

theorem returnReports_congr {t : State} (h : t.hoses.get st.hose = s.hoses.get st.hose) : returnReports t st = returnReports s st := by
  rw [returnReports, returnReports, returnedStep_congr h]

end

/-! ## The channels of an island take the entry to PRESENT one after another (R78) -/

/-- The step at a hose, when the entry to PRESENT moves it. -/
def moverAt (b : State) (h : HoseNo) : Option (StepRef × Step) := (b.hoseStep h).filter fun x => decide (MovesAt b x.2)

/-- The steps at some hoses that the entry to PRESENT moves. -/
def movers (b : State) (p : List HoseNo) : List (StepRef × Step) := p.filterMap (moverAt b)

/-- The state when the steps at some hoses have returned. -/
structure Returning (b : State) (p : List HoseNo) (m : State) : Prop where
  taken : HosesTaken b (movers b p) (fun _ st => returnedChannel b st) (fun _ st => returnedStep b st) m
  only : m = { b with
    hoses := m.hoses, orders := m.orders, reports := b.reports ++ (movers b p).flatMap fun x => returnReports b x.2 }

/-- What a claim at one hose changes, apart from the other hoses and steps. -/
structure ClaimAct (h : HoseNo) (r : StepRef) (G : State → State) : Prop where
  hoses : ∀ x a, a ≠ h → (G x).hoses.get a = x.hoses.get a
  steps : ∀ x q v, q ≠ r → (HasStep (G x) q v ↔ HasStep x q v)
  islands : ∀ x, (G x).islands = x.islands
  supply : ∀ x, (G x).supply = x.supply
  comm : ∀ x q v, q ≠ r → v.hose ≠ h → G (stepReturned x q v) = stepReturned (G x) q v

section
variable {b m : State} {i : IslandNo} {p : List HoseNo} {a h : HoseNo} {r q : StepRef} {st v : Step} {G : State → State}

theorem mem_movers : (q, v) ∈ movers b p ↔ ∃ a ∈ p, b.hoseStep a = some (q, v) ∧ MovesAt b v := by
  rw [movers, List.mem_filterMap]
  refine exists_congr fun a => and_congr_right fun _ => ?_
  rw [moverAt, Option.filter_eq_some_iff, decide_eq_true_iff]

theorem movers_append_of (h : ∀ q v, b.hoseStep a = some (q, v) → ¬ MovesAt b v) : movers b (p ++ [a]) = movers b p := by
  have : moverAt b a = none := by
    rw [moverAt, Option.filter_eq_none_iff]
    rintro ⟨q, v⟩ ha
    rw [decide_eq_true_iff]
    exact h q v ha
  rw [movers, List.filterMap_append, List.filterMap_cons_none this, List.filterMap_nil, List.append_nil]
  rfl

theorem movers_append (ha : b.hoseStep a = some (q, v)) (hm : MovesAt b v) : movers b (p ++ [a]) = movers b p ++ [(q, v)] := by
  have : moverAt b a = some (q, v) := by
    rw [moverAt, Option.filter_eq_some_iff, decide_eq_true_iff]
    exact ⟨ha, hm⟩
  rw [movers, List.filterMap_append, List.filterMap_cons_some this]
  rfl

/-- The steps at the hoses of an island stand each at its own hose, in the island's order (R29). -/
theorem IslandAgrees.hoseStep (hi : IslandAgrees b i) (ha : (b.cfg.hoses.get a).island = i) (hs : b.hoseStep a = some (q, v)) :
    v.hose = a ∧ q.island = i := hi a q v ha (State.hoseStep_eq_some.mp hs)

theorem IslandAgrees.movers_hose (hi : IslandAgrees b i) (hp : ∀ x ∈ p, (b.cfg.hoses.get x).island = i) (hna : a ∉ p) :
    ∀ q v, (q, v) ∈ movers b p → v.hose ≠ a := by
  intro q v hm
  obtain ⟨x, hx, hs, -⟩ := mem_movers.mp hm
  rw [(IslandAgrees.hoseStep hi (hp x hx) hs).1]
  exact fun e => hna (e ▸ hx)

theorem IslandAgrees.movers_ref (hi : IslandAgrees b i) (hp : ∀ x ∈ p, (b.cfg.hoses.get x).island = i) (hna : a ∉ p)
    (ha : (b.cfg.hoses.get a).island = i) (hs : b.hoseStep a = some (q, v)) : q ∉ (movers b p).map (·.1) := by
  intro hm
  obtain ⟨⟨q', w⟩, hmem, rfl⟩ := List.mem_map.mp hm
  obtain ⟨x, -, hx, -⟩ := mem_movers.mp hmem
  cases HasStep.unique (State.hoseStep_eq_some.mp hx).2 (State.hoseStep_eq_some.mp hs).2
  exact IslandAgrees.movers_hose hi hp hna _ _ hmem (IslandAgrees.hoseStep hi ha hs).1

theorem Returning.hose (hr : Returning b p m) (hi : IslandAgrees b i) (hp : ∀ x ∈ p, (b.cfg.hoses.get x).island = i)
    (hna : a ∉ p) : m.hoses.get a = b.hoses.get a :=
  hr.taken.others a (IslandAgrees.movers_hose hi hp hna)

/-- A hose whose channel has still to act holds what it held. -/
theorem Returning.hoseStep (hr : Returning b p m) (hi : IslandAgrees b i) (hp : ∀ x ∈ p, (b.cfg.hoses.get x).island = i)
    (hna : a ∉ p) (ha : (b.cfg.hoses.get a).island = i) : m.hoseStep a = b.hoseStep a :=
  hr.taken.hoseStep (IslandAgrees.movers_hose hi hp hna) fun _ _ hs => IslandAgrees.movers_ref hi hp hna ha hs

theorem Returning.nil (b : State) : Returning b [] b := ⟨HosesTaken.nil b _ _, by simp [movers]⟩

theorem Returning.append_of (hr : Returning b p m) (h : ∀ q v, b.hoseStep a = some (q, v) → ¬ MovesAt b v) :
    Returning b (p ++ [a]) m := by
  obtain ⟨h₁, h₂⟩ := hr
  rw [← movers_append_of h] at h₁ h₂
  exact ⟨h₁, h₂⟩

theorem Returning.append (hr : Returning b p m) (hi : IslandAgrees b i) (hp : ∀ x ∈ p, (b.cfg.hoses.get x).island = i)
    (hna : a ∉ p) (ha : (b.cfg.hoses.get a).island = i) (hs : b.hoseStep a = some (q, v)) (hm : MovesAt b v) :
    Returning b (p ++ [a]) (stepReturned m q v) := by
  obtain ⟨rfl, -⟩ := IslandAgrees.hoseStep hi ha hs
  have hhose := hr.hose hi hp hna
  rw [stepReturned, returnedChannel_congr hhose, returnedStep_congr hhose, returnReports_congr hhose]
  refine ⟨?_, ?_⟩
  · rw [movers_append hs hm]
    exact hr.taken.append (IslandAgrees.movers_ref hi hp hna ha hs) (State.hoseStep_eq_some.mp hs).2
      (IslandAgrees.movers_hose hi hp hna) rfl rfl
  · rw [movers_append hs hm, List.flatMap_append, ← List.append_assoc]
    have := hr.only
    generalize (movers b p).flatMap (fun x => returnReports b x.2) = reps at this
    rw [this]
    simp

end

end Sys2Proof.Machine
end

section
/-! SUPPORT. The return of a machine: the channels of its island act in turn, and one of them may claim (R32, R33, R44, R78). -/

namespace Sys2Proof.Machine

open Sys2Proof.Safety

section
variable {b m : State} {i : IslandNo} {p L : List HoseNo} {a h : HoseNo} {r q : StepRef} {st v : Step} {G : State → State}

/-- One more channel, at which no step claims, takes the entry to PRESENT. -/
theorem Returning.step (hr : Returning b p m) (hi : IslandAgrees b i) (hpres : (b.islands.get i).presence = .present)
    (hp : ∀ x ∈ p, (b.cfg.hoses.get x).island = i) (hna : a ∉ p) (ha : (b.cfg.hoses.get a).island = i)
    (hno : ∀ q v, b.hoseStep a = some (q, v) → ¬ ClaimsNow b v) : Returning b (p ++ [a]) (m.presentAt a) := by
  have hstep := hr.hoseStep hi hp hna ha
  have hhose := hr.hose hi hp hna
  cases hb : b.hoseStep a with
  | none =>
    rw [State.presentAt_idle (hstep.trans hb)]
    exact hr.append_of fun q v hq => by rw [hb] at hq; cases hq
  | some x =>
    obtain ⟨q, v⟩ := x
    obtain ⟨rfl, rfl⟩ := IslandAgrees.hoseStep hi ha hb
    have hpres' : (m.islands.get q.island).presence = .present := by rw [hr.only]; exact hpres
    have hsupply : m.supply = b.supply := by rw [hr.only]
    by_cases hm : MovesAt b v
    · have hm' : MovesAt m v := by rw [MovesAt, hhose, hsupply]; exact hm
      rw [State.presentAt_moves (hstep.trans hb) rfl hpres' hm']
      exact hr.append hi hp hna ha hb hm
    · have hm' : ¬ MovesAt m v := by rw [MovesAt, hhose, hsupply]; exact hm
      have hc' : ¬ ClaimsNow m v := by rw [ClaimsNow, hhose, hsupply]; exact hno q v hb
      rw [State.presentAt_stays (hstep.trans hb) hpres' hm' hc']
      exact hr.append_of fun q' v' hq => by rw [hb] at hq; cases hq; exact hm

/-- Without a claim the steps of an island's hoses return, and that is all. -/
theorem State.presentAt_foldl (hi : IslandAgrees b i) (hpres : (b.islands.get i).presence = .present) (hn : L.Nodup)
    (hL : ∀ x ∈ L, (b.cfg.hoses.get x).island = i) (hno : ∀ a ∈ L, ∀ q v, b.hoseStep a = some (q, v) → ¬ ClaimsNow b v) :
    Returning b L (L.foldl State.presentAt b) := by
  refine foldl_parts State.presentAt (Returning b) (Returning.nil b) fun p a q m hl hr => ?_
  have ha : a ∈ L := by rw [hl]; simp
  have hna : a ∉ p := by
    have := notMem_of_nodup_part (f := id) (p := p) (a := a) (q := q) (by rw [List.map_id, ← hl]; exact hn)
    rwa [List.map_id] at this
  exact hr.step hi hpres (fun x hx => hL x (by rw [hl]; exact List.mem_append_left _ hx)) hna (hL a ha) (hno a ha)

/-- A claim at one hose and the acting of another channel do not meet. -/
theorem ClaimAct.presentAt (hG : ClaimAct h r G) (hne : a ≠ h) (hhose : ∀ q v, m.hoseStep a = some (q, v) → q ≠ r ∧ v.hose = a
      ∧ (m.islands.get q.island).presence = .present ∧ ¬ ClaimsNow m v)
    (hr : ∃ st, HasStep m r st) : (G m).presentAt a = G (m.presentAt a) := by
  have hh := hG.hoses m a hne
  have hstep : (G m).hoseStep a = m.hoseStep a := by
    cases hm : m.hoseStep a with
    | some x =>
      obtain ⟨q, v⟩ := x
      obtain ⟨hq, hv⟩ := State.hoseStep_eq_some.mp hm
      exact State.hoseStep_eq_some.mpr ⟨by rw [hh]; exact hq, (hG.steps m q v (hhose q v hm).1).mpr hv⟩
    | none =>
      cases hg : (G m).hoseStep a with
      | none => rfl
      | some x =>
        obtain ⟨q, v⟩ := x
        obtain ⟨hq, hv⟩ := State.hoseStep_eq_some.mp hg
        rw [hh] at hq
        by_cases hqr : q = r
        · obtain ⟨st, hst⟩ := hr
          rw [State.hoseStep_eq_some.mpr ⟨hq, hqr ▸ hst⟩] at hm
          cases hm
        · rw [State.hoseStep_eq_some.mpr ⟨hq, (hG.steps m q v hqr).mp hv⟩] at hm
          cases hm
  cases hm : m.hoseStep a with
  | none => rw [State.presentAt_idle hm, State.presentAt_idle (hstep.trans hm)]
  | some x =>
    obtain ⟨q, v⟩ := x
    obtain ⟨hqr, hva, hpres, hno⟩ := hhose q v hm
    have hpres' : ((G m).islands.get q.island).presence = .present := by rw [hG.islands]; exact hpres
    have hno' : ¬ ClaimsNow (G m) v := by rw [ClaimsNow, hva, hh, hG.supply, ← hva]; exact hno
    have hmoves : MovesAt (G m) v ↔ MovesAt m v := by rw [MovesAt, MovesAt, hva, hh, hG.supply]
    by_cases hmv : MovesAt m v
    · rw [State.presentAt_moves hm hva hpres hmv, State.presentAt_moves (hstep.trans hm) hva hpres' (hmoves.mpr hmv)]
      exact (hG.comm m q v hqr (by rw [hva]; exact hne)).symm
    · rw [State.presentAt_stays hm hpres hmv hno,
        State.presentAt_stays (hstep.trans hm) hpres' (fun e => hmv (hmoves.mp e)) hno']

/-- With one claim the other steps of the island's hoses return, and the claim acts as if it came last. -/
theorem State.presentAt_foldl_claim (hG : ClaimAct h r G) (hi : IslandAgrees b i)
    (hpres : (b.islands.get i).presence = .present) (hn : L.Nodup) (hL : ∀ x ∈ L, (b.cfg.hoses.get x).island = i) (hmem : h ∈ L)
    (hs : b.hoseStep h = some (r, st)) (hc : ClaimsNow b st)
    (hno : ∀ a ∈ L, a ≠ h → ∀ q v, b.hoseStep a = some (q, v) → ¬ ClaimsNow b v)
    (hclaim : ∀ m, HasStep m r st → m.tanks = b.tanks → m.cfg = b.cfg → m.shut = b.shut → m.hoseStep h = some (r, st) →
      ClaimsNow m st → (m.islands.get r.island).presence = .present → m.presentAt h = G m) :
    ∃ m, Returning b L m ∧ HasStep m r st ∧ L.foldl State.presentAt b = G m := by
  have hstill {p : List HoseNo} {m : State} (hp : ∀ x ∈ p, (b.cfg.hoses.get x).island = i) (hr : Returning b p m) :
      HasStep m r st := by
    refine (hasStep_mapSteps hr.taken.orders).mpr ⟨st, (State.hoseStep_eq_some.mp hs).2, (if_neg fun hm => ?_).symm⟩
    obtain ⟨⟨q, w⟩, hmem', rfl⟩ := List.mem_map.mp hm
    obtain ⟨x, -, hx, hmv⟩ := mem_movers.mp hmem'
    cases HasStep.unique (State.hoseStep_eq_some.mp hx).2 (State.hoseStep_eq_some.mp hs).2
    obtain ⟨hw, -, -, -, h0⟩ := hc
    rcases hmv with ⟨e, -⟩ | ⟨-, -, -, -, e⟩
    · rw [hw] at e; cases e
    · omega
  have key := foldl_parts (l := L) State.presentAt (fun p t => ∃ m, Returning b p m ∧ t = if h ∈ p then G m else m) (b := b)
    ⟨b, Returning.nil b, rfl⟩ fun p a l t hl ht => by
      obtain ⟨m, hr, rfl⟩ := ht
      have ha : a ∈ L := by rw [hl]; simp
      have hna : a ∉ p := by
        have := notMem_of_nodup_part (f := id) (p := p) (a := a) (q := l) (by rw [List.map_id, ← hl]; exact hn)
        rwa [List.map_id] at this
      have hp : ∀ x ∈ p, (b.cfg.hoses.get x).island = i := fun x hx => hL x (by rw [hl]; exact List.mem_append_left _ hx)
      have hstep := hr.hoseStep hi hp hna (hL a ha)
      have hhose := hr.hose hi hp hna
      have hislands : m.islands = b.islands := by rw [hr.only]
      have hsupply : m.supply = b.supply := by rw [hr.only]
      by_cases hah : a = h
      · subst hah
        obtain ⟨hsa, hri⟩ := IslandAgrees.hoseStep hi (hL a ha) hs
        refine ⟨m, hr.append_of fun q v hq hmv => ?_, ?_⟩
        · rw [hs] at hq
          cases hq
          obtain ⟨hw, -, -, -, h0⟩ := hc
          rcases hmv with ⟨e, -⟩ | ⟨-, -, -, -, e⟩
          · rw [hw] at e; cases e
          · omega
        · rw [if_neg hna, if_pos (by simp)]
          refine hclaim m (hstill hp hr) (by rw [hr.only]) (by rw [hr.only]) (by rw [hr.only]) (hstep.trans hs) ?_ ?_
          · rw [ClaimsNow, hsa, hhose, hsupply, ← hsa]; exact hc
          · rw [hislands, hri]; exact hpres
      · refine ⟨m.presentAt a, hr.step hi hpres hp hna (hL a ha) (hno a ha hah), ?_⟩
        have hmem' : h ∈ p ++ [a] ↔ h ∈ p := by
          rw [List.mem_append, List.mem_singleton]
          exact ⟨fun e => e.elim id fun e => absurd e.symm hah, .inl⟩
        rw [if_congr hmem' rfl rfl]
        split
        · refine hG.presentAt hah (fun q v hq => ?_) ⟨st, hstill hp hr⟩
          rw [hstep] at hq
          obtain ⟨hva, hqi⟩ := IslandAgrees.hoseStep hi (hL a ha) hq
          refine ⟨?_, hva, by rw [hislands, hqi]; exact hpres, ?_⟩
          · rintro rfl
            cases HasStep.unique (State.hoseStep_eq_some.mp hq).2 (State.hoseStep_eq_some.mp hs).2
            exact hah (hva.symm.trans (IslandAgrees.hoseStep hi (hL h hmem) hs).1)
          · rw [ClaimsNow, hva, hhose, hsupply, ← hva]; exact hno a ha hah q v hq
        · rfl
  obtain ⟨m, hr, ht⟩ := key
  rw [if_pos hmem] at ht
  exact ⟨m, hr, hstill hL hr, ht⟩

end

end Sys2Proof.Machine
end

section
/-! SUPPORT. The claim of a waiting step without a reservation (R32, R33, R87, R88). -/

namespace Sys2Proof.Machine

open Sys2Proof.Safety

/-- A tank of which a quantity is reserved by a grant (R88). -/
def reservedBy (q : Nat) (k : Tank) : Tank :=
  { k with reserved := k.reserved + q, leak := .busy, quietTimer := none, baseline := none }

/-- A claim that is granted. -/
def grantedAt (r : StepRef) (st : Step) (q : Nat) (limit : LimitedBy) (x : State) : State :=
  let w : Step := { st with target := q, limitedBy := limit }
  let k := st.ctx.tank
  { x with
    hoses := x.hoses.modify st.hose (enteredChannel w), orders := putStep x r (enteredStep w)
    tanks := x.tanks.modify k (reservedBy q)
    ports := raised x
      (noticeIf (lowPassed (x.cfg.tanks.get k) (x.tanks.get k) (reservedBy q (x.tanks.get k))) (notice .tankLow)) }

/-- A claim that is refused: the step's end report is on its way. -/
def refusedAt (r : StepRef) (st : Step) (e : StepEnd) (cause : Option Cause) (x : State) : State :=
  let k := st.ctx.tank
  let freed := chargedTank (x.cfg.tanks.get k).quietTime st 0
  { x with
    hoses := x.hoses.modify st.hose freedChannel, tanks := x.tanks.modify k freed
    ports := raised x (noticeIf (lowPassed (x.cfg.tanks.get k) (x.tanks.get k) (freed (x.tanks.get k))) (notice .tankLow))
    ends := x.ends ++ [endReport r st e (waitingFigures st) cause] }

section
variable {s : State} {r : StepRef} {st : Step} {q amount : Nat} {limit : LimitedBy}

theorem State.grant_eq (hq : 0 < q) (k : TankNo) : s.grant k q = { s with
    tanks := s.tanks.modify k (reservedBy q)
    ports := raised s
      (noticeIf (lowPassed (s.cfg.tanks.get k) (s.tanks.get k) (reservedBy q (s.tanks.get k))) (notice .tankLow)) } := by
  have hf : (fun k : Tank => let k := { k with reserved := k.reserved + q }; if 0 < k.reserved then k.leakBusy else k)
      = reservedBy q := by
    funext k
    exact if_pos (Nat.lt_of_lt_of_le hq (Nat.le_add_left q k.reserved))
  rw [State.grant, hf, State.changeStock_eq]

theorem netOf_zero (h : st.netAcc = 0) : netOf st = 0 := by
  rw [netOf, h]

/-- A grant takes the step to RUNNING (R33, R35). -/
theorem State.applyClaim_granted (h : HasStep s r st) (h0 : st.netAcc = 0) (hq : 0 < q) (draw : Bool) (want : Nat × LimitedBy) :
    s.applyClaim r st draw want (.granted q)
      = grantedAt r st q (if q < want.1 then (if draw then .stock else .room) else want.2) s := by
  generalize hlimit : (if q < want.1 then (if draw = true then LimitedBy.stock else .room) else want.2) = limit
  have hn : netOf { st with target := q, limitedBy := limit } < q := by
    have : netOf { st with target := q, limitedBy := limit } = 0 := netOf_zero h0
    omega
  have hmod := State.modStep_eq (s := s.grant st.ctx.tank q) (r := r) (st := st)
    (by rw [State.grant_eq hq]; exact h) fun st => { st with target := q, limitedBy := limit }
  simp only [State.applyClaim, hlimit]
  rw [hmod, State.enterRunning_eq (hasStep_putStep (by rw [State.grant_eq hq]; exact h) rfl) hn]
  have horders (v w : Step) : putStep { s with orders := putStep s r v } r w = putStep s r w :=
    putStep_putStep (s := s) (v := v) rfl w
  rw [State.grant_eq hq, grantedAt, ← horders]
  rfl

theorem State.stepCover_eq (r : StepRef) (st : Step) : s.stepCover r st = (coveringEntry s r st).map (·.firstCause) := by
  have hcons {α β : Type} (f : α → Option β) (a : α) (l : List α) : (a :: l).findSome? f = (f a).or (l.findSome? f) := by
    rw [List.findSome?_cons]; cases f a <;> rfl
  simp only [State.stepCover, State.firstCause, coveringEntry, hcons, List.findSome?_nil, Option.or_none, Option.map_or,
    Option.or_assoc]

/-- The couple-wait timer of the channel stops as its step claims (R32). -/
theorem State.claim_refused (e : StepEnd) (cause : Option Cause) :
    (s.modHose st.hose fun c => { c with coupleTimer := none }).endWaiting r st e cause = refusedAt r st e cause s := by
  have h := State.sendEnd_eq (s.modHose st.hose fun c => { c with coupleTimer := none }) st
    (endReport r st e (waitingFigures st) cause) rfl
  have hhoses : (s.hoses.modify st.hose fun c => { c with coupleTimer := none }).modify st.hose freedChannel
      = s.hoses.modify st.hose freedChannel := Table.modify_modify ..
  rw [State.endWaiting, h, refusedAt, ← hhoses]
  congr 1
  exact raised_congr _ rfl rfl

theorem State.claim_granted :
    grantedAt r st q limit (s.modHose st.hose fun c => { c with coupleTimer := none }) = grantedAt r st q limit s := by
  have hhoses : (s.hoses.modify st.hose fun c => { c with coupleTimer := none }).modify st.hose
      (enteredChannel { st with target := q, limitedBy := limit })
      = s.hoses.modify st.hose (enteredChannel { st with target := q, limitedBy := limit }) := Table.modify_modify ..
  rw [grantedAt, grantedAt, ← hhoses]
  congr 1
  exact raised_congr _ rfl rfl

/-! ## What a claim comes to -/

/-- What the claim of a step for an amount does, as coverage and the stock unit answer it in `b`. -/
def claimAct (b : State) (r : StepRef) (st : Step) (amount : Nat) (limit : LimitedBy) : State → State :=
  match b.stepCover r st with
  | some c => refusedAt r st .shutdown (some c)
  | none =>
    match claimAnswer (b.cfg.tanks.get st.ctx.tank) (b.tanks.get st.ctx.tank) (StepKindDraws st.kind) amount with
    | .refused e => refusedAt r st e none
    | .granted q => grantedAt r st q (if q < amount then (if StepKindDraws st.kind then .stock else .room) else limit)

theorem claimAct_covered {b : State} {c : Cause} (h : b.stepCover r st = some c) :
    claimAct b r st amount limit = refusedAt r st .shutdown (some c) := by
  rw [claimAct, h]

theorem claimAct_refused {b : State} {e : StepEnd} (h : b.stepCover r st = none)
    (ha : claimAnswer (b.cfg.tanks.get st.ctx.tank) (b.tanks.get st.ctx.tank) (StepKindDraws st.kind) amount = .refused e) :
    claimAct b r st amount limit = refusedAt r st e none := by
  rw [claimAct, h]
  simp only [ha]

theorem claimAct_granted {b : State} (h : b.stepCover r st = none)
    (ha : claimAnswer (b.cfg.tanks.get st.ctx.tank) (b.tanks.get st.ctx.tank) (StepKindDraws st.kind) amount = .granted q) :
    claimAct b r st amount limit
      = grantedAt r st q (if q < amount then (if StepKindDraws st.kind then .stock else .room) else limit) := by
  rw [claimAct, h]
  simp only [ha]

theorem claimAnswer_pos {c : TankCfg} {k : Tank} {draw : Bool} (h1 : 1 ≤ amount) (h : claimAnswer c k draw amount = .granted q) :
    0 < q := by
  rw [claimAnswer] at h
  generalize (if draw = true then available c k else room c k) = x at h
  split at h
  · cases h
  · split at h
    · cases h; exact h1
    · split at h
      · next hq => cases h; exact hq.1
      · cases h

/-- A claim is refused or granted a quantity above 0. -/
theorem claimAct_cases (b : State) (r : StepRef) (st : Step) (limit : LimitedBy) (h1 : 1 ≤ amount) :
    (∃ e cause, claimAct b r st amount limit = refusedAt r st e cause)
      ∨ ∃ q l, 0 < q ∧ claimAct b r st amount limit = grantedAt r st q l := by
  cases hc : b.stepCover r st with
  | some c => exact .inl ⟨_, _, claimAct_covered hc⟩
  | none =>
    cases ha : claimAnswer (b.cfg.tanks.get st.ctx.tank) (b.tanks.get st.ctx.tank) (StepKindDraws st.kind) amount with
    | refused e => exact .inl ⟨_, _, claimAct_refused hc ha⟩
    | granted q => exact .inr ⟨_, _, claimAnswer_pos h1 ha, claimAct_granted hc ha⟩

theorem State.claim_acts (h : HasStep s r st) (h0 : st.netAcc = 0) (hw : Wants st amount limit) (h1 : 1 ≤ amount) :
    (s.modHose st.hose fun c => { c with coupleTimer := none }).claim r st = claimAct s r st amount limit s := by
  have hreq := (wants_iff st amount limit).mp hw
  generalize hu : (s.modHose st.hose fun c => { c with coupleTimer := none }) = u
  have hcover : u.stepCover r st = s.stepCover r st := by rw [← hu]; exact State.stepCover_congr rfl r st
  have hst : HasStep u r st := by rw [← hu]; exact h
  have hcfg : u.cfg = s.cfg := by rw [← hu]; rfl
  have htanks : u.tanks = s.tanks := by rw [← hu]; rfl
  rw [State.claim, hcover]
  cases hc : s.stepCover r st with
  | some c =>
    rw [claimAct_covered hc, ← State.claim_refused, hu]
  | none =>
    simp only [hreq, hcfg, htanks]
    cases ha : claimAnswer (s.cfg.tanks.get st.ctx.tank) (s.tanks.get st.ctx.tank) (StepKindDraws st.kind) amount with
    | refused e => rw [claimAct_refused hc ha, State.applyClaim, ← hu, State.claim_refused]
    | granted q =>
      have hq := claimAnswer_pos h1 ha
      rw [claimAct_granted hc ha]
      rw [State.applyClaim_granted hst h0 hq, ← hu, State.claim_granted]

end

end Sys2Proof.Machine
end

section
/-! SUPPORT. The claim of a returning step among the other steps that return (R32, R44). -/

namespace Sys2Proof.Machine

open Sys2Proof.Safety

section
variable {s m t : State} {r : StepRef} {st : Step} {q amount : Nat} {limit : LimitedBy}

theorem refusedAt_isAct (r : StepRef) (st : Step) (e : StepEnd) (cause : Option Cause) :
    ClaimAct st.hose r (refusedAt r st e cause) where
  hoses x a ha := Table.modify_of_ne _ _ ha
  steps _ _ _ _ := Iff.rfl
  islands _ := rfl
  supply _ := rfl
  comm x q v _ hv := by
    have hsame : (refusedAt r st e cause x).hoses.get v.hose = x.hoses.get v.hose := Table.modify_of_ne _ _ hv
    rw [stepReturned, stepReturned, returnedChannel_congr hsame, returnedStep_congr hsame, returnReports_congr hsame, refusedAt,
      refusedAt]
    congr 1
    · exact raised_congr _ rfl rfl
    · exact Table.modify_comm _ hv _ _

theorem grantedAt_isAct (r : StepRef) (st : Step) (q : Nat) (limit : LimitedBy) :
    ClaimAct st.hose r (grantedAt r st q limit) where
  hoses x a ha := Table.modify_of_ne _ _ ha
  steps x p v hp := hasStep_putStep_of_ne hp rfl
  islands _ := rfl
  supply _ := rfl
  comm x p v hp hv := by
    have hsame : (grantedAt r st q limit x).hoses.get v.hose = x.hoses.get v.hose := Table.modify_of_ne _ _ hv
    rw [stepReturned, stepReturned, returnedChannel_congr hsame, returnedStep_congr hsame, returnReports_congr hsame, grantedAt,
      grantedAt]
    congr 1
    · exact raised_congr _ rfl rfl
    · exact putStep_comm hp rfl rfl
    · exact Table.modify_comm _ hv _ _

theorem claimAct_isAct (b : State) (r : StepRef) (st : Step) (limit : LimitedBy) (h1 : 1 ≤ amount) :
    ClaimAct st.hose r (claimAct b r st amount limit) := by
  rcases claimAct_cases b r st limit h1 with ⟨e, cause, h⟩ | ⟨q, l, -, h⟩ <;> rw [h]
  · exact refusedAt_isAct r st e cause
  · exact grantedAt_isAct r st q l

theorem claimAct_congr (hs : m.shut = s.shut) (hc : m.cfg = s.cfg) (ht : m.tanks = s.tanks) :
    claimAct m r st amount limit = claimAct s r st amount limit := by
  rw [claimAct, claimAct, State.stepCover_congr hs, hc, ht]

/-! ## The stock unit's answer in the statement's words (R87, R88) -/

/-- The step draws from its tank. -/
abbrev Draws (st : Step) : Prop := st.kind = .preset ∨ st.kind = .openFill

theorem stepKindDraws_iff (st : Step) : StepKindDraws st.kind = true ↔ Draws st :=
  decide_eq_true_iff

/-- What is left of a tank, floored at 0, against an amount above 0. -/
theorem le_quantityFor_iff (s : State) (st : Step) {n : Nat} (h1 : 1 ≤ n) :
    n ≤ (if StepKindDraws st.kind = true then available (s.cfg.tanks.get st.ctx.tank) (s.tanks.get st.ctx.tank)
      else room (s.cfg.tanks.get st.ctx.tank) (s.tanks.get st.ctx.tank)) ↔ (n : Int) ≤ quantityFor s st := by
  unfold quantityFor available room
  by_cases hd : Draws st
  · rw [if_pos ((stepKindDraws_iff st).mpr hd), if_pos hd]; omega
  · rw [if_neg (fun e => hd ((stepKindDraws_iff st).mp e)), if_neg hd]; omega

theorem quantityFor_toNat (s : State) (st : Step) :
    (if StepKindDraws st.kind = true then available (s.cfg.tanks.get st.ctx.tank) (s.tanks.get st.ctx.tank)
      else room (s.cfg.tanks.get st.ctx.tank) (s.tanks.get st.ctx.tank)) = (quantityFor s st).toNat := by
  unfold quantityFor available room
  by_cases hd : Draws st
  · rw [if_pos ((stepKindDraws_iff st).mpr hd), if_pos hd]
  · rw [if_neg (fun e => hd ((stepKindDraws_iff st).mp e)), if_neg hd]

theorem draws_ite {α : Type} (st : Step) (x y : α) :
    (if StepKindDraws st.kind = true then x else y) = if Draws st then x else y :=
  if_congr (stepKindDraws_iff st) rfl rfl

/-- The row of the table of R88 that answers a claim. -/
theorem claimAnswer_outOfService (h : (s.tanks.get st.ctx.tank).state = .outOfService) :
    claimAnswer (s.cfg.tanks.get st.ctx.tank) (s.tanks.get st.ctx.tank) (StepKindDraws st.kind) amount
      = .refused .tankUnavailable := if_pos h

theorem claimAnswer_all (h : (s.tanks.get st.ctx.tank).state ≠ .outOfService) (h1 : 1 ≤ amount)
    (hq : (amount : Int) ≤ quantityFor s st) :
    claimAnswer (s.cfg.tanks.get st.ctx.tank) (s.tanks.get st.ctx.tank) (StepKindDraws st.kind) amount = .granted amount := by
  rw [claimAnswer, if_neg h]
  exact if_pos ((le_quantityFor_iff s st h1).mpr hq)

theorem claimAnswer_part (h : (s.tanks.get st.ctx.tank).state ≠ .outOfService) (h1 : 1 ≤ amount)
    (hq : quantityFor s st < amount)
    (he : 1 ≤ quantityFor s st ∧ ((s.cfg.tanks.get st.ctx.tank).minStart : Int) ≤ quantityFor s st) :
    claimAnswer (s.cfg.tanks.get st.ctx.tank) (s.tanks.get st.ctx.tank) (StepKindDraws st.kind) amount
      = .granted (quantityFor s st).toNat := by
  have hno := (le_quantityFor_iff s st h1).not.mpr (by omega)
  have hn := quantityFor_toNat s st
  rw [claimAnswer, if_neg h]
  refine (if_neg hno).trans ?_
  rw [hn]
  exact if_pos (by omega)

theorem claimAnswer_none (h : (s.tanks.get st.ctx.tank).state ≠ .outOfService) (h1 : 1 ≤ amount)
    (hq : quantityFor s st < amount)
    (he : ¬ (1 ≤ quantityFor s st ∧ ((s.cfg.tanks.get st.ctx.tank).minStart : Int) ≤ quantityFor s st)) :
    claimAnswer (s.cfg.tanks.get st.ctx.tank) (s.tanks.get st.ctx.tank) (StepKindDraws st.kind) amount
      = .refused (if Draws st then .noStock else .noRoom) := by
  have hno := (le_quantityFor_iff s st h1).not.mpr (by omega)
  have hn := quantityFor_toNat s st
  rw [claimAnswer, if_neg h]
  refine (if_neg hno).trans ?_
  rw [hn, ← draws_ite]
  exact if_neg (by omega)

/-- What the statements say of a claim, from what the model makes of it. -/
theorem claimTaken_of {goesOn : Order → Prop} (h0 : st.target = 0) (hw : Wants st amount limit) (h1 : 1 ≤ amount)
    (hg : ∀ q l, claimAct m r st amount limit = grantedAt r st q l → t = { grantedAt r st q l m with shut := t.shut })
    (hr : ∀ e cause, claimAct m r st amount limit = refusedAt r st e cause →
      ∀ o, m.orders.get r.island = some o → goesOn o → t = { refusedAt r st e cause m with
        orders := putStep m r (endedWaitingStep e cause st), ends := m.ends
        ports := raised (refusedAt r st e cause m) [noticeAt .stepEnded r.island], shut := t.shut }) :
    ClaimTaken m t st.hose r st amount limit goesOn := by
  have hlimit : endLimit st = limit := by
    rw [endLimit, if_pos h0, (wants_iff st amount limit).mp hw]
  have hended (e : StepEnd) (cause : Option Cause) : endedWaitingStep e cause st = { st with
      state := .ended, endStatus := some e, limitedBy := limit, suspension := none, cause := cause
      final := some { gross := 0, net := 0, overrun := 0, residue := 0 } } := by
    have hx : ({ gross := 0, net := 0, overrun := 0, residue := st.target } : Figures) =
        { gross := 0, net := 0, overrun := 0, residue := 0 } := by rw [h0]
    rw [← hlimit, ← hx]
    rfl
  unfold ClaimTaken
  intro k c draw quantity enough granted refused
  have refused_of {e : StepEnd} {cause : Option Cause} (h : claimAct m r st amount limit = refusedAt r st e cause) :
      refused e cause := by
    intro o ho hgo
    have hports : raised (refusedAt r st e cause m) [noticeAt .stepEnded r.island]
        = raised m (noticeIf (lowPassed c (m.tanks.get k) (chargedTank c.quietTime st 0 (m.tanks.get k))) (notice .tankLow)
          ++ [noticeAt .stepEnded r.island]) := by
      rw [raised_append]
      exact raised_congr _ rfl rfl
    have ht := hr e cause h o ho hgo
    rw [hended, hports] at ht
    exact ht
  refine ⟨fun e he => refused_of (claimAct_covered (by rw [State.stepCover_eq, he]; rfl)), fun hc => ?_⟩
  have hcover := State.stepCover_eq_none.mpr hc
  refine ⟨fun hout => refused_of (claimAct_refused hcover (claimAnswer_outOfService hout)), fun hin => ⟨fun hq => ?_,
    fun hq he => ?_, fun hq he => refused_of (claimAct_refused hcover (claimAnswer_none hin h1 hq he))⟩⟩
  · have := hg _ _ (claimAct_granted hcover (claimAnswer_all hin h1 hq))
    rw [if_neg (Nat.lt_irrefl _)] at this
    exact this
  · have := hg _ _ (claimAct_granted hcover (claimAnswer_part hin h1 hq he))
    rw [if_pos (by omega), draws_ite] at this
    exact this

end

end Sys2Proof.Machine
end

section
/-! SUPPORT. The order unit after the return of a machine, and the return as the statements say it (R9, R12, R44, R78). -/

namespace Sys2Proof.Machine

open Sys2Proof.Safety

/-! ## No group comes due (R9) -/

/-- No group of an island's order comes due. -/
def NotDue (s : State) (i : IslandNo) : Prop :=
  ∀ o, s.orders.get i = some o → ∀ n w, ¬ (o.state = .active ∧ NextAt o n w)

section
variable {s t : State} {i : IslandNo} {g : StepRef → Step → Step}

theorem State.nextGroup_notDue (h : NotDue s i) : s.nextGroup i = s := by
  rw [State.nextGroup, State.tryStart]
  cases ho : s.orders.get i with
  | none => rfl
  | some o =>
    simp only
    cases hk : o.steps.findIdx? (fun st => decide (st.state = .pending)) with
    | none => rfl
    | some k =>
      simp only
      refine if_neg fun e => ?_
      obtain ⟨ha, hlive, -⟩ := e
      obtain ⟨hlt, hpend, -⟩ := List.findIdx?_eq_some_iff_getElem.mp hk
      refine h o ho k o.steps[k] ⟨ha, List.getElem?_eq_getElem hlt, of_decide_eq_true hpend, fun w hw => ?_⟩
      have := List.all_eq_true.mp hlive w hw
      rw [Bool.not_eq_true', ← Bool.not_eq_true, Step.isLive_iff] at this
      tauto

/-- Changes of step records that make none PENDING and finish none leave the order where it was. -/
theorem NotDue.mapSteps (h : NotDue s i) (ht : t.orders = mapSteps s g)
    (hg : ∀ q st, HasStep s q st → ((g q st).state = .pending → st.state = .pending)
      ∧ ((g q st).state = .ended ∨ (g q st).state = .notRun → st.state = .ended ∨ st.state = .notRun)) : NotDue t i := by
  intro p hp n w
  rintro ⟨ha, hw, hpend, hdone⟩
  rw [ht, mapSteps_get] at hp
  obtain ⟨o, ho, rfl⟩ := Option.map_eq_some_iff.mp hp
  have hget {k : Nat} {v : Step} (hv : (o.steps.mapIdx fun k st => g ⟨i, k⟩ st)[k]? = some v) :
      ∃ st, o.steps[k]? = some st ∧ g ⟨i, k⟩ st = v := by
    rw [List.getElem?_mapIdx] at hv
    exact Option.map_eq_some_iff.mp hv
  obtain ⟨st, hst, rfl⟩ := hget hw
  refine h o ho n st ⟨ha, hst, (hg _ st ⟨o, ho, hst⟩).1 hpend, fun x hx => ?_⟩
  obtain ⟨k, hk, rfl⟩ := List.mem_take_iff_getElem.mp hx
  have hkl : k < o.steps.length := by omega
  have hxs : o.steps[k]? = some o.steps[k] := List.getElem?_eq_getElem hkl
  refine (hg ⟨i, k⟩ _ ⟨o, ho, hxs⟩).2 (hdone _ (List.mem_take_iff_getElem.mpr ⟨k, ?_, ?_⟩))
  · rw [List.length_mapIdx]; omega
  · rw [List.getElem_mapIdx]

end

/-! ## What the order unit finds when the channels have acted -/

section
variable {b m : State} {i : IslandNo} {r : StepRef} {st : Step} {amount : Nat} {limit : LimitedBy}

theorem arrivedStep_state (st : Step) :
    (arrivedStep st).state = .settling ∨ (arrivedStep st).state = .runningSlow ∨ (arrivedStep st).state = .runningFast := by
  unfold arrivedStep
  split
  · exact .inl rfl
  · unfold enteredStep
    dsimp only
    split
    · exact .inr (.inl rfl)
    · exact .inr (.inr rfl)

theorem returnedStep_state (s : State) (st : Step) : (returnedStep s st).state = .settling
    ∨ (returnedStep s st).state = .runningSlow ∨ (returnedStep s st).state = .runningFast := by
  unfold returnedStep
  split
  · exact .inl rfl
  · exact arrivedStep_state st

/-- The return of steps makes no group due. -/
theorem Returning.notDue {p : List HoseNo} (h : Returning b p m) (hn : NotDue b i) : NotDue m i := by
  refine hn.mapSteps h.taken.orders fun q st _ => ?_
  split
  · rcases returnedStep_state b st with e | e | e <;> simp [e]
  · exact ⟨id, id⟩

theorem grantedAt_notDue {q : Nat} (hn : NotDue m i) :
    NotDue (grantedAt r st q limit m) i := by
  refine hn.mapSteps (putStep_eq_mapSteps m r _) fun p w hw => ?_
  split
  · unfold enteredStep
    dsimp only
    split <;> simp
  · exact ⟨id, id⟩

theorem groupOf_congr {l m : List Step} (h : l.map (·.isParallel) = m.map (·.isParallel)) (k : Nat) :
    groupOf l k = groupOf m k := by
  have hcount (m : List Step) : groupOf m k = ((m.map (·.isParallel)).take (k + 1)).countP (!·) := by
    rw [groupOf, ← List.countP_eq_length_filter, ← List.map_take, List.countP_map]
    rfl
  rw [hcount, hcount, h]

theorem groupOf_set {l : List Step} {n : Nat} {v w : Step} (h : l[n]? = some v) (hp : w.isParallel = v.isParallel) (k : Nat) :
    groupOf (l.set n w) k = groupOf l k := by
  refine groupOf_congr (List.ext_getElem? fun j => ?_) k
  rw [List.getElem?_map, List.getElem?_map, List.getElem?_set]
  split
  · next hj =>
    subst hj
    obtain ⟨hlt, -⟩ := List.getElem?_eq_some_iff.mp h
    rw [if_pos hlt, h]
    exact congrArg some hp
  · rfl

/-- The order goes on with another step of its group when a claim is refused (R12). -/
def GoesOnWithout (r : StepRef) (st : Step) (o : Order) : Prop :=
  o.state = .active ∧ st.stopOnError = false ∧ ∃ k x, k ≠ r.idx ∧ o.steps[k]? = some x ∧ groupOf o.steps k = o.group
    ∧ x.state ≠ .ended ∧ x.state ≠ .notRun ∧ ∀ (j : Nat) (w : Step), o.steps[j]? = some w → w.state = .pending → k < j

/-- The refusal of a claim ends the step; when its order goes on, that is all (R12, R33). -/
theorem refusedAt_settles {o : Order} (hst : HasStep m r st) (hm : m.ends = []) (ho : m.orders.get r.island = some o)
    (hg : GoesOnWithout r st o) (e : StepEnd) (cause : Option Cause) :
    ((refusedAt r st e cause m).drain.nextGroup r.island).settleAll = { refusedAt r st e cause m with
      orders := putStep m r (endedWaitingStep e cause st), ends := m.ends
      ports := raised (refusedAt r st e cause m) [noticeAt .stepEnded r.island]
      shut := ((refusedAt r st e cause m).drain.nextGroup r.island).settleAll.shut } := by
  obtain ⟨ha, hstop, k, x, hk, hx, hgroup, hx₁, hx₂, hlast⟩ := hg
  obtain ⟨o', ho', hsto⟩ := id hst
  cases ho.symm.trans ho'
  generalize hv : ({ refusedAt r st e cause m with
      orders := putStep m r (endedWaitingStep e cause st), ends := m.ends
      ports := raised (refusedAt r st e cause m) [noticeAt .stepEnded r.island] } : State) = v
  have hvo : v.orders.get r.island = some { o with steps := o.steps.set r.idx (endedWaitingStep e cause st) } := by
    rw [← hv]
    exact (putStep_get _).trans (by rw [if_pos rfl, ho]; rfl)
  have hends : v.ends = [] := by rw [← hv]; exact hm
  have hx' : (o.steps.set r.idx (endedWaitingStep e cause st))[k]? = some x := by
    rw [List.getElem?_set, if_neg hk.symm]; exact hx
  have hcourse : v.course r.island false = v := by
    have hhold : Order.holdDone { o with steps := o.steps.set r.idx (endedWaitingStep e cause st) } = false :=
      Bool.eq_false_of_not_iff (Order.holdDone_iff _) fun h => absurd (ha.symm.trans h.1) (by decide)
    have hdone : ¬ Order.groupDone { o with steps := o.steps.set r.idx (endedWaitingStep e cause st) } = true := by
      rw [Order.groupDone_iff, not_not]
      exact ⟨k, x, hx', (groupOf_set (w := endedWaitingStep e cause st) hsto rfl k).trans hgroup, hx₁, hx₂⟩
    rw [State.course_else hvo (fun h => absurd (ha.symm.trans h) (by decide)) hhold, if_neg hdone]
  have htake : State.takeEnd { refusedAt r st e cause m with ends := [] } (endReport r st e (waitingFigures st) cause) = v := by
    rw [State.takeEnd_eq (st := st) (by exact hst)]
    have hstops : (st.stopOnError && isError st.kind e) = false := by rw [hstop]; rfl
    change State.course { refusedAt r st e cause m with
      ends := [], orders := putStep m r (endedWaitingStep e cause st)
      ports := raised { refusedAt r st e cause m with ends := [] } [noticeAt .stepEnded r.island] } r.island
      (st.stopOnError && isError st.kind e) = v
    rw [hstops]
    have : ({ refusedAt r st e cause m with
        ends := [], orders := putStep m r (endedWaitingStep e cause st)
        ports := raised { refusedAt r st e cause m with ends := [] } [noticeAt .stepEnded r.island] } : State) = v := by
      have hports : raised { refusedAt r st e cause m with ends := [] } [noticeAt .stepEnded r.island]
          = raised (refusedAt r st e cause m) [noticeAt .stepEnded r.island] := raised_congr _ rfl rfl
      rw [hports, ← hv, hm]
    rw [this]
    exact hcourse
  have hdrain : (refusedAt r st e cause m).drain = v := by
    refine State.drain_one ?_ htake hends
    rw [refusedAt, hm]
    rfl
  have hnot : NotDue v r.island := by
    intro p hp n w
    cases hvo.symm.trans hp
    rintro ⟨-, hw, hpend, hdone⟩
    have hne : r.idx ≠ n := by
      rintro rfl
      rw [List.getElem?_set] at hw
      split at hw
      · split at hw
        · cases hw; cases hpend
        · cases hw
      · contradiction
    have hw' : o.steps[n]? = some w := by
      rw [List.getElem?_set, if_neg hne] at hw
      exact hw
    have hkn := hlast n w hw' hpend
    have hmem : x ∈ (o.steps.set r.idx (endedWaitingStep e cause st)).take n := by
      obtain ⟨hl, he⟩ := List.getElem?_eq_some_iff.mp hx'
      exact List.mem_take_iff_getElem.mpr ⟨k, by omega, he⟩
    exact (hdone x hmem).elim hx₁ hx₂
  rw [hdrain, State.nextGroup_notDue hnot, State.settleAll_eq hends, ← hv]

/-- What the statements say of a claim as a machine comes back. -/
theorem State.claim_taken (hst : HasStep m r st) (hm : m.ends = []) (hn : NotDue m r.island) (h0 : st.target = 0)
    (hw : Wants st amount limit) (h1 : 1 ≤ amount) :
    ClaimTaken m ((claimAct m r st amount limit m).drain.nextGroup r.island).settleAll st.hose r st amount limit
      (GoesOnWithout r st) := by
  refine claimTaken_of h0 hw h1 (fun q l he => ?_) fun e cause he o ho hgo => ?_
  · have hends : (grantedAt r st q l m).ends = [] := hm
    rw [he, State.drain_of_nil hends, State.nextGroup_notDue (grantedAt_notDue hn)]
    exact State.settleAll_eq hends
  · rw [he]
    exact refusedAt_settles hst hm ho hgo e cause

end

end Sys2Proof.Machine
end

section
/-! FAMILY. The presence of the machine (R22, R43, R44, R75 to R78). -/

namespace Sys2Proof.Machine

open Sys2Proof.Safety

section
variable {s b m : State} {i : IslandNo}

/-! ## The return as the statements say it -/

/-- The reports of the steps that return, hose by hose (R42). -/
theorem movers_reports (b : State) (f : HoseNo → Option Report) (p : HoseNo → Bool) (l : List HoseNo)
    (h : ∀ a, (f a).toList = if p a = true then (moverAt b a).toList.flatMap fun x => returnReports b x.2 else []) :
    (movers b (l.filter p)).flatMap (fun x => returnReports b x.2) = l.filterMap f := by
  induction l with
  | nil => rfl
  | cons a l ih =>
    have hcons : (a :: l).filterMap f = (f a).toList ++ l.filterMap f := by
      rw [List.filterMap_cons]; cases f a <;> rfl
    rw [hcons, ← ih, h a, List.filter_cons]
    split
    · have : movers b (a :: l.filter p) = (moverAt b a).toList ++ movers b (l.filter p) := by
        rw [movers, List.filterMap_cons]; cases moverAt b a <;> rfl
      rw [this, List.flatMap_append]
    · rfl

theorem Returning.returned (h : Returning b (b.islandHoses i) m) (hi : IslandAgrees b i) : Returned b m i := by
  have hmem {r : StepRef} {st : Step} : (r, st) ∈ movers b (b.islandHoses i)
      ↔ ∃ h, (b.cfg.hoses.get h).island = i ∧ Refers b h r st ∧ MovesAt b st := by
    rw [mem_movers]
    refine exists_congr fun a => ?_
    rw [State.mem_islandHoses, State.hoseStep_eq_some]
    rfl
  have href {k : Nat} {st : Step} {j : IslandNo} (hst : HasStep b ⟨j, k⟩ st) :
      (⟨j, k⟩ : StepRef) ∈ (movers b (b.islandHoses i)).map (·.1) ↔ (⟨j, k⟩, st) ∈ movers b (b.islandHoses i) := by
    rw [List.mem_map]
    constructor
    · rintro ⟨⟨r, w⟩, hm, rfl⟩
      obtain ⟨a, -, hr, -⟩ := hmem.mp hm
      rwa [HasStep.unique hst hr.2]
    · exact fun hm => ⟨_, hm, rfl⟩
  have horders := h.taken.orders
  unfold Returned
  intro moves
  refine ⟨fun a r st hm => ?_, fun a hno => ?_, fun j hj => ?_, fun ho => ?_, fun o ho => ?_, ?_⟩
  · have := h.taken.hoses r st (hmem.mpr ⟨a, hm⟩)
    rwa [(hi a r st hm.1 hm.2.1).1] at this
  · refine h.taken.others a fun r st hm e => ?_
    obtain ⟨x, hx⟩ := hmem.mp hm
    rw [(hi x r st hx.1 hx.2.1).1] at e
    exact hno r st (e ▸ hx)
  · rw [horders, mapSteps_get]
    cases ho : b.orders.get j with
    | none => rfl
    | some o =>
      refine congrArg some (congrArg (fun l => { o with steps := l }) ?_)
      refine (mapIdx_congr fun k st hst => if_neg fun hm => ?_).trans (mapIdx_snd _)
      obtain ⟨x, hx, hr, -⟩ := hmem.mp ((href ⟨o, ho, hst⟩).mp hm)
      exact hj (hi x _ st hx hr).2
  · rw [horders, mapSteps_get, ho]; rfl
  · refine ⟨_, by rw [horders, mapSteps_get, ho]; rfl, by simp, fun k st w hst hw => ?_⟩
    rw [List.getElem?_mapIdx, hst] at hw
    cases hw
    have hk := (href ⟨o, ho, hst⟩).trans hmem
    exact ⟨fun hm => if_pos (hk.mpr hm), fun hno => if_neg fun hm => (hk.mp hm).elim hno⟩
  · have honly := h.only
    rw [State.islandHoses, allHoses, movers_reports b _ _ _ fun a => ?_] at honly
    · exact honly
    · cases hs : b.hoseStep a with
      | none => simp [moverAt, hs]
      | some x =>
        obtain ⟨r, st⟩ := x
        have hmover : moverAt b a = if MovesAt b st then some (r, st) else none := by
          rw [moverAt, hs, Option.filter_some]
          exact if_congr decide_eq_true_iff rfl rfl
        by_cases ha : (b.cfg.hoses.get a).island = i
        · have hhose := (IslandAgrees.hoseStep hi ha hs).1
          by_cases hm : MovesAt b st
          · simp only [hmover, returnReports, ha, hm, true_and, decide_true, if_true, Option.toList_some,
              List.flatMap_cons, List.flatMap_nil, List.append_nil, hhose]
            split <;> rfl
          · simp only [hmover, hm, false_and, and_false, if_false]
            split <;> rfl
        · simp only [ha, false_and, if_false, decide_false, Bool.false_eq_true]
          rfl

/-! ## The entry to PRESENT -/

/-- An island enters PRESENT: its channels act first, then the order unit (R78). -/
theorem Arrives.gives {c : Instr} (hr : s.running = true) (h : Arrives s i c b) :
    b = { s with pins := b.pins, islands := b.islands } ∧ (b.islands.get i).presence = .present
      ∧ exec c s = .next (b.arrived i).settleAll := by
  rcases h with ⟨rfl, hl, hp, rfl⟩ | ⟨rfl, hp, ht, rfl⟩
  · refine ⟨rfl, by simp, ?_⟩
    rw [exec_detectorAsserted hr hl]
    exact congrArg (fun x => Host.Outcome.next (State.settleAll x)) (State.detectorOn_leaving hp)
  · refine ⟨rfl, by simp, ?_⟩
    rw [exec_arrivalDebounceExpiry hr, State.arrivalExpiry_arriving hp ht]
    rfl

/-- The return without a claim, and no group due. -/
theorem State.arrived_returns (he : b.ends = []) (hi : IslandAgrees b i) (hp : (b.islands.get i).presence = .present)
    (hn : NotDue b i) (hno : ∀ h r st, ¬ ClaimsAt b i h r st) : Returned b (b.arrived i) i := by
  have hr : Returning b (b.islandHoses i) ((b.islandHoses i).foldl State.presentAt b) :=
    State.presentAt_foldl hi hp ((List.nodup_finRange 16).filter _) (fun x hx => State.mem_islandHoses.mp hx)
      fun a ha q v hs hc => by
        have hai := State.mem_islandHoses.mp ha
        have hva := (IslandAgrees.hoseStep hi hai hs).1
        rw [ClaimsNow, hva] at hc
        obtain ⟨h₁, h₂, h₃, h₄, h₅⟩ := hc
        exact hno a q v ⟨hai, State.hoseStep_eq_some.mp hs, h₁, h₂, h₃, h₄, h₅⟩
  have hends : ((b.islandHoses i).foldl State.presentAt b).ends = [] := by rw [hr.only]; exact he
  rw [State.arrived, State.drain_of_nil hends, State.nextGroup_notDue (hr.notDue hn)]
  exact hr.returned hi

/-- The return with one claim, and no group due. -/
theorem State.arrived_claims {h : HoseNo} {r : StepRef} {st : Step} {amount : Nat} {limit : LimitedBy} (he : b.ends = [])
    (hi : IslandAgrees b i) (hp : (b.islands.get i).presence = .present) (hn : NotDue b i) (hc : ClaimsAt b i h r st)
    (hone : ∀ x q w, ClaimsAt b i x q w → x = h) (h0 : st.netAcc = 0) (hw : Wants st amount limit) (h1 : 1 ≤ amount) :
    ∃ m, Returned b m i ∧ m.shut = b.shut
      ∧ ClaimTaken m (b.arrived i).settleAll h r st amount limit (GoesOnWithout r st) := by
  obtain ⟨hh, hr, hw₁, hw₂, hw₃, hw₄, ht⟩ := hc
  obtain ⟨rfl, rfl⟩ := hi h r st hh hr
  have hs : b.hoseStep st.hose = some (r, st) := State.hoseStep_eq_some.mpr hr
  obtain ⟨m, hm, hst, hfold⟩ := State.presentAt_foldl_claim (L := b.islandHoses r.island)
    (claimAct_isAct b r st limit h1) hi hp
    ((List.nodup_finRange 16).filter _) (fun x hx => State.mem_islandHoses.mp hx) (State.mem_islandHoses.mpr hh) hs
    ⟨hw₁, hw₂, hw₃, hw₄, ht⟩
    (fun a ha hne q v hq hcv => by
      have hai := State.mem_islandHoses.mp ha
      have hva := (IslandAgrees.hoseStep hi hai hq).1
      rw [ClaimsNow, hva] at hcv
      obtain ⟨h₁, h₂, h₃, h₄, h₅⟩ := hcv
      exact hne (hone a q v ⟨hai, State.hoseStep_eq_some.mp hq, h₁, h₂, h₃, h₄, h₅⟩))
    (fun m hst ht hcfg hshut hsm hcm hpm => by
      rw [State.presentAt_claims hsm hpm hcm, State.claim_acts hst h0 hw h1, claimAct_congr hshut hcfg ht])
  have honly := hm.only
  have hends : m.ends = [] := by rw [honly]; exact he
  refine ⟨m, hm.returned hi, by rw [honly], ?_⟩
  have htaken := State.claim_taken hst hends (hm.notDue hn) ht hw h1
  rw [claimAct_congr (s := b) (by rw [honly]) (by rw [honly]) (by rw [honly])] at htaken
  rw [State.arrived, hfold]
  exact htaken

/-! ## The departure (R22) -/

theorem State.isDriveAway_iff (s : State) (o : Order) : s.isDriveAway o = true ↔ ∃ st ∈ o.steps, Running st ∨ st.state = .settling
    ∨ (st.state = .suspended ∧ (s.hoses.get st.hose).coupled = true) := by
  simp only [State.isDriveAway, List.any_eq_true, Bool.or_eq_true, Bool.and_eq_true, decide_eq_true_iff, Step.isRunning_iff,
    or_assoc]

theorem State.settleAll_endIfDone (s : State) : (s.drain.endIfDone i).settleAll = (s.drain.endIfDone i).alignOutputs :=
  State.settleAll_of_nil ((State.endIfDone_ends _ _).trans (State.takeEnds_ends 64 s))

theorem State.departure_drivesAway {o : Order} (ho : s.orders.get i = some o) (h : s.isDriveAway o = true) :
    (s.departure i).settleAll = (((((s.report (.driveAway i)).modOrder i (Order.toEnding .driveAway)).closeSteps i
      fun _ => .driveAway).drain.endIfDone i).alignOutputs) := by
  rw [State.departure, ho]
  dsimp only
  rw [if_pos h]
  exact State.settleAll_endIfDone _

theorem State.departure_abandons {o : Order} (ho : s.orders.get i = some o) (h : ¬ s.isDriveAway o = true) :
    (s.departure i).settleAll = ((((s.modOrder i (Order.toEnding .abandoned)).closeSteps i
      fun _ => .cancelled).drain.endIfDone i).alignOutputs) := by
  rw [State.departure, ho]
  dsimp only
  rw [if_neg h]
  exact State.settleAll_endIfDone _

/-- The leaving of a machine as the statements say it (R43). -/
theorem exec_leaves (hS : Steady s) (hl : (s.islands.get i).level = true) (hp : (s.islands.get i).presence = .present) :
    ∃ t, exec (.detectorNegated i) s = .next t ∧ OutputsFollow s t
      ∧ t = { s with
          pins := detectorPins s i false, islands := islandPut s i false .leaving (some (s.cfg.islands.get i).leaving)
          hoses := t.hoses, orders := t.orders, shut := t.shut }
      ∧ OrdersTook s t (· ∈ s.islandHoses i) leftStep (fun _ o => o)
      ∧ ∀ h, (RunsAt s (· ∈ s.islandHoses i) h → t.hoses.get h = suspendedChannel (s.hoses.get h))
          ∧ (¬ RunsAt s (· ∈ s.islandHoses i) h → t.hoses.get h = s.hoses.get h) := by
  generalize hu : ({ s with
      pins := detectorPins s i false
      islands := islandPut s i false .leaving (some (s.cfg.islands.get i).leaving) } : State) = u
  have hoff : State.detectorOff { s with pins := detectorPins s i false } i = (s.islandHoses i).foldl State.leavingAt u := by
    rw [← hu]; exact State.detectorOff_present hp
  have h := State.leavingAt_suspends.foldl u (s.islandHoses i)
  rw [exec_detectorNegated hS.1 hl, hoff]
  generalize (s.islandHoses i).foldl State.leavingAt u = v at h
  have honly := h.only
  rw [← hu] at honly
  have hends : v.ends = [] := by rw [honly]; exact hS.2
  have horders := h.ordersTook
  have hhoses := h.hoses
  refine ⟨_, rfl, State.follow_settleAll hends (by rw [honly]), ?_, ?_, ?_⟩
  · rw [State.settleAll_eq hends]
    generalize v.settleAll.shut = sh
    rw [honly]
  · rw [State.settleAll_eq hends]
    subst hu
    exact horders
  · rw [State.settleAll_eq hends]
    subst hu
    intro x
    obtain ⟨k, h₁, h₂, h₃, h₄⟩ := hhoses x
    have hx : v.hoses.get x = k := by
      by_cases hp : PausesAt { s with
          pins := detectorPins s i false
          islands := islandPut s i false .leaving (some (s.cfg.islands.get i).leaving) } (s.islandHoses i) x
      · exact h₃ hp
      · exact h₄ hp
    exact ⟨fun hr => hx.trans (h₁ hr), fun hr => hx.trans (h₂ hr)⟩

end

/-! ## The parts of the statement -/

section
variable {s b : State} {i : IslandNo}

/-- The island's record unchanged. -/
theorem islandPut_self : islandPut s i (s.islands.get i).level (s.islands.get i).presence (s.islands.get i).timer = s.islands :=
  Table.put_self_eq rfl

/-- With no step at the island's hoses its leaving changes the island alone. -/
theorem State.detectorOff_idle (hp : (s.islands.get i).presence = .present)
    (hi : ∀ h, (s.cfg.hoses.get h).island = i → (s.hoses.get h).step = none) :
    s.detectorOff i = { s with islands := islandPut s i false .leaving (some (s.cfg.islands.get i).leaving) } := by
  rw [State.detectorOff_present hp]
  exact foldl_same _ _ _ fun a ha => State.leavingAt_idle (State.hoseStep_of_idle (hi a (State.mem_islandHoses.mp ha)))

/-- An order unit that has no order at the island, and hoses without a step, leave an entry to PRESENT as it is. -/
theorem State.arrived_none (he : s.ends = []) (hi : ∀ h, (s.cfg.hoses.get h).island = i → (s.hoses.get h).step = none)
    (ho : s.orders.get i = none) : s.arrived i = s := by
  rw [State.arrived_idle he hi, State.nextGroup_none ho]

/-- With no order and no step the machine comes back, and that is all. -/
theorem arrives_idle {c : Instr} (hS : Steady s) (h : Arrives s i c b)
    (hi : ∀ h, (s.cfg.hoses.get h).island = i → (s.hoses.get h).step = none) (ho : s.orders.get i = none) :
    ∃ t, exec c s = .next t ∧ OutputsFollow s t
      ∧ t = { s with pins := b.pins, islands := b.islands, shut := t.shut } := by
  obtain ⟨hb, -, hexec⟩ := Arrives.gives hS.1 h
  rw [hb] at hexec
  rw [State.arrived_none (by exact hS.2) (by exact hi) (by exact ho)] at hexec
  exact exec_islands hS hexec

/-- The machine comes back and the group that is due starts, or the order is held at its gap (R9, R10). -/
theorem arrives_due {c : Instr} {o : Order} {n : Nat} {w : Step} (hS : Steady s) (h : Arrives s i c b)
    (hi : ∀ h, (s.cfg.hoses.get h).island = i → (s.hoses.get h).step = none) (ho : s.orders.get i = some o)
    (ha : o.state = .active) (hn : NextAt o n w) :
    (w.holdBefore = true → o.gapTaken ≠ some (groupOf o.steps n) → ∃ t, exec c s = .next t ∧ OutputsFollow s t
      ∧ t = { b with
          orders := putOrder s i { o with state := .held, hold := some .gap, gapTaken := some (groupOf o.steps n) }
          ports := raised s [noticeAt .orderHeld i], shut := t.shut })
    ∧ ((w.holdBefore = false ∨ o.gapTaken = some (groupOf o.steps n)) → GroupFree s i o (groupOf o.steps n) →
      ∃ t, exec c s = .next t ∧ OutputsFollow s t ∧ GroupStarted b t i o (groupOf o.steps n)
        ∧ t = { b with orders := t.orders, hoses := t.hoses, shut := t.shut }) := by
  obtain ⟨hb, hp, hexec⟩ := Arrives.gives hS.1 h
  have hshut : b.shut = s.shut := by rw [hb]
  have hends : b.ends = [] := by rw [hb]; exact hS.2
  have horders : b.orders = s.orders := by rw [hb]
  have hhoses : b.hoses = s.hoses := by rw [hb]
  have hcfg : b.cfg = s.cfg := by rw [hb]
  have hports : b.ports = s.ports := by rw [hb]
  have ho' : b.orders.get i = some o := by rw [horders]; exact ho
  rw [State.arrived_idle hends (by rw [hhoses, hcfg]; exact hi)] at hexec
  refine ⟨fun hh hg => ?_, fun hg hf => ?_⟩
  · have hv := State.nextGroup_gap ho' hn ha hp hh hg
    have hput (p : Order) : putOrder b i p = putOrder s i p := by rw [putOrder, putOrder, horders]
    rw [hput, raised_congr _ hcfg hports] at hv
    generalize b.nextGroup i = v at hv hexec
    have hvends : v.ends = [] := by rw [hv]; exact hends
    refine ⟨_, hexec, State.follow_settleAll hvends (by rw [hv]; exact hshut), ?_⟩
    rw [State.settleAll_eq hvends]
    generalize v.settleAll.shut = sh
    rw [hv]
  · have hfree : GroupFree b i o (groupOf o.steps n) := by
      intro k st hst hgk
      obtain ⟨h₁, h₂, h₃⟩ := hf k st hst hgk
      exact ⟨by rw [hhoses]; exact h₁, fun e => h₂ ((Covered.congr hshut).mp e), h₃⟩
    obtain ⟨v, hv, hgs, he⟩ := State.nextGroup_free ho' hn ha hp hg hfree
    rw [hv] at hexec
    have hvends : v.ends = [] := by rw [he]; exact hends
    refine ⟨_, hexec, State.follow_settleAll hvends (by rw [he]; exact hshut), ?_, ?_⟩
    · rw [State.settleAll_eq hvends]
      exact hgs
    · rw [State.settleAll_eq hvends]
      generalize v.settleAll.shut = sh
      rw [he]

end

/-- Settles O45: the detector and the debounces by the equations of `State.detectorOn` and its like, leaving by
`State.leavingAt_suspends`, the return by `State.arrived_returns` and `State.arrived_claims`, departure by
`State.closed_orderClosed`. -/
theorem presenceFollowsTheDetector : Obligations.PresenceFollowsTheDetector := by
  refine ⟨fun i s hS => ?_, fun i s hS hl hp => ?_, fun i c s b hS hi harr => ?_, fun i o s hS hB hat hp ht ho => ?_⟩
  · intro k c pins idle becomes
    have hrun := hS.1
    have hpin (b : Bool) : (s.modPins fun p => { p with detectors := p.detectors.put i b }).running = true := hrun
    refine ⟨fun hl => ?_, fun hl => ?_, fun hl hp => ?_, fun hl hp => ?_, fun hl hp hi => ?_, fun hp ht hi ho => ?_,
      fun hl hp hi ho => ?_, fun hp ht ho => ?_, fun h => ?_, fun h => ?_⟩
    · rw [exec, execDetectorAsserted, State.whileRunning_of (hpin true)]
      exact congrArg _ (if_pos hl)
    · rw [exec, execDetectorNegated, State.whileRunning_of (hpin false)]
      refine congrArg _ (if_neg ?_)
      rw [State.modPins_islands]
      exact fun e => absurd (hl.symm.trans e) (by decide)
    · exact exec_islands hS (by rw [exec_detectorAsserted hrun hl, State.detectorOn_absent (by exact hp)])
    · exact exec_islands hS (by rw [exec_detectorNegated hrun hl, State.detectorOff_arriving (by exact hp)])
    · exact exec_islands hS (by rw [exec_detectorNegated hrun hl, State.detectorOff_idle (by exact hp) (by exact hi)])
    · exact arrives_idle hS (.inr ⟨rfl, hp, ht, rfl⟩) hi ho
    · exact arrives_idle hS (.inl ⟨rfl, hl, hp, rfl⟩) hi ho
    · refine exec_islands hS ?_
      rw [exec_leavingDebounceExpiry hrun, State.leavingExpiry_leaving hp ht, State.departure_none (by exact ho)]
    · refine exec_islands (p := s.pins) hS ?_
      rw [exec_arrivalDebounceExpiry hrun, State.arrivalExpiry_idle h]
      exact congrArg (fun x => Host.Outcome.next (State.settleAll { s with islands := x })) islandPut_self.symm
    · refine exec_islands (p := s.pins) hS ?_
      rw [exec_leavingDebounceExpiry hrun, State.leavingExpiry_idle h]
      exact congrArg (fun x => Host.Outcome.next (State.settleAll { s with islands := x })) islandPut_self.symm
  · intro its
    have hits : its = (· ∈ s.islandHoses i) := funext fun h => propext State.mem_islandHoses.symm
    rw [hits]
    exact exec_leaves hS hl hp
  · intro due goesOn
    obtain ⟨hb, hp, hexec⟩ := Arrives.gives hS.1 harr
    have hshut : b.shut = s.shut := by rw [hb]
    have hends : b.ends = [] := by rw [hb]; exact hS.2
    have hib : IslandAgrees b i := by rw [hb]; exact hi
    have hnot (h : goesOn) : NotDue b i := by rw [hb]; exact h
    have hclaims (h : HoseNo) (r : StepRef) (st : Step) : ClaimsAt b i h r st ↔ ClaimsAt s i h r st := by rw [hb]; rfl
    refine ⟨fun hno hgo => ?_, fun h r st amount limit hc hone h0 hw h1 hgo => ?_, fun o n w hidle ho hdue =>
      arrives_due hS harr hidle ho hdue.1 hdue.2⟩
    · have hr := State.arrived_returns hends hib hp (hnot hgo) fun h r st e => hno h r st ((hclaims h r st).mp e)
      obtain ⟨-, -, -, -, -, honly⟩ := id hr
      have hm : (b.arrived i).ends = [] := by rw [honly]; exact hends
      refine ⟨_, hexec, State.follow_settleAll hm ?_, b.arrived i, hr, State.settleAll_eq hm⟩
      rw [honly]
      exact hshut
    · obtain ⟨m, hm, -, htaken⟩ := State.arrived_claims hends hib hp (hnot hgo) ((hclaims h r st).mpr hc)
        (fun x q w e => hone x q w ((hclaims x q w).mp e)) h0 hw h1
      refine ⟨_, m, hexec, State.follow_settleAll_of_shut ?_, hm, htaken⟩
      rw [State.arrived, State.nextGroup_shut, State.drain_shut, foldl_keeps State.presentAt State.shut State.presentAt_shut]
      exact hshut
  · intro gone drivesAway
    have hiff : s.isDriveAway o = true ↔ drivesAway := State.isDriveAway_iff s o
    have hexec : exec (.leavingDebounceExpiry i) s = .next (gone.departure i).settleAll := by
      rw [exec_leavingDebounceExpiry hS.1, State.leavingExpiry_leaving hp ht]
      rfl
    refine ⟨fun hd => ⟨_, hexec, ?_⟩, fun hd => ⟨_, hexec, ?_⟩⟩
    · rw [State.departure_drivesAway (s := gone) ho (hiff.mpr hd)]
      exact State.closed_orderClosed (s := gone.report (.driveAway i)) hS.2 hB hat ho .driveAway .driveAway
    · rw [State.departure_abandons (s := gone) ho fun e => hd (hiff.mp e)]
      exact State.closed_orderClosed (s := gone) hS.2 hB hat ho .abandoned .cancelled

end Sys2Proof.Machine
end

section
/-! SUPPORT. What a trip does to the shutdown unit: the entry and its capture (R150, R153, R155). -/

namespace Sys2Proof.Machine

open Sys2Proof.Safety

/-! ## The capture is the first step in flight on the object (R153) -/

/-- One step comes before another by island and list order. -/
abbrev StepBefore (a b : StepRef × Step) : Prop :=
  a.1.island < b.1.island ∨ (a.1.island = b.1.island ∧ a.1.idx < b.1.idx)

theorem State.stepsOf_pairwise (s : State) (i : IslandNo) : (s.stepsOf i).Pairwise StepBefore := by
  cases ho : s.orders.get i with
  | none => simp [State.stepsOf, ho]
  | some o =>
    rw [State.stepsOf_eq ho, List.pairwise_map, List.pairwise_iff_getElem]
    intro a b ha hb hab
    refine .inr ⟨rfl, ?_⟩
    simpa using hab

theorem State.allSteps_pairwise (s : State) : s.allSteps.Pairwise StepBefore := by
  rw [State.allSteps, List.pairwise_flatMap]
  refine ⟨fun i _ => s.stepsOf_pairwise i, ?_⟩
  refine (List.pairwise_lt_finRange 4).imp fun {i j} hij => ?_
  rintro ⟨q, v⟩ hq ⟨r, w⟩ hr
  obtain ⟨rfl, -⟩ := State.mem_stepsOf.mp hq
  obtain ⟨rfl, -⟩ := State.mem_stepsOf.mp hr
  exact .inl hij

theorem State.captured (s : State) (o : Scope) : Captured s o (s.capture o) := by
  have hp (q : StepRef) (w : Step) : (w.isStarted && coversStep o q w) = true ↔ InFlight w ∧ OnObject o q w := by
    rw [Bool.and_eq_true, Step.isStarted_iff, coversStep_iff]
  unfold State.capture
  cases hf : s.allSteps.find? fun p => p.2.isStarted && coversStep o p.1 p.2 with
  | none =>
    have hnone := List.find?_eq_none.mp hf
    refine ⟨⟨fun _ => ?_, fun _ => rfl⟩, nofun⟩
    rintro ⟨q, w, hq, hw, hon⟩
    exact hnone (q, w) (State.mem_allSteps.mpr hq) ((hp q w).mpr ⟨hw, hon⟩)
  | some x =>
    obtain ⟨r, st⟩ := x
    obtain ⟨hcond, l, m, hl, hbefore⟩ := List.find?_eq_some_iff_append.mp hf
    obtain ⟨hfl, hon⟩ := (hp r st).mp hcond
    obtain ⟨ord, ho, hst⟩ := State.mem_allSteps.mp (List.mem_of_find?_eq_some hf)
    have hcap : captureOf s (r, st)
        = some { island := r.island, machine := ord.machine, index := r.idx + 1, hose := st.hose } := by
      rw [captureOf, ho]; rfl
    rw [Option.bind_some, hcap]
    refine ⟨⟨nofun, fun hno => absurd ⟨r, st, ⟨ord, ho, hst⟩, hfl, hon⟩ hno⟩, fun x hx => ?_⟩
    cases hx
    refine ⟨r, st, ord, ho, hst, hfl, hon, rfl, fun q w hq hw hqon => ?_⟩
    have hmem := State.mem_allSteps.mpr hq
    rw [hl] at hmem
    rcases List.mem_append.mp hmem with hmem | hmem
    · have := hbefore _ hmem
      rw [(hp q w).mpr ⟨hw, hqon⟩] at this
      cases this
    · rcases List.mem_cons.mp hmem with e | hmem
      · cases e; exact .inr ⟨rfl, Nat.le_refl _⟩
      · have hsorted := s.allSteps_pairwise
        rw [hl, List.pairwise_append] at hsorted
        obtain ⟨-, hsorted, -⟩ := hsorted
        rcases (List.pairwise_cons.mp hsorted).1 _ hmem with h | ⟨h₁, h₂⟩
        · exact .inl h
        · exact .inr ⟨h₁, Nat.le_of_lt h₂⟩

/-! ## The trip orders -/

@[simp] theorem State.tripOrders_shut (s : State) (o : Scope) : (s.tripOrders o).shut = s.shut := by
  cases o with
  | bay => exact foldl_keeps State.tripOrder State.shut (fun _ _ => rfl) _ s
  | island i => rfl
  | tank _ => rfl
  | hose _ => rfl

/-- The trip orders change the orders alone (R23). -/
theorem State.tripOrders_eq (s : State) (o : Scope) : s.tripOrders o = { s with orders := (s.tripOrders o).orders }
    ∧ ∀ j, (s.tripOrders o).orders.get j = (s.orders.get j).map (trippedOrder o j) := by
  have hone (t : State) (i j : IslandNo) : (t.tripOrder i).orders.get j
      = if j = i then (t.orders.get j).map (trippedOrder (.island i) i) else t.orders.get j := by
    have hf : (fun o : Order => if o.state = .ending then o else o.toEnding .shutdown) = trippedOrder (.island i) i := by
      funext p
      rw [trippedOrder]
      by_cases he : p.state = .ending
      · rw [if_pos he, if_neg fun h => h.2 he]
      · rw [if_neg he, if_pos ⟨.inr rfl, he⟩]
        rfl
    rw [State.tripOrder, hf]
    exact (Table.modify_get ..).trans (ite_congr rfl (fun h => by rw [h]) fun _ => rfl)
  have hself {i : IslandNo} (hb : o ≠ .bay) (hi : o ≠ .island i) (p : Option Order) : p.map (trippedOrder o i) = p := by
    cases p with
    | none => rfl
    | some p => exact congrArg some (if_neg fun h => h.1.elim hb hi)
  cases o with
  | bay =>
    have hbay (i : IslandNo) : trippedOrder (.island i) i = trippedOrder .bay i := by
      funext p; simp [trippedOrder]
    have hidem (i : IslandNo) (p : Order) : trippedOrder .bay i (trippedOrder .bay i p) = trippedOrder .bay i p := by
      have : (trippedOrder .bay i p).state = .ending := by
        rw [trippedOrder]
        split
        · rfl
        · next h => exact not_not.mp fun e => h ⟨.inl rfl, e⟩
      exact if_neg fun h => h.2 this
    have key := foldl_taken State.tripOrder (fun l t => t = { s with orders := t.orders }
      ∧ ∀ j, t.orders.get j = if j ∈ l then (s.orders.get j).map (trippedOrder .bay j) else s.orders.get j)
      (b := s) ⟨rfl, fun j => by simp⟩ (fun l a t ⟨ht, ho⟩ => by
        refine ⟨by rw [ht]; rfl, fun j => ?_⟩
        rw [hone, hbay]
        by_cases hj : j = a
        · subst hj
          rw [if_pos rfl, if_pos (by simp), ho]
          split
          · rw [Option.map_map]
            exact congrArg (Option.map · (s.orders.get j)) (funext (hidem j))
          · rfl
        · rw [if_neg hj, ho]
          exact if_congr (by simp [hj]) rfl rfl) allIslands
    refine ⟨key.1, fun j => (key.2 j).trans (if_pos (List.mem_finRange j))⟩
  | island i =>
    refine ⟨rfl, fun j => (hone s i j).trans ?_⟩
    split
    · next h => rw [h]
    · next h => exact (hself nofun (fun e => h (by cases e; rfl)) _).symm
  | tank k =>
    have hsame : s.tripOrders (.tank k) = s := rfl
    rw [hsame]
    exact ⟨rfl, fun j => (hself (by nofun) (by nofun) _).symm⟩
  | hose h =>
    have hsame : s.tripOrders (.hose h) = s := rfl
    rw [hsame]
    exact ⟨rfl, fun j => (hself (by nofun) (by nofun) _).symm⟩

end Sys2Proof.Machine
end

section
/-! SUPPORT. The steps that a trip reaches (R48, R154). -/

namespace Sys2Proof.Machine

open Sys2Proof.Safety

/-! ## One step -/

/-- A RUNNING, SUSPENDED or SETTLING step that a trip reaches. -/
def tripTook (c : Cause) (st : Step) : Step :=
  if Running st ∨ st.state = .suspended then settledBy .shutdown (some c) st
  else if st.state = .settling then { st with cause := st.cause.orElse fun _ => some c }
  else st

/-- A step that a trip reaches, when its end report, if it gives one, has been taken. -/
def trippedEnd (c : Cause) (st : Step) : Step :=
  if st.state = .waitingCouple then endedWaitingStep .shutdown (some c) st else tripTook c st

theorem State.tripStep_closes (c : Cause) : Closes (fun t p => t.tripStep p.1 p.2 c) .shutdown (some c) (tripTook c) where
  waits t r st h := if_pos h
  settles t r st h hr := by
    have hw : st.state ≠ .waitingCouple := by rcases hr with (hr | hr) | hr <;> simp [hr]
    have hg : (st.isRunning || decide (st.state = .suspended)) = true := by
      rcases hr with hr | hr
      · simp [(Step.isRunning_iff st).mpr hr]
      · simp [hr]
    simp only [State.tripStep, if_neg hw, if_pos hg]
    rw [State.settle_eq h, runOnOf_settled hr, tripTook, if_pos hr]
  stays t r st h hs := by
    have h₁ : st.state ≠ .waitingCouple := by simp [hs]
    have h₂ : ¬ (st.isRunning || decide (st.state = .suspended)) = true := by simp [Step.isRunning, hs]
    have h₃ : ¬ (Running st ∨ st.state = .suspended) := by simp [Running, hs]
    simp only [State.tripStep, if_neg h₁, if_neg h₂, if_pos hs]
    rw [State.modStep_eq h, tripTook, if_neg h₃, if_pos hs]
  took_waiting st h := by
    have h₃ : ¬ (Running st ∨ st.state = .suspended) := by simp [Running, h]
    rw [tripTook, if_neg h₃, if_neg (by simp [h])]

theorem tripTook_of_not_inFlight {st : Step} (h : ¬ InFlight st) (c : Cause) : tripTook c st = st := by
  have h₁ : ¬ (Running st ∨ st.state = .suspended) := by
    rintro ((e | e) | e) <;> exact h (by simp [InFlight, e])
  rw [tripTook, if_neg h₁, if_neg fun e => h (by simp [InFlight, e])]

theorem tripTook_waiting {st : Step} (h : st.state = .waitingCouple) (c : Cause) : tripTook c st = st :=
  (State.tripStep_closes c).took_waiting st h

theorem orElse_eq_getD {α : Type} (x : Option α) (y : α) : (x.orElse fun _ => some y) = some (x.getD y) := by
  cases x <;> rfl

theorem trippedStep_iff (c : Cause) (st w : Step) : TrippedStep c st w ↔ w = trippedEnd c st := by
  unfold TrippedStep trippedEnd
  by_cases hw : st.state = .waitingCouple
  · rw [if_pos hw, if_pos hw]
    exact endedWaiting_iff
  · rw [if_neg hw, if_neg hw, tripTook]
    by_cases hr : Running st ∨ st.state = .suspended
    · rw [if_pos hr, if_pos hr, closedStep_eq_settled hr, settledBy_eq, settledBy_eq]
      have hcause : settledCause st (some c) = if st.endStatus = none then some c else some (st.cause.getD c) := by
        unfold settledCause
        cases he : st.endStatus with
        | none => rw [if_pos rfl]; rfl
        | some e => rw [if_neg nofun]; exact orElse_eq_getD _ _
      rw [hcause]
    · rw [if_neg hr, if_neg hr]
      by_cases hs : st.state = .settling
      · rw [if_pos hs, if_pos hs, orElse_eq_getD]
      · rw [if_neg hs, if_neg hs]

/-- What a step that a trip reaches still is. -/
theorem tripTook_inFlight {st : Step} (h : InFlight st) (c : Cause) : InFlight (tripTook c st) := by
  unfold tripTook
  split
  · rw [settledBy_eq]; simp [InFlight]
  · split
    · exact h
    · exact h

theorem tripTook_pending {st : Step} {c : Cause} (h : (tripTook c st).state = .pending) : st.state = .pending := by
  by_cases hf : InFlight st
  · exact absurd h (tripTook_inFlight hf c).1
  · rwa [tripTook_of_not_inFlight hf] at h

theorem tripTook_live {st : Step} (h₁ : st.state ≠ .ended) (h₂ : st.state ≠ .notRun) (c : Cause) :
    (tripTook c st).state ≠ .ended ∧ (tripTook c st).state ≠ .notRun := by
  by_cases hf : InFlight st
  · exact (tripTook_inFlight hf c).2
  · rw [tripTook_of_not_inFlight hf]; exact ⟨h₁, h₂⟩

theorem tripTook_isParallel (c : Cause) (st : Step) : (tripTook c st).isParallel = st.isParallel := by
  unfold tripTook
  split
  · rw [settledBy_eq]
  · split <;> rfl

/-! ## The channels take the trip one after another (R155) -/

/-- The step in flight on an object at a hose. -/
def closerAt (s : State) (o : Scope) (h : HoseNo) : Option (StepRef × Step) :=
  (s.hoseStep h).filter fun p => decide (OnObject o p.1 p.2 ∧ InFlight p.2)

/-- The steps in flight on an object at some hoses. -/
def closers (s : State) (o : Scope) (p : List HoseNo) : List (StepRef × Step) := p.filterMap (closerAt s o)

section
variable {s t : State} {o : Scope} {c : Cause} {p : List HoseNo} {a : HoseNo} {q : StepRef} {v : Step}

theorem closerAt_eq_some : closerAt s o a = some (q, v) ↔ s.hoseStep a = some (q, v) ∧ OnObject o q v ∧ InFlight v := by
  rw [closerAt, Option.filter_eq_some_iff, decide_eq_true_iff]

theorem mem_closers : (q, v) ∈ closers s o p ↔ ∃ a ∈ p, s.hoseStep a = some (q, v) ∧ OnObject o q v ∧ InFlight v := by
  rw [closers, List.mem_filterMap]
  exact exists_congr fun a => and_congr_right fun _ => closerAt_eq_some

theorem closers_append_of (h : closerAt s o a = none) : closers s o (p ++ [a]) = closers s o p := by
  rw [closers, List.filterMap_append, List.filterMap_cons_none h, List.filterMap_nil, List.append_nil]
  rfl

theorem closers_append (h : closerAt s o a = some (q, v)) : closers s o (p ++ [a]) = closers s o p ++ [(q, v)] := by
  rw [closers, List.filterMap_append, List.filterMap_cons_some h]
  rfl

/-- Each hose that holds a step on the object holds its own (R29). -/
def HoldsItsOwn (s : State) (o : Scope) : Prop :=
  ∀ h q st, (s.hoses.get h).step = some q → HasStep s q st → OnObject o q st → st.hose = h

/-- A step that lies on the object and is not in flight is as it was. -/
theorem State.tripHoseAt_stays (h : ∀ q v, t.hoseStep a = some (q, v) → OnObject o q v → ¬ InFlight v) :
    t.tripHoseAt o c a = t := by
  rw [State.tripHoseAt]
  cases hs : t.hoseStep a with
  | none => rfl
  | some x =>
    obtain ⟨q, v⟩ := x
    dsimp only
    by_cases hon : OnObject o q v
    · have hf := h q v hs hon
      have h₁ : v.state ≠ .waitingCouple := fun e => hf (by simp [InFlight, e])
      have h₂ : ¬ (v.isRunning || decide (v.state = .suspended)) = true := by
        rw [Bool.or_eq_true, Step.isRunning_iff, decide_eq_true_iff]
        rintro ((e | e) | e) <;> exact hf (by simp [InFlight, e])
      have h₃ : v.state ≠ .settling := fun e => hf (by simp [InFlight, e])
      rw [if_pos ((coversStep_iff o q v).mpr hon), State.tripStep, if_neg h₁, if_neg h₂, if_neg h₃]
    · exact if_neg fun e => hon ((coversStep_iff o q v).mp e)

/-- The steps on an object are closed at their hoses (R48, R155). -/
theorem State.tripHoses_closed (hB : BooksLaw s) (hown : HoldsItsOwn s o) {L : List HoseNo} (hn : L.Nodup) :
    StepsClosed s (closers s o L) .shutdown (some c) (tripTook c) (L.foldl (State.tripHoseAt o c) s) := by
  refine foldl_parts (State.tripHoseAt o c) (fun p t => StepsClosed s (closers s o p) .shutdown (some c) (tripTook c) t)
    (StepsClosed.nil s _ _ _) fun p a l t hl ht => ?_
  have hna : a ∉ p := by
    have := notMem_of_nodup_part (f := id) (p := p) (a := a) (q := l) (by rw [List.map_id, ← hl]; exact hn)
    rwa [List.map_id] at this
  have hhose : ∀ q v, (q, v) ∈ closers s o p → v.hose ≠ a := by
    intro q v hm
    obtain ⟨x, hx, hs, hon, -⟩ := mem_closers.mp hm
    obtain ⟨hq, hv⟩ := State.hoseStep_eq_some.mp hs
    rw [hown x q v hq hv hon]
    exact fun e => hna (e ▸ hx)
  have hnew : ∀ q v, s.hoseStep a = some (q, v) → q ∉ (closers s o p).map (·.1) := by
    intro q v hs hm
    obtain ⟨⟨q', w⟩, hmem, rfl⟩ := List.mem_map.mp hm
    obtain ⟨x, -, hx, hon, -⟩ := mem_closers.mp hmem
    obtain ⟨hq, hv⟩ := State.hoseStep_eq_some.mp hs
    cases HasStep.unique (State.hoseStep_eq_some.mp hx).2 hv
    exact hhose _ _ hmem (hown a _ _ hq hv hon)
  have hstep : t.hoseStep a = s.hoseStep a := ht.taken.hoseStep hhose hnew
  cases hc : closerAt s o a with
  | none =>
    rw [closers_append_of hc, State.tripHoseAt_stays fun q v hq hon hf => ?_]
    · exact ht
    · rw [closerAt_eq_some.mpr ⟨hstep ▸ hq, hon, hf⟩] at hc
      cases hc
  | some x =>
    obtain ⟨q, v⟩ := x
    obtain ⟨hs, hon, hf⟩ := closerAt_eq_some.mp hc
    obtain ⟨hq, hv⟩ := State.hoseStep_eq_some.mp hs
    have hact : t.tripHoseAt o c a = t.tripStep q v c := by
      rw [State.tripHoseAt, hstep, hs]
      exact if_pos ((coversStep_iff o q v).mpr hon)
    have hva := hown a q v hq hv hon
    rw [closers_append hc, hact]
    exact ht.append (State.tripStep_closes c) hB (hnew q v hs) hv hf fun r w hm => by rw [hva]; exact hhose r w hm

/-! ## Before and after the trip orders -/

theorem trippedOrder_getElem? {i : IslandNo} {ord : Order} {k : Nat} {st : Step} (hf : InFlight st) :
    (trippedOrder o i ord).steps[k]? = some st ↔ ord.steps[k]? = some st := by
  unfold trippedOrder
  split
  · exact endingOrder_getElem? hf
  · rfl

/-- A step in flight is not changed by the trip orders. -/
theorem hasStep_tripOrders (ht : ∀ j, t.orders.get j = (s.orders.get j).map (trippedOrder o j)) (hf : InFlight v) :
    HasStep t q v ↔ HasStep s q v := by
  unfold HasStep
  rw [ht]
  cases s.orders.get q.island with
  | none => simp
  | some ord => simp [trippedOrder_getElem? hf]

/-- The trip orders leave a step's hose and its context. -/
theorem hasStep_of_tripOrders (ht : ∀ j, t.orders.get j = (s.orders.get j).map (trippedOrder o j)) (h : HasStep t q v) :
    ∃ w, HasStep s q w ∧ w.hose = v.hose ∧ w.ctx = v.ctx := by
  obtain ⟨p, hp, hv⟩ := h
  rw [ht] at hp
  obtain ⟨ord, ho, rfl⟩ := Option.map_eq_some_iff.mp hp
  unfold trippedOrder at hv
  split at hv
  · rw [endingOrder, List.getElem?_map] at hv
    obtain ⟨w, hw, rfl⟩ := Option.map_eq_some_iff.mp hv
    refine ⟨w, ⟨ord, ho, hw⟩, ?_⟩
    split <;> exact ⟨rfl, rfl⟩
  · exact ⟨v, ⟨ord, ho, hv⟩, rfl, rfl⟩

theorem closers_tripOrders (ht : ∀ j, t.orders.get j = (s.orders.get j).map (trippedOrder o j)) (hh : t.hoses = s.hoses)
    (p : List HoseNo) : closers t o p = closers s o p := by
  have hat : closerAt t o = closerAt s o := by
    funext a
    refine Option.ext fun x => ?_
    obtain ⟨q, v⟩ := x
    rw [closerAt_eq_some, closerAt_eq_some, State.hoseStep_eq_some, State.hoseStep_eq_some, hh]
    constructor
    · rintro ⟨⟨hq, hv⟩, hon, hf⟩
      exact ⟨⟨hq, (hasStep_tripOrders ht hf).mp hv⟩, hon, hf⟩
    · rintro ⟨⟨hq, hv⟩, hon, hf⟩
      exact ⟨⟨hq, (hasStep_tripOrders ht hf).mpr hv⟩, hon, hf⟩
  rw [closers, hat, closers]

/-- The closed steps are the ones in flight among those that the statements list. -/
theorem closers_eq_filter : closers s o allHoses = (stepsOn s o).filter fun p => decide (InFlight p.2) := by
  rw [stepsOn, List.filter_filterMap, closers]
  refine List.filterMap_congr fun a _ => ?_
  refine Option.ext fun x => ?_
  obtain ⟨q, v⟩ := x
  rw [closerAt_eq_some, Option.filter_eq_some_iff, Option.filter_eq_some_iff, decide_eq_true_iff, decide_eq_true_iff, and_assoc]

theorem closers_filter (P : Step → Bool) (hP : ∀ st, P st = true → InFlight st) :
    (closers s o allHoses).filter (fun p => P p.2) = (stepsOn s o).filter fun p => P p.2 := by
  rw [closers_eq_filter, List.filter_filter]
  refine List.filter_congr fun x _ => ?_
  cases hp : P x.2 with
  | false => rfl
  | true => rw [decide_eq_true (hP _ hp)]; rfl

theorem closers_nodup (hown : HoldsItsOwn s o) {L : List HoseNo} (hn : L.Nodup) : ((closers s o L).map (·.1)).Nodup := by
  induction L with
  | nil => exact List.nodup_nil
  | cons a L ih =>
    obtain ⟨ha, hn⟩ := List.nodup_cons.mp hn
    cases hc : closerAt s o a with
    | none =>
      rw [closers, List.filterMap_cons_none hc]
      exact ih hn
    | some x =>
      obtain ⟨q, v⟩ := x
      obtain ⟨hs, hon, -⟩ := closerAt_eq_some.mp hc
      obtain ⟨hq, hv⟩ := State.hoseStep_eq_some.mp hs
      rw [closers, List.filterMap_cons_some hc, List.map_cons, List.nodup_cons]
      refine ⟨fun hm => ?_, ih hn⟩
      obtain ⟨⟨q', w⟩, hmem, rfl⟩ := List.mem_map.mp hm
      obtain ⟨b, hb, hsb, -, -⟩ := mem_closers.mp hmem
      obtain ⟨hqb, hw⟩ := State.hoseStep_eq_some.mp hsb
      cases HasStep.unique hw hv
      exact ha ((hown a _ _ hq hv hon).symm.trans (hown b _ _ hqb hw hon) ▸ hb)

/-- The steps in flight on an object, when each stands at its own hose (R29). -/
theorem mem_closers_all (hat : ∀ q st, HasStep s q st → InFlight st → OnObject o q st → StepOfHose s st.hose q st) :
    (q, v) ∈ closers s o allHoses ↔ HasStep s q v ∧ OnObject o q v ∧ InFlight v := by
  rw [mem_closers]
  constructor
  · rintro ⟨a, -, hs, hon, hf⟩
    exact ⟨(State.hoseStep_eq_some.mp hs).2, hon, hf⟩
  · rintro ⟨hv, hon, hf⟩
    obtain ⟨hq, -, -⟩ := hat q v hv hf hon
    exact ⟨v.hose, mem_allHoses _, State.hoseStep_eq_some.mpr ⟨hq, hv⟩, hon, hf⟩

end

end Sys2Proof.Machine
end

section
/-! SUPPORT. What a trip comes to: the entry, the steps it closes, and the reports of those that end at once (R155). -/

namespace Sys2Proof.Machine

open Sys2Proof.Safety

@[simp] theorem State.tripHoseAt_shut (o : Scope) (c : Cause) (s : State) (h : HoseNo) :
    (s.tripHoseAt o c h).shut = s.shut := by
  unfold State.tripHoseAt
  split
  · rfl
  · split
    · unfold State.tripStep
      split
      · simp
      · split
        · simp
        · split <;> simp
    · rfl

/-- The state when a trip's steps have been closed, the outputs are in line and TRIP is raised (R155). -/
def State.tripClosed (s : State) (r : Report) : State :=
  State.raiseKind (State.alignOutputs (allHoses.foldl (State.tripHoseAt (reportObject r) (reportCause r))
    ((s.setEntry (reportObject r) (some (newEntry s r))).tripOrders (reportObject r)))) .trip

theorem State.trip_eq (s : State) (r : Report) : s.trip r = (s.tripClosed r).drain.endDone.alignOutputs := rfl

@[simp] theorem State.endDone_shut (s : State) : s.endDone.shut = s.shut :=
  foldl_keeps State.endIfDone State.shut State.endIfDone_shut _ s

/-- The map after a trip holds the new entry, and the other parts of the unit's record are as they were (R153, R155). -/
theorem State.tripClosed_shut (s : State) (r : Report) : ∃ relay pumps, (s.tripClosed r).shut = { s.shut with
    map := s.shut.map.put (reportObject r).code (some (newEntry s r)), relay := relay, pumps := pumps } := by
  have hfold : (allHoses.foldl (State.tripHoseAt (reportObject r) (reportCause r))
      ((s.setEntry (reportObject r) (some (newEntry s r))).tripOrders (reportObject r))).shut
      = { s.shut with map := s.shut.map.put (reportObject r).code (some (newEntry s r)) } := by
    rw [foldl_keeps (State.tripHoseAt (reportObject r) (reportCause r)) State.shut (fun b a => State.tripHoseAt_shut _ _ b a),
      State.tripOrders_shut]
    rfl
  rw [State.tripClosed, State.raiseKind_shut]
  generalize allHoses.foldl (State.tripHoseAt (reportObject r) (reportCause r))
      ((s.setEntry (reportObject r) (some (newEntry s r))).tripOrders (reportObject r)) = v at hfold
  refine ⟨v.alignOutputs.shut.relay, v.alignOutputs.shut.pumps, ?_⟩
  have : v.alignOutputs.shut = { v.shut with relay := v.alignOutputs.shut.relay, pumps := v.alignOutputs.shut.pumps } := rfl
  rw [this, hfold]

/-- The codes of the scope objects are their places in the list of them. -/
theorem Scope.codes_code (x : Scope) : Scope.codes[x.code.val]? = some x := by
  cases x with
  | bay => rfl
  | island i => revert i; decide
  | tank k => revert k; decide
  | hose h => revert h; decide

theorem Scope.code_injective : Function.Injective Scope.code := by
  intro x y h
  have hx := Scope.codes_code x
  rw [h, Scope.codes_code y] at hx
  exact (Option.some.inj hx).symm

section
variable {s : State} {r : Report}

/-- What is certain of a trip, whatever state it finds (R150, R153, R155). -/
theorem State.trip_map (s : State) (r : Report) : ∃ relay pumps, (s.trip r).shut = { s.shut with
    map := s.shut.map.put (reportObject r).code (some (newEntry s r)), relay := relay, pumps := pumps } := by
  obtain ⟨relay, pumps, h⟩ := s.tripClosed_shut r
  refine ⟨(s.trip r).shut.relay, (s.trip r).shut.pumps, ?_⟩
  rw [State.trip_eq]
  have hv : ((s.tripClosed r).drain.endDone).shut = (s.tripClosed r).shut := by rw [State.endDone_shut, State.drain_shut]
  generalize (s.tripClosed r).drain.endDone = v at hv
  have : v.alignOutputs.shut = { v.shut with relay := v.alignOutputs.shut.relay, pumps := v.alignOutputs.shut.pumps } := rfl
  rw [this, hv, h]

theorem State.trip_entry (s : State) (r : Report) : (s.trip r).entryAt (reportObject r) = some (newEntry s r) := by
  obtain ⟨relay, pumps, h⟩ := s.trip_map r
  rw [State.entryAt, h]
  exact Table.put_self ..

theorem State.trip_others (s : State) (r : Report) {x : Scope} (hx : x ≠ reportObject r) :
    (s.trip r).entryAt x = s.entryAt x := by
  obtain ⟨relay, pumps, h⟩ := s.trip_map r
  rw [State.entryAt, h]
  exact Table.put_of_ne _ _ fun e => hx (Scope.code_injective e)

theorem State.trip_outputs (s : State) (r : Report) :
    OutputsFollow { s with shut := { s.shut with map := (s.trip r).shut.map } } (s.trip r) := by
  obtain ⟨relay, pumps, h⟩ := s.trip_map r
  have hmap : (s.trip r).shut.map = s.shut.map.put (reportObject r).code (some (newEntry s r)) := by rw [h]
  obtain ⟨relay', pumps', h'⟩ := s.tripClosed_shut r
  rw [hmap, State.trip_eq]
  refine State.alignOutputs_follow_of (sh := (s.tripClosed r).shut) (by rw [State.endDone_shut, State.drain_shut]) ?_
  rw [h']

end

end Sys2Proof.Machine
end

section
/-! SUPPORT. The steps, tanks and notices of a trip whose object's steps stand at their hoses (R47, R48, R91, R155). -/

namespace Sys2Proof.Machine

open Sys2Proof.Safety

/-- An order whose steps on the object have been changed by a function. -/
def tripSteps (o : Scope) (f : Step → Step) (j : IslandNo) (ord : Order) : Order :=
  { trippedOrder o j ord with
    steps := (trippedOrder o j ord).steps.mapIdx fun k st => if OnObject o ⟨j, k⟩ st then f st else st }

/-- The state when a trip's steps have been closed and their end reports are on their way. -/
structure TripLeft (s : State) (o : Scope) (c : Cause) (y : State) : Prop where
  orders : ∀ j, y.orders.get j = (s.orders.get j).map (tripSteps o (tripTook c) j)
  taken : TripTaken s y o
  waiting : ∀ r st, (r, st) ∈ waitingOn s o ↔ HasStep s r st ∧ OnObject o r st ∧ st.state = .waitingCouple
  still : ∀ r st, (r, st) ∈ waitingOn s o → HasStep y r st
  nodup : ((waitingOn s o).map (·.1)).Nodup
  length : (waitingOn s o).length ≤ 64
  only : y = { s with
    orders := y.orders, hoses := y.hoses, tanks := y.tanks, shut := y.shut
    reports := s.reports ++ runOnsOf ((stepsOn s o).map (·.2)), ports := raised s [notice .trip]
    ends := (waitingOn s o).map fun p => endReport p.1 p.2 .shutdown (waitingFigures p.2) (some c) }

section
variable {s : State} {r : Report}

theorem runOnsOf_closers (s : State) (o : Scope) :
    runOnsOf ((closers s o allHoses).map (·.2)) = runOnsOf ((stepsOn s o).map (·.2)) := by
  unfold runOnsOf
  rw [List.filter_map, List.filter_map]
  refine congrArg (fun l : List (StepRef × Step) => (l.map (·.2)).map fun st => Report.runOn st.hose) ?_
  refine closers_filter (fun st => decide (st.state = .suspended) && runsOn st) fun st h => ?_
  rw [Bool.and_eq_true, decide_eq_true_iff] at h
  simp [InFlight, h.1]

theorem State.tripClosed_left (hends : s.ends = []) (hB : BooksLaw s) (hagree : HosesAgree s (reportObject r)) :
    TripLeft s (reportObject r) (reportCause r) (s.tripClosed r) := by
  generalize ho : reportObject r = o at hagree
  generalize hc : reportCause r = c
  obtain ⟨hat, hown⟩ := hagree
  -- the state in which the channels take the trip
  obtain ⟨he₂, horders₂⟩ := State.tripOrders_eq (s.setEntry o (some (newEntry s r))) o
  generalize hs₂ : (s.setEntry o (some (newEntry s r))).tripOrders o = s₂ at he₂ horders₂
  have horders₂' : ∀ j, s₂.orders.get j = (s.orders.get j).map (trippedOrder o j) := horders₂
  have hhoses₂ : s₂.hoses = s.hoses := by rw [he₂]; rfl
  have htanks₂ : s₂.tanks = s.tanks := by rw [he₂]; rfl
  have hends₂ : s₂.ends = [] := by rw [he₂]; exact hends
  have hown₂ : HoldsItsOwn s₂ o := by
    intro h q st hq hst hon
    obtain ⟨w, hw, hhose, hctx⟩ := hasStep_of_tripOrders horders₂' hst
    rw [← hhose]
    refine hown h q w (by rw [← hhoses₂]; exact hq) hw ?_
    rw [OnObject, hhose, hctx]
    exact hon
  have hclosed := State.tripHoses_closed (c := c) (by rw [he₂]; exact hB) hown₂ (List.nodup_finRange 16)
  have hcl : closers s₂ o allHoses = closers s o allHoses := closers_tripOrders horders₂' hhoses₂ allHoses
  have hall : List.finRange 16 = allHoses := rfl
  rw [hall, hcl] at hclosed
  have htrip : s.tripClosed r = ((allHoses.foldl (State.tripHoseAt o c) s₂).alignOutputs).raiseKind .trip := by
    rw [State.tripClosed, ho, hc, hs₂]
  generalize allHoses.foldl (State.tripHoseAt o c) s₂ = v at hclosed htrip
  generalize s.tripClosed r = y at htrip
  have honly := hclosed.only
  have hy : y = { s with
      orders := y.orders, hoses := y.hoses, tanks := y.tanks, shut := y.shut
      reports := s.reports ++ runOnsOf ((stepsOn s o).map (·.2)), ports := raised s [notice .trip]
      ends := waitingReports .shutdown (some c) (closers s o allHoses) } := by
    have hyv : y = { v with shut := y.shut, ports := raised v [notice .trip] } := by
      have hp : raised v.alignOutputs [notice .trip] = raised v [notice .trip] := raised_congr _ rfl rfl
      rw [htrip, State.raiseKind_eq, hp]
      rfl
    have hports : raised v [notice .trip] = raised s [notice .trip] := raised_congr _ (by rw [honly, he₂]; rfl)
      (by rw [honly, he₂]; rfl)
    rw [hports] at hyv
    generalize y.shut = sh at hyv
    rw [hends₂, List.nil_append] at honly
    rw [hyv, honly, he₂, ← runOnsOf_closers]
    rfl
  have hwaiting : waitingOn s o = (closers s o allHoses).filter fun p => isWaiting p.2 :=
    (closers_filter isWaiting fun st h => by simp [InFlight, of_decide_eq_true h]).symm
  have hmem {q : StepRef} {w : Step} : (q, w) ∈ closers s o allHoses ↔ HasStep s q w ∧ OnObject o q w ∧ InFlight w :=
    mem_closers_all hat
  have hwmem (q : StepRef) (w : Step) :
      (q, w) ∈ waitingOn s o ↔ HasStep s q w ∧ OnObject o q w ∧ w.state = .waitingCouple := by
    rw [hwaiting, List.mem_filter, decide_eq_true_iff, hmem]
    constructor
    · rintro ⟨⟨h₁, h₂, -⟩, h₃⟩
      exact ⟨h₁, h₂, h₃⟩
    · rintro ⟨h₁, h₂, h₃⟩
      exact ⟨⟨h₁, h₂, by simp [InFlight, h₃]⟩, h₃⟩
  have hyo : y.orders = v.orders := by rw [htrip, State.raiseKind_eq]; rfl
  have hyh : y.hoses = v.hoses := by rw [htrip, State.raiseKind_eq]; rfl
  have hyt : y.tanks = v.tanks := by rw [htrip, State.raiseKind_eq]; rfl
  have hnodup : ((waitingOn s o).map (·.1)).Nodup := by
    rw [hwaiting]
    exact (closers_nodup hown (List.nodup_finRange 16)).sublist ((List.filter_sublist).map _)
  refine ⟨fun j => ?_, ⟨fun q w hq hf hon => ?_, fun x hx => ?_, fun k => ?_⟩, hwmem, fun q w hq => ?_, hnodup, ?_, ?_⟩
  · rw [hyo, hclosed.taken.orders, mapSteps_get, horders₂', Option.map_map]
    cases hord : s.orders.get j with
    | none => rfl
    | some ord =>
      refine congrArg some (congrArg (fun l => { trippedOrder o j ord with steps := l }) (mapIdx_congr fun k st hst => ?_))
      by_cases hf : InFlight st
      · have hk : HasStep s ⟨j, k⟩ st := ⟨ord, hord, (trippedOrder_getElem? hf).mp hst⟩
        refine if_congr ?_ rfl rfl
        rw [List.mem_map]
        constructor
        · rintro ⟨⟨q, w⟩, hm, rfl⟩
          obtain ⟨hw, hon, -⟩ := hmem.mp hm
          rw [← HasStep.unique hw hk]
          exact hon
        · exact fun hon => ⟨_, hmem.mpr ⟨hk, hon, hf⟩, rfl⟩
      · rw [tripTook_of_not_inFlight hf, ite_self, ite_self]
  · rw [hyh, ← hhoses₂]
    exact hclosed.taken.hoses q w (hmem.mpr ⟨hq, hon, hf⟩)
  · rw [hyh, ← hhoses₂]
    refine hclosed.taken.others x fun q w hq => ?_
    obtain ⟨h₁, h₂, h₃⟩ := hmem.mp hq
    exact hx q w h₁ h₃ h₂
  · have hcfg : s₂.cfg = s.cfg := by rw [he₂]; rfl
    rw [hyt, hclosed.tanks, htanks₂, hcfg, hwaiting, ← List.filter_filter, List.filter_comm, List.filter_map,
      List.filter_map, List.filter_map]
    rfl
  · obtain ⟨h₁, h₂, h₃⟩ := (hwmem q w).mp hq
    have hf : InFlight w := by simp [InFlight, h₃]
    refine (HasStep.congr (by rw [hyo])).mpr ((hasStep_mapSteps hclosed.taken.orders).mpr
      ⟨w, (hasStep_tripOrders horders₂' hf).mpr h₁, ?_⟩)
    rw [tripTook_waiting h₃, ite_self]
  · have := length_le_of_hoses (t := s) hnodup fun q w hq => by
      obtain ⟨h₁, h₂, h₃⟩ := (hwmem q w).mp hq
      exact ⟨h₁, (hat q w h₁ (by simp [InFlight, h₃]) h₂).1⟩
    omega
  · rw [hwaiting]
    exact hy

end

end Sys2Proof.Machine
end

section
/-! SUPPORT. The end reports of a trip, and the orders that go on or end with it (R12, R13, R23). -/

namespace Sys2Proof.Machine

open Sys2Proof.Safety

/-! ## Orders that go on -/

/-- The order of a waiting step, whose end report is to be taken with those of `l`, goes on without the steps of `l`. -/
def GoesOnPast (s : State) (l : List (StepRef × Step)) (r : StepRef) (st : Step) : Prop :=
  ∃ p, s.orders.get r.island = some p
    ∧ ((p.state = .ending ∧ ∃ k w, (⟨r.island, k⟩ : StepRef) ∉ l.map (·.1) ∧ p.steps[k]? = some w ∧ InFlight w)
      ∨ ((p.state = .active ∨ p.state = .held) ∧ st.stopOnError = false
        ∧ ∃ k w, (⟨r.island, k⟩ : StepRef) ∉ l.map (·.1) ∧ p.steps[k]? = some w ∧ groupOf p.steps k = p.group
          ∧ w.state ≠ .ended ∧ w.state ≠ .notRun))

section
variable {e : StepEnd} {cause : Option Cause}

/-- The course after the end of a step whose order goes on (R12). -/
theorem State.course_goesOn {s t : State} {l : List (StepRef × Step)} {r : StepRef} {st u : Step} (hst : HasStep s r st)
    (hr : r ∈ l.map (·.1)) (hg : GoesOnPast s l r st) (hu : u.isParallel = st.isParallel) (ht : t.orders = putStep s r u) :
    t.course r.island (st.stopOnError && isError st.kind e) = t := by
  obtain ⟨p, hp, hg⟩ := hg
  obtain ⟨p', hp', hsto⟩ := hst
  cases hp.symm.trans hp'
  have hget : t.orders.get r.island = some { p with steps := p.steps.set r.idx u } := by
    rw [ht, putStep_get, if_pos rfl, hp]; rfl
  have hkeep {k : Nat} {w : Step} (hk : (⟨r.island, k⟩ : StepRef) ∉ l.map (·.1)) (hw : p.steps[k]? = some w) :
      (p.steps.set r.idx u)[k]? = some w := by
    rw [List.getElem?_set, if_neg fun h => hk (by rw [← h]; exact hr)]
    exact hw
  rcases hg with ⟨hs, k, w, hk, hw, hf⟩ | ⟨hs, hstop, k, w, hk, hw, hgr, h₁, h₂⟩
  · rw [State.course_ending hget hs]
    refine State.endIfDone_of fun q hq _ => .inl ?_
    cases hget.symm.trans hq
    exact (Order.hasStarted_iff _).mpr ⟨w, List.mem_of_getElem? (hkeep hk hw), hf⟩
  · have hne : p.state ≠ .ending := by rcases hs with h | h <;> simp [h]
    have hhold : Order.holdDone { p with steps := p.steps.set r.idx u } = false :=
      Bool.eq_false_of_not_iff (Order.holdDone_iff _) fun h => by rcases hs with e | e <;> cases e.symm.trans h.1
    have hdone : ¬ Order.groupDone { p with steps := p.steps.set r.idx u } = true := by
      rw [Order.groupDone_iff, not_not]
      exact ⟨k, w, hkeep hk hw, (groupOf_set (w := u) hsto hu k).trans hgr, h₁, h₂⟩
    rw [hstop, Bool.false_and, State.course_else hget hne hhold, if_neg hdone]

/-- The reports of steps whose orders go on are taken, and no order takes its course. -/
theorem State.takeEnds_goesOn : ∀ (l : List (StepRef × Step)) (n : Nat) (s : State), l.length ≤ n →
    s.ends = l.map (fun p => endReport p.1 p.2 e (waitingFigures p.2) cause) → (l.map (·.1)).Nodup →
    (∀ r st, (r, st) ∈ l → HasStep s r st ∧ GoesOnPast s l r st) → State.takeEnds n s = waitersEnded s l e cause := by
  intro l
  induction l with
  | nil =>
    intro n s _ hends _ _
    rw [State.takeEnds_nil n hends, waitersEnded_nil hends]
  | cons a l ih =>
    obtain ⟨r, st⟩ := a
    intro n s hlen hends hn hl
    obtain ⟨hst, hg⟩ := hl r st (List.mem_cons_self ..)
    obtain ⟨hnew, hn'⟩ := List.nodup_cons.mp hn
    cases n with
    | zero => simp at hlen
    | succ n =>
      generalize hrest : l.map (fun p => endReport p.1 p.2 e (waitingFigures p.2) cause) = rest
      have htake : State.takeEnds (n + 1) s = State.takeEnds n
          (State.takeEnd { s with ends := rest } (endReport r st e (waitingFigures st) cause)) := by
        rw [State.takeEnds]
        simp only [hends, List.map_cons, hrest]
      generalize ht : ({ s with
        ends := rest, orders := putStep s r (endedWaitingStep e cause st)
        ports := raised s [noticeAt .stepEnded r.island] } : State) = t
      have hone : State.takeEnd { s with ends := rest } (endReport r st e (waitingFigures st) cause) = t := by
        rw [State.takeEnd_eq (st := st) (by exact hst)]
        have hports : raised { s with ends := rest } [noticeAt .stepEnded r.island] = raised s [noticeAt .stepEnded r.island] :=
          raised_congr _ rfl rfl
        change State.course { s with
          ends := rest, orders := putStep s r (endedWaitingStep e cause st)
          ports := raised { s with ends := rest } [noticeAt .stepEnded r.island] } r.island
          (st.stopOnError && isError st.kind e) = t
        rw [hports, ht]
        exact State.course_goesOn (u := endedWaitingStep e cause st) hst (List.mem_cons_self ..) hg rfl (by rw [← ht])
      rw [htake, hone, ← waitersEnded_cons hst e cause rest ht.symm hnew]
      refine ih n t (by simpa using hlen) (by rw [← ht, hrest]) hn' fun q w hq => ?_
      obtain ⟨hw, p, hp, hgo⟩ := hl q w (List.mem_cons_of_mem _ hq)
      have hne : q ≠ r := fun e => hnew (e ▸ List.mem_map_of_mem (f := (·.1)) hq)
      refine ⟨(hasStep_putStep_of_ne hne (by rw [← ht])).mpr hw, ?_⟩
      have hto : t.orders.get q.island = if q.island = r.island then (s.orders.get q.island).map fun o =>
          { o with steps := o.steps.set r.idx (endedWaitingStep e cause st) } else s.orders.get q.island := by
        rw [← ht]; exact putStep_get _
      by_cases hi : q.island = r.island
      · obtain ⟨ro, hro, hsto⟩ := hst
        rw [hi] at hp
        cases hp.symm.trans hro
        have hkeep {k : Nat} {x : Step} (hk : (⟨q.island, k⟩ : StepRef) ∉ r :: l.map (·.1)) (hx : p.steps[k]? = some x) :
            (⟨q.island, k⟩ : StepRef) ∉ l.map (·.1) ∧ (p.steps.set r.idx (endedWaitingStep e cause st))[k]? = some x := by
          rw [List.mem_cons, not_or] at hk
          refine ⟨hk.2, ?_⟩
          rw [List.getElem?_set, if_neg fun h => hk.1 (by rw [hi, ← h])]
          exact hx
        refine ⟨{ p with steps := p.steps.set r.idx (endedWaitingStep e cause st) }, by rw [hto, if_pos hi, hi, hp]; rfl, ?_⟩
        rcases hgo with ⟨hs, k, x, hk, hx, hf⟩ | ⟨hs, hstop, k, x, hk, hx, hgr, h₁, h₂⟩
        · obtain ⟨hk', hx'⟩ := hkeep hk hx
          exact .inl ⟨hs, k, x, hk', hx', hf⟩
        · obtain ⟨hk', hx'⟩ := hkeep hk hx
          exact .inr ⟨hs, hstop, k, x, hk', hx', (groupOf_set (w := endedWaitingStep e cause st) hsto rfl k).trans hgr, h₁, h₂⟩
      · refine ⟨p, by rw [hto, if_neg hi]; exact hp, ?_⟩
        have hkeep {k : Nat} (hk : (⟨q.island, k⟩ : StepRef) ∉ r :: l.map (·.1)) :
            (⟨q.island, k⟩ : StepRef) ∉ l.map (·.1) := fun h => hk (List.mem_cons_of_mem _ h)
        rcases hgo with ⟨hs, k, x, hk, hx⟩ | ⟨hs, hstop, k, x, hk, hx⟩
        · exact .inl ⟨hs, k, x, hkeep hk, hx⟩
        · exact .inr ⟨hs, hstop, k, x, hkeep hk, hx⟩

end

/-! ## The orders when the reports of a trip are in -/

section
variable {s y : State} {o : Scope} {c : Cause}

theorem trippedOrder_ending {j : IslandNo} {ord : Order} (h : ord.state = .ending ∨ o = .bay ∨ o = .island j) :
    (trippedOrder o j ord).state = .ending := by
  unfold trippedOrder
  split
  · rfl
  · next hn =>
    by_contra he
    exact hn ⟨h.resolve_left he, he⟩

theorem trippedOrder_other {j : IslandNo} {ord : Order} (hb : o ≠ .bay) (hi : o ≠ .island j) : trippedOrder o j ord = ord :=
  if_neg fun h => h.1.elim hb hi

/-- The orders when the end reports of a trip have been taken and no order has taken its course. -/
theorem TripLeft.ended_orders (h : TripLeft s o c y) (j : IslandNo) :
    (waitersEnded y (waitingOn s o) .shutdown (some c)).orders.get j = (s.orders.get j).map (tripSteps o (trippedEnd c) j) := by
  refine (mapSteps_get y _ j).trans ?_
  rw [h.orders, Option.map_map]
  cases hord : s.orders.get j with
  | none => rfl
  | some ord =>
    refine congrArg some (congrArg (fun l => { trippedOrder o j ord with steps := l }) (List.ext_getElem? fun k => ?_))
    simp only [tripSteps, List.getElem?_mapIdx, Option.map_map]
    cases hk : (trippedOrder o j ord).steps[k]? with
    | none => rfl
    | some st =>
      refine congrArg some ?_
      have hmem : (⟨j, k⟩ : StepRef) ∈ (waitingOn s o).map (·.1) ↔ OnObject o ⟨j, k⟩ st ∧ st.state = .waitingCouple := by
        rw [List.mem_map]
        constructor
        · rintro ⟨⟨q, w⟩, hm, rfl⟩
          obtain ⟨⟨ord', hord', hw⟩, hon, hs⟩ := (h.waiting _ _).mp hm
          cases hord.symm.trans hord'
          have := (trippedOrder_getElem? (o := o) (i := j) (by simp [InFlight, hs])).mpr hw
          cases hk.symm.trans this
          exact ⟨hon, hs⟩
        · rintro ⟨hon, hs⟩
          exact ⟨_, (h.waiting ⟨j, k⟩ st).mpr
            ⟨⟨ord, hord, (trippedOrder_getElem? (o := o) (i := j) (by simp [InFlight, hs])).mp hk⟩, hon, hs⟩, rfl⟩
      simp only [Function.comp]
      rw [if_congr hmem rfl rfl]
      by_cases hon : OnObject o ⟨j, k⟩ st
      · rw [if_pos hon, if_pos hon, trippedEnd]
        by_cases hs : st.state = .waitingCouple
        · rw [if_pos ⟨hon, hs⟩, if_pos hs, tripTook_waiting hs]
        · rw [if_neg fun e => hs e.2, if_neg hs]
      · rw [if_neg hon, if_neg hon, if_neg fun e => hon e.1]

end

end Sys2Proof.Machine
end

section
/-! SUPPORT. How a trip ends: the orders go on, or the one it leaves without a started step is handed off (R12, R23, R155). -/

namespace Sys2Proof.Machine

open Sys2Proof.Safety

section
variable {s y : State} {o : Scope} {c : Cause}

theorem tripSteps_getElem? {f : Step → Step} {j : IslandNo} {k : Nat} {ord : Order} {st : Step}
    (h : (trippedOrder o j ord).steps[k]? = some st) :
    (tripSteps o f j ord).steps[k]? = some (if OnObject o ⟨j, k⟩ st then f st else st) := by
  rw [tripSteps, List.getElem?_mapIdx, h]
  rfl

/-- The steps of an order that a trip has reached, as the statements say it. -/
theorem orderTripped (o : Scope) (c : Cause) (j : IslandNo) (ord : Order) :
    OrderTripped o c j (trippedOrder o j ord).steps (tripSteps o (trippedEnd c) j ord).steps := by
  refine ⟨List.length_mapIdx, fun k st w hst hw => ?_⟩
  cases (tripSteps_getElem? hst).symm.trans hw
  by_cases hon : OnObject o ⟨j, k⟩ st
  · rw [if_pos hon, if_pos hon, trippedStep_iff]
  · rw [if_neg hon, if_neg hon]

theorem tripSteps_mem {f : Step → Step} {j : IslandNo} {ord : Order} {w : Step} (h : w ∈ (tripSteps o f j ord).steps) :
    ∃ k st, (trippedOrder o j ord).steps[k]? = some st ∧ w = if OnObject o ⟨j, k⟩ st then f st else st := by
  obtain ⟨k, hk⟩ := List.mem_iff_getElem?.mp h
  rw [tripSteps, List.getElem?_mapIdx] at hk
  obtain ⟨st, hst, rfl⟩ := Option.map_eq_some_iff.mp hk
  exact ⟨k, st, hst, rfl⟩

/-- A step in flight that a trip does not end is in flight after it. -/
theorem tripSteps_hasStarted {j : IslandNo} {k : Nat} {ord : Order} {st : Step} (hst : ord.steps[k]? = some st)
    (hf : InFlight st) (hs : ¬ (OnObject o ⟨j, k⟩ st ∧ st.state = .waitingCouple)) :
    (tripSteps o (trippedEnd c) j ord).hasStarted = true := by
  have hget := tripSteps_getElem? (f := trippedEnd c) ((trippedOrder_getElem? (o := o) (i := j) hf).mpr hst)
  refine (Order.hasStarted_iff _).mpr ⟨_, List.mem_of_getElem? hget, ?_⟩
  by_cases hon : OnObject o ⟨j, k⟩ st
  · rw [if_pos hon, trippedEnd, if_neg fun e => hs ⟨hon, e⟩]
    exact tripTook_inFlight hf c
  · rw [if_neg hon]
    exact hf

theorem TripLeft.not_waiting (h : TripLeft s o c y) {j : IslandNo} {k : Nat} {ord : Order} {st : Step}
    (hord : s.orders.get j = some ord) (hst : ord.steps[k]? = some st)
    (hs : ¬ (OnObject o ⟨j, k⟩ st ∧ st.state = .waitingCouple)) : (⟨j, k⟩ : StepRef) ∉ (waitingOn s o).map (·.1) := by
  intro hm
  obtain ⟨⟨q, w⟩, hmem, rfl⟩ := List.mem_map.mp hm
  obtain ⟨hw, hon, hww⟩ := (h.waiting _ _).mp hmem
  cases HasStep.unique hw ⟨ord, hord, hst⟩
  exact hs ⟨hon, hww⟩

/-! ## The orders go on (R12) -/

theorem TripLeft.goesOn (h : TripLeft s o c y) (hg : OrdersGoOn s o) {q : StepRef} {w : Step} (hq : (q, w) ∈ waitingOn s o) :
    GoesOnPast y (waitingOn s o) q w := by
  obtain ⟨⟨ord, hord, hw⟩, hon, hs⟩ := (h.waiting q w).mp hq
  refine ⟨tripSteps o (tripTook c) q.island ord, by rw [h.orders, hord]; rfl, ?_⟩
  obtain ⟨hends, hact⟩ := hg _ ord hord
  by_cases hE : ord.state = .ending ∨ o = .bay ∨ o = .island q.island
  · obtain ⟨k, st, ⟨hst, hno⟩, hf⟩ := hends hE
    refine .inl ⟨trippedOrder_ending hE, k, _, h.not_waiting hord hst hno,
      tripSteps_getElem? ((trippedOrder_getElem? (o := o) (i := q.island) hf).mpr hst), ?_⟩
    split
    · exact tripTook_inFlight hf c
    · exact hf
  · rw [not_or, not_or] at hE
    obtain ⟨he, hb, hi⟩ := hE
    obtain ⟨hstate, hstop, k, st, ⟨hst, hno⟩, hgr, h₁, h₂⟩ := hact he hb hi q.idx w hw hon hs
    have hsame : trippedOrder o q.island ord = ord := trippedOrder_other hb hi
    have hget := tripSteps_getElem? (o := o) (j := q.island) (f := tripTook c) (by rw [hsame]; exact hst)
    have hpar : (tripSteps o (tripTook c) q.island ord).steps.map (·.isParallel) = ord.steps.map (·.isParallel) := by
      rw [tripSteps, hsame]
      refine List.ext_getElem? fun n => ?_
      rw [List.getElem?_map, List.getElem?_map, List.getElem?_mapIdx, Option.map_map]
      refine congrArg (Option.map · _) (funext fun st => ?_)
      simp only [Function.comp]
      split
      · exact tripTook_isParallel c st
      · rfl
    have hgroup : (tripSteps o (tripTook c) q.island ord).group = ord.group := by rw [tripSteps, hsame]
    have hstate' : (tripSteps o (tripTook c) q.island ord).state = ord.state := by rw [tripSteps, hsame]
    refine .inr ⟨by rw [hstate']; exact hstate, hstop, k, _, h.not_waiting hord hst hno, hget, ?_, ?_⟩
    · rw [groupOf_congr hpar, hgr, hgroup]
    · split
      · exact tripTook_live h₁ h₂ c
      · exact ⟨h₁, h₂⟩

theorem TripLeft.drain_goesOn (h : TripLeft s o c y) (hg : OrdersGoOn s o) :
    y.drain = waitersEnded y (waitingOn s o) .shutdown (some c) :=
  State.takeEnds_goesOn _ 64 y h.length (by rw [h.only]) h.nodup fun q w hq => ⟨h.still q w hq, h.goesOn hg hq⟩

theorem TripLeft.endDone_goesOn (h : TripLeft s o c y) (hg : OrdersGoOn s o) :
    (waitersEnded y (waitingOn s o) .shutdown (some c)).endDone = waitersEnded y (waitingOn s o) .shutdown (some c) := by
  refine foldl_same _ _ _ fun j _ => State.endIfDone_of fun p hp hpe => .inl ?_
  rw [h.ended_orders] at hp
  obtain ⟨ord, hord, rfl⟩ := Option.map_eq_some_iff.mp hp
  have hE : ord.state = .ending ∨ o = .bay ∨ o = .island j := by
    by_contra hn
    rw [not_or, not_or] at hn
    obtain ⟨he, hb, hi⟩ := hn
    rw [tripSteps, trippedOrder_other hb hi] at hpe
    exact he hpe
  obtain ⟨k, st, ⟨hst, hno⟩, hf⟩ := (hg j ord hord).1 hE
  exact tripSteps_hasStarted hst hf hno

/-- What the end reports of a trip's waiting steps leave. -/
theorem TripLeft.ended_only (h : TripLeft s o c y) (hends : s.ends = []) :
    waitersEnded y (waitingOn s o) .shutdown (some c) = { s with
      orders := (waitersEnded y (waitingOn s o) .shutdown (some c)).orders, hoses := y.hoses, tanks := y.tanks
      shut := y.shut, reports := s.reports ++ runOnsOf ((stepsOn s o).map (·.2))
      ports := raised s (notice .trip :: (waitingOn s o).map fun p => noticeAt .stepEnded p.1.island) } := by
  generalize hu : waitersEnded y (waitingOn s o) .shutdown (some c) = u
  have hu' : u = { y with
      ends := [], orders := u.orders
      ports := raised y ((waitingOn s o).map fun p => noticeAt .stepEnded p.1.island) } := by rw [← hu]; rfl
  have hports : raised y ((waitingOn s o).map fun p => noticeAt .stepEnded p.1.island)
      = raised s (notice .trip :: (waitingOn s o).map fun p => noticeAt .stepEnded p.1.island) := by
    rw [← List.singleton_append, raised_append]
    exact raised_congr _ (by rw [h.only]) (by rw [h.only])
  rw [hports] at hu'
  rw [hu', h.only, ← hends]

theorem tripTaken_congr {t u : State} (hh : u.hoses = t.hoses) (ht : u.tanks = t.tanks) (h : TripTaken s t o) :
    TripTaken s u o := by
  unfold TripTaken
  rw [hh, ht]
  exact h

end

/-- A trip after which the orders go on (R155). -/
theorem State.trip_goesOn {s : State} {r : Report} (hends : s.ends = []) (hB : BooksLaw s)
    (hagree : HosesAgree s (reportObject r)) (hg : OrdersGoOn s (reportObject r)) :
    TripTaken s (s.trip r) (reportObject r)
      ∧ s.trip r = { s with
          orders := (s.trip r).orders, hoses := (s.trip r).hoses, tanks := (s.trip r).tanks
          reports := s.reports ++ runOnsOf ((stepsOn s (reportObject r)).map (·.2)), shut := (s.trip r).shut
          ports := raised s (notice .trip :: (waitingOn s (reportObject r)).map fun p => noticeAt .stepEnded p.1.island) }
      ∧ ∀ j, (s.trip r).orders.get j
          = (s.orders.get j).map (tripSteps (reportObject r) (trippedEnd (reportCause r)) j) := by
  have hleft := State.tripClosed_left hends hB hagree
  rw [State.trip_eq, hleft.drain_goesOn hg, hleft.endDone_goesOn hg]
  have honly := hleft.ended_only hends
  have horders := hleft.ended_orders
  generalize waitersEnded (s.tripClosed r) (waitingOn s (reportObject r)) .shutdown (some (reportCause r)) = u at honly horders
  have hh : u.hoses = (s.tripClosed r).hoses := by rw [honly]
  have ht : u.tanks = (s.tripClosed r).tanks := by rw [honly]
  refine ⟨tripTaken_congr hh ht hleft.taken, ?_, horders⟩
  rw [State.alignOutputs_eq]
  generalize u.alignOutputs.shut = sh
  generalize s.tripClosed r = y at honly
  rw [honly]

/-! ## The order is handed off (R23) -/

/-- An order that only waiting steps keep alive, whose island is tripped, or the bay while no other has an order (R23). -/
structure TripEnds (s : State) (o : Scope) (i : IslandNo) (ord : Order) : Prop where
  object : o = .island i ∨ o = .bay
  order : s.orders.get i = some ord
  ending : ord.state = .ending → ord.endStatus ≠ none ∧ ∀ st ∈ ord.steps, st.state ≠ .pending
  waiting : ∀ st ∈ ord.steps, InFlight st → st.state = .waitingCouple
  others : ∀ j p, j ≠ i → s.orders.get j = some p → o = .island i ∧ (p.state = .ending → ∃ w ∈ p.steps, InFlight w)

section
variable {s y : State} {o : Scope} {c : Cause} {i : IslandNo} {ord : Order}

theorem TripEnds.trippedOrder_ending (h : TripEnds s o i ord) : (trippedOrder o i ord).state = .ending :=
  Machine.trippedOrder_ending (.inr h.object.symm)

/-- The one order that the trip reaches has its steps on the object. -/
theorem TripEnds.onObject (h : TripEnds s o i ord) (k : Nat) (st : Step) : OnObject o ⟨i, k⟩ st := by
  rcases h.object with rfl | rfl <;> simp [OnObject]

theorem TripEnds.not_pending (h : TripEnds s o i ord) {f : Step → Step} (hf : ∀ st, (f st).state = .pending → st.state = .pending) :
    (tripSteps o f i ord).hasPending = false := by
  refine Bool.eq_false_of_not_iff (Order.hasPending_iff _) fun ⟨w, hw, hwp⟩ => ?_
  obtain ⟨k, st, hst, rfl⟩ := tripSteps_mem hw
  rw [if_pos (h.onObject k st)] at hwp
  have hp := hf st hwp
  have hmem := List.mem_of_getElem? hst
  by_cases he : ord.state = .ending
  · rw [trippedOrder, if_neg fun e => e.2 he] at hmem
    exact (h.ending he).2 st hmem hp
  · rw [trippedOrder, if_pos ⟨h.object.symm, he⟩] at hmem
    have := (Order.hasPending_iff _).mpr ⟨st, hmem, hp⟩
    rw [endingOrder_hasPending] at this
    cases this

theorem trippedEnd_pending {st : Step} (h : (trippedEnd c st).state = .pending) : st.state = .pending := by
  unfold trippedEnd at h
  split at h
  · cases h
  · exact tripTook_pending h

/-- What a trip order leaves of an order. -/
theorem trippedOrder_kept (o : Scope) (j : IslandNo) (ord : Order) : (trippedOrder o j ord).machine = ord.machine
    ∧ (trippedOrder o j ord).hour = ord.hour ∧ (trippedOrder o j ord).admissionClock = ord.admissionClock
    ∧ (trippedOrder o j ord).clockNotSet = ord.clockNotSet := by
  unfold trippedOrder
  split <;> exact ⟨rfl, rfl, rfl, rfl⟩

/-- When the reports are in, the order has no started step left. -/
theorem TripEnds.not_started (h : TripEnds s o i ord) : (tripSteps o (trippedEnd c) i ord).hasStarted = false := by
  refine Bool.eq_false_of_not_iff (Order.hasStarted_iff _) fun ⟨w, hw, hwf⟩ => ?_
  obtain ⟨k, st, hst, rfl⟩ := tripSteps_mem hw
  rw [if_pos (h.onObject k st)] at hwf
  by_cases hf : InFlight st
  · have hs := h.waiting st (List.mem_of_getElem? ((trippedOrder_getElem? hf).mp hst)) hf
    rw [trippedEnd, if_pos hs] at hwf
    exact hwf.2.1 rfl
  · rw [trippedEnd, if_neg fun e => hf (by simp [InFlight, e]), tripTook_of_not_inFlight hf] at hwf
    exact hf hwf

theorem TripEnds.finalStatus (h : TripEnds s o i ord) :
    (tripSteps o (trippedEnd c) i ord).finalStatus = ord.endStatus.getD .shutdown := by
  rw [Order.finalStatus_eq, tripSteps, trippedOrder]
  by_cases he : ord.state = .ending
  · rw [if_neg fun e => e.2 he]
    obtain ⟨status, hs⟩ := Option.ne_none_iff_exists'.mp (h.ending he).1
    rw [hs]
    rfl
  · rw [if_pos ⟨h.object.symm, he⟩]
    rfl

/-- An order of another island is as it was. -/
theorem TripEnds.other (h : TripEnds s o i ord) {j : IslandNo} {p : Order} (hj : j ≠ i) (hp : s.orders.get j = some p)
    (f : Step → Step) : tripSteps o f j p = p := by
  obtain ⟨rfl, -⟩ := h.others j p hj hp
  have hne : Scope.island i ≠ .island j := fun e => hj (by cases e; rfl)
  rw [tripSteps, trippedOrder_other (o := .island i) nofun hne]
  refine congrArg (fun l => { p with steps := l }) ((mapIdx_congr fun k st _ => if_neg ?_).trans (mapIdx_snd _))
  rintro (e | e | e | e)
  · cases e
  · exact hne e
  · cases e
  · cases e

/-- A fold of order ends in which one order ends. -/
theorem State.endDone_one {x : State} (hothers : ∀ j p, j ≠ i → x.orders.get j = some p → p.state = .ending →
    p.hasStarted = true) (hd : y = x ∨ y = x.endIfDone i) : y.endDone = x.endIfDone i := by
  have hget (j : IslandNo) (hj : j ≠ i) : (x.endIfDone i).orders.get j = x.orders.get j := by
    rcases x.endIfDone_cases i with h | ⟨p, -, -, -, -, h⟩
    · rw [h]
    · rw [h, State.handOff_orders, Table.put_of_ne _ _ hj]
  have hstay (z : State) (j : IslandNo) (hj : j ≠ i) (hz : z.orders.get j = x.orders.get j) : z.endIfDone j = z :=
    State.endIfDone_of fun p hp he => .inl (hothers j p hj (hz ▸ hp) he)
  have hact : y.endIfDone i = x.endIfDone i := by
    rcases hd with rfl | rfl
    · rfl
    · exact x.endIfDone_idem i
  refine foldl_one _ (List.mem_finRange i) (List.nodup_finRange 4) hact (fun j hj => hstay _ j hj ?_)
    fun j hj => hstay _ j hj (hget j hj)
  rcases hd with rfl | rfl
  · rfl
  · exact hget j hj

theorem TripLeft.endDone_ends (h : TripLeft s o c y) (he : TripEnds s o i ord) :
    y.drain.endDone = (waitersEnded y (waitingOn s o) .shutdown (some c)).endIfDone i := by
  have hget : y.orders.get i = some (tripSteps o (tripTook c) i ord) := by rw [h.orders, he.order]; rfl
  have hW : ∀ q w, (q, w) ∈ waitingOn s o → q.island = i ∧ HasStep y q w ∧ InFlight w := by
    intro q w hq
    obtain ⟨⟨p, hp, -⟩, hon, hs⟩ := (h.waiting q w).mp hq
    refine ⟨?_, h.still q w hq, by simp [InFlight, hs]⟩
    by_contra hj
    obtain ⟨rfl, -⟩ := he.others _ p hj hp
    rcases hon with e | e | e | e
    · cases e
    · cases e; exact hj rfl
    · cases e
    · cases e
  refine State.endDone_one (fun j p hj hp hs => ?_) (State.takeEnds_ending_cases (waitingOn s o) 64 y _ h.length
    (by rw [h.only]) h.nodup hW hget he.trippedOrder_ending (he.not_pending fun _ => tripTook_pending))
  rw [h.ended_orders] at hp
  obtain ⟨q, hq, rfl⟩ := Option.map_eq_some_iff.mp hp
  rw [he.other hj hq] at hs ⊢
  obtain ⟨-, hflight⟩ := he.others j q hj hq
  exact (Order.hasStarted_iff q).mpr (hflight hs)

end

/-- A trip that leaves its one order without a started step (R23, R155). -/
theorem State.trip_ends {s : State} {r : Report} {i : IslandNo} {ord : Order} (hends : s.ends = []) (hB : BooksLaw s)
    (hagree : HosesAgree s (reportObject r)) (he : TripEnds s (reportObject r) i ord) :
    TripTaken s (s.trip r) (reportObject r)
      ∧ HandedOff s (s.trip r) i ord (ord.endStatus.getD .shutdown)
          (tripSteps (reportObject r) (trippedEnd (reportCause r)) i ord).steps
          (notice .trip :: (waitingOn s (reportObject r)).map fun p => noticeAt .stepEnded p.1.island)
      ∧ s.trip r = { s with
          orders := (s.trip r).orders, hoses := (s.trip r).hoses, tanks := (s.trip r).tanks, journal := (s.trip r).journal
          islands := (s.trip r).islands, accounts := (s.trip r).accounts, ports := (s.trip r).ports
          shut := (s.trip r).shut, reports := s.reports ++ runOnsOf ((stepsOn s (reportObject r)).map (·.2)) } := by
  have hleft := State.tripClosed_left hends hB hagree
  rw [State.trip_eq, hleft.endDone_ends he]
  have honly := hleft.ended_only hends
  have horders := hleft.ended_orders
  generalize waitersEnded (s.tripClosed r) (waitingOn s (reportObject r)) .shutdown (some (reportCause r)) = u at honly horders
  have hget : u.orders.get i = some (tripSteps (reportObject r) (trippedEnd (reportCause r)) i ord) := by
    rw [horders, he.order]; rfl
  rw [State.endIfDone_done hget he.trippedOrder_ending he.not_started (he.not_pending fun _ => trippedEnd_pending),
    he.finalStatus]
  obtain ⟨hm, hr, hc, hn⟩ := trippedOrder_kept (reportObject r) i ord
  have hh : u.hoses = (s.tripClosed r).hoses := by rw [honly]
  have ht : u.tanks = (s.tripClosed r).tanks := by rw [honly]
  have hothers (j : IslandNo) (hj : j ≠ i) : u.orders.get j = s.orders.get j := by
    rw [horders]
    cases hp : s.orders.get j with
    | none => rfl
    | some p => exact congrArg some (he.other hj hp _)
  obtain ⟨hoff, hu⟩ := State.handOff_handedOff (s := s) (u := u) (i := i) (o := ord)
    (p := tripSteps (reportObject r) (trippedEnd (reportCause r)) i ord)
    (before := notice .trip :: (waitingOn s (reportObject r)).map fun p => noticeAt .stepEnded p.1.island)
    (ord.endStatus.getD .shutdown) hothers (by rw [honly]) (by rw [honly]) (by rw [honly]) (by rw [honly])
    (by rw [honly]) (by rw [honly]) hm hr hc hn
  generalize State.handOff u i (tripSteps (reportObject r) (trippedEnd (reportCause r)) i ord) (ord.endStatus.getD .shutdown)
    = v at hoff hu
  have hvh : v.hoses = (s.tripClosed r).hoses := by rw [hu, hh]
  have hvt : v.tanks = (s.tripClosed r).tanks := by rw [hu, ht]
  refine ⟨tripTaken_congr hvh hvt hleft.taken, hoff, ?_⟩
  rw [State.alignOutputs_eq]
  generalize v.alignOutputs.shut = sh
  generalize s.tripClosed r = y at honly
  rw [hu, honly]

/-- What the statements say of a trip (R155). -/
theorem State.tripped (s : State) (r : Report) : Tripped s (s.trip r) r := by
  have hw := s.trip_work r
  refine ⟨⟨newEntry s r, s.trip_entry r, s.captured _, rfl⟩, fun x hx => s.trip_others r hx, s.trip_outputs r, hw.cfg, hw.supply,
    hw.pins, hw.told, fun hends hB hagree => ?_⟩
  intro reports
  refine ⟨fun hg => ?_, fun i ord hobj hord hending hwait hothers => ?_⟩
  · obtain ⟨htaken, hsame, horders⟩ := State.trip_goesOn hends hB hagree hg
    refine ⟨htaken, hsame, fun i => ⟨fun hn => ?_, fun ord hord => ?_⟩⟩
    · rw [horders, hn]; rfl
    · exact ⟨_, by rw [horders, hord]; rfl, orderTripped ..⟩
  · obtain ⟨htaken, hoff, hsame⟩ := State.trip_ends hends hB hagree ⟨hobj, hord, hending, hwait, hothers⟩
    exact ⟨_, orderTripped .., htaken, hoff, hsame⟩

end Sys2Proof.Machine
end

section
/-! SUPPORT. What a report and a trip request come to (R150, R161 to R164). -/

namespace Sys2Proof.Machine

open Sys2Proof.Safety

section
variable {s : State} {r : Report}

/-- The shutdown unit after a repeat of a latched entry (R150). -/
def Shutdown.again (u : Shutdown) (o : Scope) (e : Entry) : Shutdown := { u with map := u.map.put o.code (some e.repeated) }

/-- A report for a latched object (R150). -/
theorem State.applyReport_again {e : Entry} (ha : s.actionOf (reportCause r) = .trip)
    (he : s.entryAt (reportObject r) = some e) :
    s.applyReport r = { s with shut := Shutdown.again s.shut (reportObject r) e } := by
  simp only [State.applyReport, ha, he]
  rfl

theorem State.applyReport_off (ha : s.actionOf (reportCause r) = .off) : s.applyReport r = s := by
  simp only [State.applyReport, ha]

/-- A report whose cause only warns (R162). -/
theorem State.applyReport_warn (ha : s.actionOf (reportCause r) = .warn) : s.applyReport r = { s with
    shut := { s.shut with warnings := s.shut.warnings.modify (reportCause r).index fun w =>
      { count := min 65535 (w.count + 1), last := some (reportObject r), lastClock := some s.supply.clock
        clockNotSet := !s.supply.clockSet } }
    ports := raised s [notice .warning] } := by
  simp only [State.applyReport, ha]
  rw [State.raiseKind_eq]
  unfold State.modShut
  congr 1
  exact raised_congr _ rfl rfl

/-- A trip request for a latched object counts the repeat (R150, R163). -/
theorem tripRequest_again {e : Entry} (ha : s.actionOf (reportCause r) = .trip) (he : s.entryAt (reportObject r) = some e) :
    tripRequest r s = ((.ok, .trip .again e.firstCause (min 255 (e.repeats + 1))),
      { s with shut := Shutdown.again s.shut (reportObject r) e }) := by
  have hl : s.isLatched (reportObject r) = true := by rw [State.isLatched_iff, he]; nofun
  have hget : State.entryAt { s with shut := Shutdown.again s.shut (reportObject r) e } (reportObject r) = some e.repeated :=
    Table.put_self ..
  simp only [tripRequest, State.applyReport_again ha he, hl, if_true, hget]
  rfl

/-- A trip request for an object that is not latched carries the trip out (R163). -/
theorem tripRequest_trips (ha : s.actionOf (reportCause r) = .trip) (hn : s.entryAt (reportObject r) = none) :
    tripRequest r s = ((.ok, .trip .new (reportCause r) 0), s.trip r) := tripRequest_new ha hn (s.trip_entry r)

end

end Sys2Proof.Machine
end

section
namespace Sys2Proof.Machine

open Sys2Proof.Safety

/-- Settles O30: a trip request counts a repeat or carries out the trip of its report (`State.tripped`). -/
theorem tripRequestsLatchOrRepeat : Obligations.TripRequestsLatchOrRepeat := by
  unfold Obligations.TripRequestsLatchOrRepeat
  refine ⟨fun l tag s o c k cause r hc hA => ?_, fun l tag n s => ⟨fun hn hA => ?_, fun hn hA => ?_, fun hn hA => ?_⟩⟩
  · have key : reportObject r = o ∧ reportCause r = cause ∧ reportOrigin r = .link l ∧ s.actionOf (reportCause r) = .trip
        ∧ ∀ v u, tripRequest r s = ((.ok, v), u) → Replies c s u l tag k .ok v := by
      rcases hc with ⟨rfl, rfl, rfl, rfl, rfl⟩ | ⟨i, rfl, rfl, rfl, rfl, rfl⟩ | ⟨t, rfl, rfl, rfl, rfl, rfl⟩
        | ⟨h, rfl, rfl, rfl, rfl, rfl⟩
      · exact ⟨rfl, rfl, rfl, rfl, fun v u h => ⟨_, rfl, State.serve_only hA tag () (tripBay l) h⟩⟩
      · exact ⟨rfl, rfl, rfl, rfl, fun v u h => ⟨_, rfl, State.serve_only hA tag i.val (tripIsland l)
          (by rw [tripIsland, islandOf_val]; exact h)⟩⟩
      · exact ⟨rfl, rfl, rfl, rfl, fun v u h => ⟨_, rfl, State.serve_only hA tag t.val (tripTank l)
          (by rw [tripTank, tankOf_val]; exact h)⟩⟩
      · exact ⟨rfl, rfl, rfl, rfl, fun v u h' => ⟨_, rfl, State.serve_only hA tag h.val (tripHose l)
          (by rw [tripHose, hoseOf_val]; exact h')⟩⟩
    clear hc
    obtain ⟨rfl, rfl, horigin, ha, hreplies⟩ := key
    refine ⟨fun e he => hreplies _ _ (tripRequest_again ha he), fun hn => ?_⟩
    obtain ⟨hcfg, hsupply, hpins⟩ : (s.trip r).cfg = s.cfg ∧ (s.trip r).supply = s.supply ∧ (s.trip r).pins = s.pins :=
      ⟨(s.trip_work r).cfg, (s.trip_work r).supply, (s.trip_work r).pins⟩
    refine ⟨s.trip r, hreplies _ _ (tripRequest_trips ha hn), ⟨s.capture (reportObject r), ?_⟩,
      fun x hx => s.trip_others r hx, hcfg, hsupply, hpins, s.tripped r⟩
    rw [s.trip_entry r, newEntry, horigin]
  · exact ⟨_, rfl, State.serve_only hA tag n (tripIsland l) (by rw [tripIsland, islandOf_of_lt hn]; rfl)⟩
  · exact ⟨_, rfl, State.serve_only hA tag n (tripTank l) (by rw [tripTank, tankOf_of_lt hn]; rfl)⟩
  · exact ⟨_, rfl, State.serve_only hA tag n (tripHose l) (by rw [tripHose, hoseOf_of_lt hn]; rfl)⟩

theorem exec_shutdownReport {s : State} (hr : s.running = true) (r : Report) :
    exec (.shutdownReport r) s = .next (State.applyReport { s with reports := s.reports.erase r } r) := by
  rw [exec, execShutdownReport, State.whileRunning_of hr]

/-- The stop input while the part runs: a level already held changes the pin only (R161). -/
theorem exec_emergencyStopChange {s : State} (hr : s.running = true) (level : Bool) :
    exec (.emergencyStopChange level) s = .next (if s.shut.stop = level then { s with pins := { s.pins with stop := level } }
      else State.stopLevel { s with pins := { s.pins with stop := level } } level) := by
  rw [exec, execEmergencyStopChange, State.whileRunning_of (by exact hr)]
  rfl

/-- Settles O31: the action in force says what a report comes to, and a trip is what `State.tripped` says. -/
theorem reportsFollowTheAction : Obligations.ReportsFollowTheAction := by
  unfold Obligations.ReportsFollowTheAction
  refine ⟨fun r s hr => ?_, fun level s hr => ⟨fun h => ?_, fun h hl => ?_, fun h hl e he => ?_, fun h hl hn => ?_⟩⟩
  · intro o cause after
    rw [exec_shutdownReport hr]
    refine ⟨fun ha => ?_, fun ha => ?_, fun e ha he => ?_, fun ha hn => ⟨after.trip r, ?_, ?_, ?_⟩⟩
    · rw [State.applyReport_off (by exact ha)]
    · rw [State.applyReport_warn (by exact ha)]
      have hports : raised after [notice .warning] = raised s [notice .warning] := raised_congr _ rfl rfl
      rw [hports]
    · rw [State.applyReport_again (by exact ha) (e := e) (by exact he)]
      rfl
    · rw [State.applyReport_trips (by exact ha) (by exact hn)]
    · exact ⟨_, after.trip_entry r⟩
    · have hw := after.trip_work r
      exact ⟨fun x hx => after.trip_others r hx, hw.cfg, hw.supply, hw.pins, after.tripped r⟩
  · rw [exec_emergencyStopChange hr, if_pos h]
  · subst hl
    rw [exec_emergencyStopChange hr, if_neg (by simp [h])]
    rfl
  · subst hl
    rw [exec_emergencyStopChange hr, if_neg (by simp [h])]
    exact congrArg Host.Outcome.next (State.applyReport_again (r := .bayStop none) (e := e) rfl he)
  · subst hl
    generalize hb : ({ s with pins := { s.pins with stop := true }, shut := { s.shut with stop := true } } : State) = b
    have hnb : b.entryAt .bay = none := by rw [← hb]; exact hn
    have htrip : exec (.emergencyStopChange true) s = .next (b.trip (.bayStop none)) := by
      rw [exec_emergencyStopChange hr, if_neg (by simp [h]), ← State.applyReport_trips (s := b) (r := .bayStop none) rfl hnb,
        ← hb]
      rfl
    obtain ⟨relay, pumps, hshut⟩ := b.trip_map (.bayStop none)
    obtain ⟨-, hrelay, hpumps⟩ := b.trip_outputs (.bayStop none)
    have hentry : (b.trip (.bayStop none)).entryAt .bay = some (newEntry b (.bayStop none)) := b.trip_entry (.bayStop none)
    have hlatched : (b.trip (.bayStop none)).entryAt .bay ≠ none := by rw [hentry]; nofun
    refine ⟨b.trip (.bayStop none), htrip, ?_, ?_, fun k => ?_, b.tripped (.bayStop none), _, hentry, rfl, rfl, rfl⟩
    · rw [hshut, ← hb]
    · exact Bool.eq_false_of_not_iff hrelay hlatched
    · exact Bool.eq_false_of_not_iff (hpumps k) fun ⟨_, _, hnone⟩ => hlatched hnone

end Sys2Proof.Machine
end

section
/-! SUPPORT. The actions of a start-up that follow the load: the tanks, the field state and the inputs (R110, R196). -/

namespace Sys2Proof.Machine

open Sys2Proof.Safety

/-! ## Stage 5: the tanks (R104, R110) -/

/-- A tank after stage 5, of which only the leak watch is left open: with the defaults in force it is OUT_OF_SERVICE and has no
receipt. -/
def TankDefaulted (defaulted : Bool) (k m : Tank) : Prop :=
  m = { k with
    state := if defaulted then .outOfService else k.state
    receipt := if defaulted then none else k.receipt
    leak := m.leak, quietTimer := m.quietTimer, baseline := m.baseline }

theorem TankDefaulted.refl (k : Tank) : TankDefaulted false k k := rfl

/-- The journal with the record of a tank's open receipt, if it has one (R104). -/
def receiptCancelled (s : State) (tanks : Table Tank 10) (j : Journal) (t : TankNo) : Journal :=
  match (tanks.get t).receipt with
  | none => j
  | some r => withRecord j (r.clockNotSet || !s.supply.clockSet)
      (.receipt
        { tank := t, status := .cancelled, openClock := r.openClock, closeClock := s.supply.clock, rise := 0
          docket := none, variance := none, bookBefore := (tanks.get t).book, bookAfter := (tanks.get t).book }) 1

theorem receiptsCancelled_eq (s : State) (tanks : Table Tank 10) (j : Journal) :
    receiptsCancelled s tanks j = allTanks.foldl (receiptCancelled s tanks) j := rfl

theorem Tank.leakRest_only (quiet : Nat) (k : Tank) : k.leakRest quiet = { k with
    leak := (k.leakRest quiet).leak, quietTimer := (k.leakRest quiet).quietTimer
    baseline := (k.leakRest quiet).baseline } := by
  unfold Tank.leakRest
  split <;> rfl

/-- Stage 5 at one tank (R110). -/
theorem State.defaultTank_eq (s : State) (t : TankNo) : ∃ m p, s.defaultTank t = { s with
    tanks := s.tanks.put t m
    journal := if s.supply.defaulted then receiptCancelled s s.tanks s.journal t else s.journal, ports := p }
    ∧ TankDefaulted s.supply.defaulted (s.tanks.get t) m := by
  unfold State.defaultTank
  cases hd : s.supply.defaulted with
  | false => exact ⟨s.tanks.get t, s.ports, by rw [Table.put_self_eq rfl]; rfl, rfl⟩
  | true =>
    cases hr : (s.tanks.get t).receipt with
    | none =>
      refine ⟨{ s.tanks.get t with state := .outOfService }, s.ports, ?_, ?_⟩
      · generalize hm : ({ s.tanks.get t with state := .outOfService } : Tank) = m
        simp only [if_true, hr, receiptCancelled]
        rw [← hm]
        rfl
      · unfold TankDefaulted
        rw [if_pos rfl, if_pos rfl, ← hr]
    | some r =>
      let gone : Tank := { s.tanks.get t with receipt := none }
      have hgone := gone.leakRest_only (s.cfg.tanks.get t).quietTime
      refine ⟨{ gone.leakRest (s.cfg.tanks.get t).quietTime with state := .outOfService },
        raised s (noticeIf (s.journal.records = []) (notice .journalWaiting)), ?_, ?_⟩
      · simp only [if_true, hr, receiptCancelled, State.cancelReceipt, State.endReceipt, State.writeReserved_eq, State.modTank,
          Table.modify_modify]
        rfl
      · unfold TankDefaulted
        rw [if_pos rfl, if_pos rfl, hgone]

/-- Stage 5 at some tanks. -/
structure TanksDefaulted (s : State) (l : List TankNo) (t : State) : Prop where
  only : t = { s with tanks := t.tanks, journal := t.journal, ports := t.ports }
  journal : t.journal = if s.supply.defaulted then l.foldl (receiptCancelled s s.tanks) s.journal else s.journal
  tanks : ∀ k, TankDefaulted (decide (k ∈ l) && s.supply.defaulted) (s.tanks.get k) (t.tanks.get k)

/-- The record of a cancelled receipt depends on the receipt's opening, the tank's book and the clock. -/
theorem receiptCancelled_congr {s t : State} {a b : Table Tank 10} {k : TankNo} (h : t.supply.clock = s.supply.clock)
    (hs : t.supply.clockSet = s.supply.clockSet)
    (hr : ((b.get k).receipt.map fun r => (r.openClock, r.clockNotSet))
      = (a.get k).receipt.map fun r => (r.openClock, r.clockNotSet))
    (hb : (b.get k).book = (a.get k).book) (j : Journal) : receiptCancelled t b j k = receiptCancelled s a j k := by
  unfold receiptCancelled
  rw [hb, h, hs]
  cases hx : (b.get k).receipt with
  | none =>
    cases hy : (a.get k).receipt with
    | none => rfl
    | some y => rw [hx, hy] at hr; cases hr
  | some x =>
    cases hy : (a.get k).receipt with
    | none => rw [hx, hy] at hr; cases hr
    | some y =>
      rw [hx, hy] at hr
      obtain ⟨hc, hn⟩ := Prod.mk.inj (Option.some.inj hr)
      simp only [hc, hn]

theorem State.defaultTanks (s : State) : TanksDefaulted s allTanks (allTanks.foldl State.defaultTank s) := by
  refine foldl_parts State.defaultTank (TanksDefaulted s)
    ⟨rfl, (ite_self _).symm, fun k => by simpa using TankDefaulted.refl _⟩ fun p a q c hl hc => ?_
  have ha : a ∉ p := by
    have := notMem_of_nodup_part (f := id) (p := p) (a := a) (q := q) (by rw [List.map_id, ← hl]; exact List.nodup_finRange 10)
    rwa [List.map_id] at this
  obtain ⟨m, ports, hd, hm⟩ := c.defaultTank_eq a
  have hsup : c.supply = s.supply := by rw [hc.only]
  have hca := hc.tanks a
  rw [decide_eq_false ha, Bool.false_and] at hca
  have hrec : (c.tanks.get a).receipt = (s.tanks.get a).receipt := by rw [hca]; rfl
  have hbook : (c.tanks.get a).book = (s.tanks.get a).book := by rw [hca]
  rw [hd]
  refine ⟨by rw [hc.only], ?_, fun k => ?_⟩
  · simp only [hsup, hc.journal, List.foldl_append, List.foldl_cons, List.foldl_nil]
    split
    · rw [receiptCancelled_congr (s := s) (t := c) (by rw [hsup]) (by rw [hsup]) (by rw [hrec]) hbook]
    · rfl
  · dsimp only
    rw [Table.put_get]
    split
    · next hk =>
      subst hk
      rw [hsup] at hm
      rw [decide_eq_true (by simp), Bool.true_and]
      unfold TankDefaulted at hm hca ⊢
      rw [hm, hca]
      rfl
    · next hk =>
      have : decide (k ∈ p ++ [a]) = decide (k ∈ p) := decide_eq_decide.mpr (by simp [hk])
      rw [this]
      exact hc.tanks k

/-! ## Stage 7: the field state begins (R29, R84, R110, R172) -/

theorem Tank.restarted_of {defaulted : Bool} {k m : Tank} (h : TankDefaulted defaulted k m) (strapped : Bool) (c : TankCfg) :
    m.restarted strapped c = tankRestarted (!defaulted) strapped c false k := by
  unfold TankDefaulted at h
  rw [h]
  generalize m.leak = x
  generalize m.quietTimer = y
  generalize m.baseline = z
  unfold Tank.restarted tankRestarted
  cases defaulted with
  | false =>
    cases hw : (decide (0 < k.reserved) || k.receipt.isSome) with
    | false => simp [Tank.isWorking, Tank.leakWaiting, Timer.startSeconds, Timer.startMinutes, hw]
    | true => simp [Tank.isWorking, Tank.leakBusy, Timer.startSeconds, hw]
  | true =>
    cases hw : decide (0 < k.reserved) with
    | false => simp [Tank.isWorking, Tank.leakWaiting, Timer.startSeconds, Timer.startMinutes, hw]
    | true => simp [Tank.isWorking, Tank.leakBusy, Timer.startSeconds, hw]

end Sys2Proof.Machine
end

section
/-! SUPPORT. A part without orders: reports, inputs and the supply warning change no step, no hose and no account (R155, R161, R194). -/

namespace Sys2Proof.Machine

open Sys2Proof.Safety

/-- No island has an order, and no end report is on its way. -/
def Idle (s : State) : Prop := (∀ i, s.orders.get i = none) ∧ s.ends = []

section
variable {s t : State}

theorem Idle.congr (h : Idle s) (ho : t.orders = s.orders) (he : t.ends = s.ends) : Idle t :=
  ⟨fun i => by rw [ho]; exact h.1 i, by rw [he]; exact h.2⟩

theorem Idle.hoseStep (h : Idle s) (x : HoseNo) : s.hoseStep x = none := by
  cases hs : s.hoseStep x with
  | none => rfl
  | some p =>
    obtain ⟨-, o, ho, -⟩ := State.hoseStep_eq_some.mp (show s.hoseStep x = some (p.1, p.2) from hs)
    rw [h.1] at ho
    cases ho

theorem Idle.tripOrders (h : Idle s) (o : Scope) : s.tripOrders o = s := by
  obtain ⟨he, ho⟩ := s.tripOrders_eq o
  have : (s.tripOrders o).orders = s.orders := Table.ext_get fun j => by rw [ho, h.1]; rfl
  rw [he, this]

theorem Idle.endDone (h : Idle s) : s.endDone = s :=
  foldl_same _ _ _ fun j _ => State.endIfDone_of fun o ho => by rw [h.1] at ho; cases ho

/-- A trip of a part without orders (R155). -/
theorem Idle.trip (h : Idle s) (r : Report) :
    s.trip r = { s with shut := (s.trip r).shut, ports := raised s [notice .trip] } := by
  generalize hb : s.setEntry (reportObject r) (some (newEntry s r)) = b
  have hbe : b = { s with shut := b.shut } := by rw [← hb]; rfl
  have hb' : Idle b := h.congr (by rw [hbe]) (by rw [hbe])
  have hfold : allHoses.foldl (State.tripHoseAt (reportObject r) (reportCause r)) b = b :=
    foldl_same _ _ _ fun x _ => by rw [State.tripHoseAt, hb'.hoseStep]
  have hports : raised b.alignOutputs [notice .trip] = raised s [notice .trip] :=
    raised_congr _ (by rw [State.alignOutputs_eq, hbe]) (by rw [State.alignOutputs_eq, hbe])
  have hclosed : s.tripClosed r = { s with shut := b.alignOutputs.shut, ports := raised s [notice .trip] } := by
    rw [State.tripClosed, hb, hb'.tripOrders, hfold, State.raiseKind_eq, hports, State.alignOutputs_eq]
    generalize b.alignOutputs.shut = sh
    rw [hbe]
  generalize hc : s.tripClosed r = c at hclosed
  have hc' : Idle c := h.congr (by rw [hclosed]) (by rw [hclosed])
  have htrip : s.trip r = c.alignOutputs := by rw [State.trip_eq, hc, State.drain_of_nil hc'.2, hc'.endDone]
  rw [htrip, State.alignOutputs_eq]
  generalize c.alignOutputs.shut = sh
  rw [hclosed]

/-- A report at a part without orders (R150). -/
theorem Idle.applyReport (h : Idle s) (r : Report) : ∃ ns, s.applyReport r = { s with
    shut := (s.applyReport r).shut, ports := raised s ns } := by
  cases ha : s.actionOf (reportCause r) with
  | off => exact ⟨[], by rw [State.applyReport_off ha]; rfl⟩
  | warn => exact ⟨[notice .warning], by rw [State.applyReport_warn ha]⟩
  | trip =>
    cases he : s.entryAt (reportObject r) with
    | some e => exact ⟨[], by rw [State.applyReport_again ha he]; rfl⟩
    | none =>
      refine ⟨[notice .trip], ?_⟩
      rw [State.applyReport_trips ha he]
      exact h.trip r

theorem Idle.nextGroup (h : Idle s) (i : IslandNo) : s.nextGroup i = s := by
  rw [State.nextGroup, State.tryStart, h.1]

theorem Idle.arrived (h : Idle s) (i : IslandNo) : s.arrived i = s := by
  have hfold : (s.islandHoses i).foldl State.presentAt s = s :=
    foldl_same _ _ _ fun x _ => by rw [State.presentAt, h.hoseStep]
  rw [State.arrived, hfold, State.drain_of_nil h.2, h.nextGroup]

/-- The detector's assertion at a part without orders (R75). -/
theorem Idle.detectorOn (h : Idle s) (i : IslandNo) : ∃ x, s.detectorOn i = { s with islands := x } := by
  cases hp : (s.islands.get i).presence with
  | absent => exact ⟨_, State.detectorOn_absent hp⟩
  | leaving =>
    refine ⟨islandPut s i true .present none, ?_⟩
    rw [State.detectorOn_leaving hp]
    exact Idle.arrived (s := { s with islands := islandPut s i true .present none }) (h.congr rfl rfl) i
  | arriving =>
    refine ⟨s.islands.modify i fun k => { k with level := true }, ?_⟩
    have := (s.level_presence i true).trans hp
    simp only [State.detectorOn, this]
    rfl
  | present =>
    refine ⟨s.islands.modify i fun k => { k with level := true }, ?_⟩
    have := (s.level_presence i true).trans hp
    simp only [State.detectorOn, this]
    rfl

theorem Idle.warnOn (h : Idle s) : s.warnOn = { s with supply := { s.supply with state := .hold, warning := true } } := by
  generalize hb : ({ s with supply := { s.supply with state := .hold, warning := true } } : State) = b
  have hb' : Idle b := h.congr (by rw [← hb]) (by rw [← hb])
  have hw : s.warnOn = allIslands.foldl State.warnOrder (allHoses.foldl State.warnedAt b) := by rw [← hb]; rfl
  have hhoses : allHoses.foldl State.warnedAt b = b := foldl_same _ _ _ fun x _ => by rw [State.warnedAt, hb'.hoseStep]
  rw [hw, hhoses]
  exact foldl_same _ _ _ fun i _ => by rw [State.warnOrder, hb'.1]

end

/-! ## The inputs are sampled (R84, R110, R161, R194) -/

/-- The ports but for their notices and attention lines. -/
def PortsKept (s t : State) : Prop :=
  ∀ l, t.ports.get l = { s.ports.get l with
    notices := (t.ports.get l).notices, attention := (t.ports.get l).attention }

/-- What the sampling of the inputs leaves of a part without orders: reports, detectors and the warning. -/
structure Sampled (s t : State) : Prop where
  only : t = { s with
    islands := t.islands, tanks := t.tanks, shut := t.shut, ports := t.ports
    supply := { s.supply with state := t.supply.state, warning := t.supply.warning } }
  ports : PortsKept s t

section
variable {s t u : State}

theorem PortsKept.refl (s : State) : PortsKept s s := fun _ => rfl

theorem PortsKept.trans (h : PortsKept s t) (h' : PortsKept t u) : PortsKept s u := fun l => by rw [h' l, h l]

theorem raised_kept (ns : List Notice) : ∀ s : State, PortsKept s { s with ports := raised s ns } := by
  induction ns with
  | nil => exact PortsKept.refl
  | cons n ns ih =>
    intro s
    have hone : PortsKept s { s with ports := raised s [n] } := by
      intro l
      have hport : (raised s [n]).get l = _ := s.raise_port n l
      dsimp only
      rw [hport]
      split <;> rfl
    have hall : raised s (n :: ns) = raised { s with ports := raised s [n] } ns := by
      rw [← List.singleton_append, raised_append]
    rw [hall]
    exact hone.trans (ih _)

theorem Sampled.refl (s : State) : Sampled s s := ⟨rfl, PortsKept.refl s⟩

theorem Sampled.trans (h : Sampled s t) (h' : Sampled t u) : Sampled s u :=
  ⟨by rw [h'.only, h.only], h.ports.trans h'.ports⟩

theorem Sampled.idle (h : Sampled s t) (hi : Idle s) : Idle t := hi.congr (by rw [h.only]) (by rw [h.only])

/-- A report that is taken, or not, at start-up (R171). -/
theorem Idle.startUpReport (h : Idle s) (b : Bool) (r : Report) :
    Sampled s (s.startUpReport b r) ∧ (s.startUpReport b r).tanks = s.tanks ∧ (b = false → s.startUpReport b r = s) := by
  cases b with
  | false => exact ⟨Sampled.refl s, rfl, fun _ => rfl⟩
  | true =>
    obtain ⟨ns, he⟩ := h.applyReport r
    refine ⟨?_, (congrArg State.tanks he :), nofun⟩
    change Sampled s (s.applyReport r)
    generalize s.applyReport r = v at he
    have hk := raised_kept ns s
    rw [he]
    exact ⟨rfl, hk⟩

theorem Idle.sampleIsland (h : Idle s) (i : IslandNo) : Sampled s (s.sampleIsland i) ∧ (s.sampleIsland i).tanks = s.tanks
    ∧ (s.pins.floats.get i = false → (s.sampleIsland i).shut = s.shut) := by
  obtain ⟨x, hx⟩ : ∃ x, (if s.pins.detectors.get i then s.detectorOn i else s) = { s with islands := x } := by
    split
    · exact h.detectorOn i
    · exact ⟨s.islands, rfl⟩
  have hs : s.sampleIsland i = State.startUpReport
      { s with islands := Table.modify x i fun k => { k with float := s.pins.floats.get i } } (s.pins.floats.get i) (.sumpHigh i) := by
    rw [State.sampleIsland, hx]
    rfl
  generalize hb : ({ s with islands := Table.modify x i fun k => { k with float := s.pins.floats.get i } } : State) = b at hs
  have hsb : Sampled s b := by rw [← hb]; exact ⟨rfl, PortsKept.refl s⟩
  obtain ⟨h₁, h₂, h₃⟩ := (hsb.idle h).startUpReport (s.pins.floats.get i) (.sumpHigh i)
  rw [hs]
  refine ⟨hsb.trans h₁, h₂.trans (by rw [← hb]), fun hf => ?_⟩
  rw [h₃ hf, ← hb]

theorem Idle.sampleTank (h : Idle s) (k : TankNo) : Sampled s (s.sampleTank k)
    ∧ (s.sampleTank k).tanks = s.tanks.modify k (fun x => { x with probe := s.pins.probes.get k })
    ∧ (s.pins.probes.get k = false → (s.sampleTank k).shut = s.shut) := by
  generalize hb : s.modTank k (fun x => { x with probe := s.pins.probes.get k }) = b
  have hs : s.sampleTank k = b.startUpReport (s.pins.probes.get k) (.overfill k) := by
    rw [State.sampleTank, hb, ← hb]
    rfl
  have hsb : Sampled s b := by rw [← hb]; exact ⟨rfl, PortsKept.refl s⟩
  obtain ⟨h₁, h₂, h₃⟩ := (hsb.idle h).startUpReport (s.pins.probes.get k) (.overfill k)
  rw [hs]
  refine ⟨hsb.trans h₁, h₂.trans (by rw [← hb]; rfl), fun hf => ?_⟩
  rw [h₃ hf, ← hb]
  rfl

theorem Idle.sampleStop (h : Idle s) : Sampled s s.sampleStop ∧ s.sampleStop.tanks = s.tanks
    ∧ (s.pins.stop = false → s.sampleStop.shut.map = s.shut.map) := by
  generalize hb : s.modShut (fun u => { u with stop := s.pins.stop }) = b
  have hs : s.sampleStop = b.startUpReport s.pins.stop (.bayStop none) := by
    rw [State.sampleStop, hb, ← hb]
    rfl
  have hsb : Sampled s b := by rw [← hb]; exact ⟨rfl, PortsKept.refl s⟩
  obtain ⟨h₁, h₂, h₃⟩ := (hsb.idle h).startUpReport s.pins.stop (.bayStop none)
  rw [hs]
  refine ⟨hsb.trans h₁, h₂.trans (by rw [← hb]; rfl), fun hf => ?_⟩
  rw [h₃ hf, ← hb]
  rfl

theorem Idle.sampleWarning (h : Idle s) : Sampled s s.sampleWarning ∧ s.sampleWarning.tanks = s.tanks
    ∧ s.sampleWarning.shut = s.shut := by
  unfold State.sampleWarning
  split
  · rw [h.warnOn]
    exact ⟨⟨rfl, PortsKept.refl s⟩, rfl, rfl⟩
  · exact ⟨⟨rfl, PortsKept.refl s⟩, rfl, rfl⟩

end

end Sys2Proof.Machine
end

section
/-! SUPPORT. The field state, and the end of a start-up (R110, R160, R172, R196, R198). -/

namespace Sys2Proof.Machine

open Sys2Proof.Safety

section
variable {s : State}

theorem NoticeKind.index_ne_restart {k : NoticeKind} (h : k ≠ .restart) : k.index ≠ NoticeKind.restart.index := by
  revert h
  cases k <;> decide

/-- The notice sets are emptied (R196, stage 9). -/
theorem State.emptyNotices_eq (s : State) : s.emptyNotices = { s with ports := s.emptyNotices.ports }
    ∧ ∀ l, s.emptyNotices.ports.get l = (s.ports.get l).withNotices (s.cfg.links.get l).attention Port.noNotices := by
  have key := foldl_taken (fun (t : State) (l : Link) => t.modPort l fun p =>
      p.withNotices (t.cfg.links.get l).attention Port.noNotices)
    (fun ls t => t = { s with ports := t.ports } ∧ ∀ l, t.ports.get l = if l ∈ ls then
      (s.ports.get l).withNotices (s.cfg.links.get l).attention Port.noNotices else s.ports.get l)
    (b := s) ⟨rfl, fun l => by simp⟩ (fun ls a t ⟨ht, hp⟩ => by
      have hcfg : t.cfg = s.cfg := by rw [ht]
      refine ⟨by rw [ht]; rfl, fun l => ?_⟩
      refine (Table.modify_get ..).trans ?_
      by_cases hl : l = a
      · subst hl
        rw [if_pos rfl, if_pos (by simp), hp, hcfg]
        split <;> rfl
      · rw [if_neg hl, hp]
        exact if_congr (by simp [hl]) rfl rfl) allLinks
  exact ⟨key.1, fun l => (key.2 l).trans (if_pos (List.mem_finRange l))⟩

theorem roleReceives_restart (r : Role) : roleReceives r .restart = true := by cases r <;> decide

/-- Stages 9 and 10, when no end report is left to be taken. -/
structure Finished (s t : State) (reason : RestartReason) : Prop where
  only : t = { s with
    supply := { s.supply with reason := reason }, shut := { s.shut with relay := t.shut.relay, pumps := t.shut.pumps }
    ports := t.ports }
  relay : t.shut.relay = true ↔ t.entryAt .bay = none
  ports : PortsKept s t
  notices : ∀ l, (∀ k : NoticeKind, k ≠ .restart → (t.ports.get l).notices.get k.index = none)
    ∧ (inMask (t.cfg.links.get l).record .restart = true →
        ∃ e, (t.ports.get l).notices.get NoticeKind.restart.index = some e ∧ e.count = 1
          ∧ e.restart = some (reason, s.supply.defaulted))

theorem State.finishStartUp_finished (hends : s.ends = []) (reason : RestartReason) :
    Finished s (s.finishStartUp reason) reason := by
  obtain ⟨he, hports⟩ := s.emptyNotices_eq
  generalize hn : s.emptyNotices = m at he hports
  generalize hb : ({ s with
    supply := { s.supply with reason := reason }, shut := m.alignOutputs.shut, ports := m.ports } : State) = b
  have hfin : s.finishStartUp reason = b.raise ⟨.restart, none, none, some (reason, s.supply.defaulted)⟩ := by
    have hms : m.alignOutputs.modSupply (fun u => { u with reason := reason }) = b := by
      rw [State.alignOutputs_eq, ← hb]
      generalize m.alignOutputs.shut = sh
      rw [he]
      rfl
    have hsup : m.alignOutputs.supply = s.supply := by rw [State.alignOutputs_eq, he]
    rw [State.finishStartUp, State.drain_of_nil hends, hn]
    rw [hms, ← hb]
  have hcfg : b.cfg = s.cfg := by rw [← hb]
  have hport (l : Link) : (b.raise ⟨.restart, none, none, some (reason, s.supply.defaulted)⟩).ports.get l = _ := b.raise_port _ l
  have hbp (l : Link) : b.ports.get l = (s.ports.get l).withNotices (s.cfg.links.get l).attention Port.noNotices := by
    rw [← hb]; exact hports l
  have hnone (l : Link) (k : NoticeKind) : (b.ports.get l).notices.get k.index = none := by
    rw [hbp]
    exact Vector.getElem_replicate ..
  have hraise : b.raise ⟨.restart, none, none, some (reason, s.supply.defaulted)⟩ = { b with
      ports := (b.raise ⟨.restart, none, none, some (reason, s.supply.defaulted)⟩).ports } := State.raise_eq_ports b _
  rw [hfin]
  generalize b.raise ⟨.restart, none, none, some (reason, s.supply.defaulted)⟩ = t at hport hraise
  obtain ⟨hrelay, hr, -⟩ := State.alignOutputs_follow (s := m) (u := m) rfl
  have hshut : t.shut = m.alignOutputs.shut := by rw [hraise, ← hb]
  have hms : m.shut = s.shut := by rw [he]
  refine ⟨?_, ?_, fun l => ?_, fun l => ⟨fun k hk => ?_, fun hm => ?_⟩⟩
  · have hsh : t.shut = { s.shut with relay := t.shut.relay, pumps := t.shut.pumps } := by rw [hshut, hrelay, hms]
    generalize t.shut = sh at hsh hshut
    rw [hraise, ← hb, ← hshut, ← hsh]
  · rw [State.entryAt, hshut]
    exact hr
  · rw [hport]
    split <;> rw [hbp] <;> rfl
  · rw [hport]
    split
    · exact (Table.modify_of_ne _ _ (NoticeKind.index_ne_restart hk)).trans (hnone l k)
    · exact hnone l k
  · have htc : t.cfg = s.cfg := by rw [hraise, hcfg]
    rw [htc] at hm
    rw [hport, hcfg, roleReceives_restart, hm]
    exact ⟨_, (Table.modify_self ..).trans (by rw [hnone]), rfl, rfl⟩

end

end Sys2Proof.Machine
end

section
/-! SUPPORT. The later actions of a start-up one at a time, and as far as it goes (R193, R196). -/

namespace Sys2Proof.Machine

open Sys2Proof.Safety

theorem Table.get_map {α β : Type} {n : Nat} (v : Table α n) (f : α → β) (i : Fin n) :
    Vector.get (Vector.map f v) i = f (v.get i) := by simp [Vector.get_eq_getElem]

theorem Table.get_ofFn {α : Type} {n : Nat} (f : Fin n → α) (i : Fin n) : Vector.get (Vector.ofFn f) i = f i := by
  simp [Vector.get_eq_getElem]

theorem Table.get_replicate {α : Type} {n : Nat} (x : α) (i : Fin n) : Vector.get (Vector.replicate n x) i = x := by
  simp [Vector.get_eq_getElem]

/-- The inputs that a start-up samples are negated. -/
structure Negated (p : Pins) : Prop where
  stop : p.stop = false
  warning : p.warning = false
  islands : ∀ i, p.detectors.get i = false ∧ p.floats.get i = false
  probes : ∀ k, p.probes.get k = false

/-- An action of the stages 5 to 8. -/
def IsLate : StartAction → Prop
  | .defaultTank _ | .reportLost | .fieldState | .sampleCouplings | .sampleIsland _ | .sampleTank _ | .sampleStop
  | .sampleWarning => True
  | .endStep _ | .endOrder _ | .load _ | .restore | .lose | .finish _ => False

/-- What such actions leave as it was. -/
structure Later (s t : State) : Prop where
  only : t = { s with
    hoses := t.hoses, islands := t.islands, tanks := t.tanks, journal := t.journal, shut := t.shut, ports := t.ports
    reports := t.reports, ends := []
    supply := { s.supply with state := t.supply.state, warning := t.supply.warning } }
  valves : (∀ h, (s.hoses.get h).valve = .closed) → ∀ h, (t.hoses.get h).valve = .closed

section
variable {s t u : State} {a : StartAction}

theorem Later.refl (h : s.ends = []) : Later s s := ⟨by rw [← h], id⟩

theorem Later.trans (h : Later s t) (h' : Later t u) : Later s u :=
  ⟨by rw [h'.only, h.only], fun hs => h'.valves (h.valves hs)⟩

theorem Sampled.later (h : Sampled s t) (he : s.ends = []) : Later s t :=
  ⟨by rw [h.only, ← he], fun hs => by rw [h.only]; exact hs⟩

/-- A channel when the field state begins (R29). -/
theorem State.stageSeven_hose (s : State) (h : HoseNo) :
    s.stageSeven.hoses.get h = { Channel.initial with step := (s.hoses.get h).step } := Table.get_map ..

theorem State.sampleCouplings_hose (s : State) (h : HoseNo) :
    s.sampleCouplings.hoses.get h = { s.hoses.get h with coupled := s.pins.coupling.get h } := Table.get_ofFn ..

/-- The sampling of negated inputs. -/
theorem State.sampleIsland_negated (hn : Negated s.pins) (i : IslandNo) :
    s.sampleIsland i = s.modIsland i fun k => { k with float := false } := by
  obtain ⟨hd, hf⟩ := hn.islands i
  rw [State.sampleIsland, hd]
  simp only [Bool.false_eq_true, if_false]
  change State.startUpReport _ (s.pins.floats.get i) _ = _
  rw [hf]
  rfl

theorem State.sampleTank_negated (hn : Negated s.pins) (k : TankNo) :
    s.sampleTank k = s.modTank k fun x => { x with probe := false } := by
  rw [State.sampleTank, hn.probes k]
  change State.startUpReport _ (s.pins.probes.get k) _ = _
  rw [hn.probes k]
  rfl

theorem State.sampleStop_negated (hn : Negated s.pins) : s.sampleStop = s.modShut fun u => { u with stop := false } := by
  rw [State.sampleStop, hn.stop]
  change State.startUpReport _ s.pins.stop _ = _
  rw [hn.stop]
  rfl

theorem State.sampleWarning_negated (hn : Negated s.pins) :
    s.sampleWarning = { s with supply := { s.supply with state := .normal, warning := false } } := by
  rw [State.sampleWarning, hn.warning]
  rfl

/-- A later action at a part without orders, or at one whose inputs are negated. -/
theorem State.startAction_later (ha : IsLate a) (he : s.ends = []) (hs : Idle s ∨ Negated s.pins ∧ a ≠ .reportLost) :
    Later s (s.startAction a) := by
  cases a with
  | defaultTank k =>
    obtain ⟨m, p, hd, -⟩ := s.defaultTank_eq k
    refine ⟨?_, fun h => ?_⟩ <;> rw [State.startAction, hd]
    · rw [← he]
    · exact h
  | reportLost =>
    rcases hs with hs | ⟨-, hs⟩
    · obtain ⟨ns, hr⟩ := hs.applyReport .storeLost
      rw [State.startAction]
      generalize s.applyReport .storeLost = v at hr
      refine ⟨?_, fun h => ?_⟩ <;> rw [hr]
      · rw [← he]
      · exact h
    · exact absurd rfl hs
  | fieldState => exact ⟨rfl, fun _ h => congrArg Channel.valve (s.stageSeven_hose h)⟩
  | sampleCouplings =>
    refine ⟨?_, fun hv h => (congrArg Channel.valve (s.sampleCouplings_hose h)).trans (hv h)⟩
    rw [← he]
    rfl
  | sampleIsland i =>
    rcases hs with hs | ⟨hs, -⟩
    · exact (hs.sampleIsland i).1.later he
    · rw [State.startAction, State.sampleIsland_negated hs]
      exact ⟨by rw [← he]; rfl, id⟩
  | sampleTank k =>
    rcases hs with hs | ⟨hs, -⟩
    · exact (hs.sampleTank k).1.later he
    · rw [State.startAction, State.sampleTank_negated hs]
      exact ⟨by rw [← he]; rfl, id⟩
  | sampleStop =>
    rcases hs with hs | ⟨hs, -⟩
    · exact hs.sampleStop.1.later he
    · rw [State.startAction, State.sampleStop_negated hs]
      exact ⟨by rw [← he]; rfl, id⟩
  | sampleWarning =>
    rcases hs with hs | ⟨hs, -⟩
    · exact hs.sampleWarning.1.later he
    · rw [State.startAction, State.sampleWarning_negated hs]
      exact ⟨by rw [← he], id⟩
  | endStep | endOrder | load | restore | lose | finish => exact ha.elim

/-- The map of the shutdown unit is kept by every later action but the report of a lost store, while the inputs are negated. -/
theorem State.startAction_map (ha : IsLate a) (hl : a ≠ .reportLost) (hs : Negated s.pins) :
    (s.startAction a).shut.map = s.shut.map := by
  cases a with
  | defaultTank k =>
    obtain ⟨m, p, hd, -⟩ := s.defaultTank_eq k
    rw [State.startAction, hd]
  | reportLost => exact absurd rfl hl
  | fieldState => rfl
  | sampleCouplings => rfl
  | sampleIsland i => rw [State.startAction, State.sampleIsland_negated hs]; rfl
  | sampleTank k => rw [State.startAction, State.sampleTank_negated hs]; rfl
  | sampleStop => rw [State.startAction, State.sampleStop_negated hs]; rfl
  | sampleWarning => rw [State.startAction, State.sampleWarning_negated hs]
  | endStep | endOrder | load | restore | lose | finish => exact ha.elim

theorem State.later_fold (he : s.ends = []) (l : List StartAction) (hl : ∀ a ∈ l, IsLate a)
    (hs : Idle s ∨ Negated s.pins ∧ .reportLost ∉ l) : Later s (l.foldl State.startAction s) := by
  induction l generalizing s with
  | nil => exact Later.refl he
  | cons a l ih =>
    have hstep : Later s (s.startAction a) := State.startAction_later (hl a (List.mem_cons_self ..)) he
      (hs.imp_right fun ⟨hn, h⟩ => ⟨hn, fun e => h (e ▸ List.mem_cons_self ..)⟩)
    refine hstep.trans (ih (by rw [hstep.only]) (fun b hb => hl b (List.mem_cons_of_mem _ hb)) ?_)
    rcases hs with hs | ⟨hn, h⟩
    · exact .inl (hs.congr (by rw [hstep.only]) (by rw [hstep.only, he]))
    · exact .inr ⟨by rw [hstep.only]; exact hn, fun hm => h (List.mem_cons_of_mem _ hm)⟩

theorem State.later_fold_map (l : List StartAction) (hl : ∀ a ∈ l, IsLate a) (he : s.ends = []) (hs : Negated s.pins)
    (hr : .reportLost ∉ l) : (l.foldl State.startAction s).shut.map = s.shut.map := by
  induction l generalizing s with
  | nil => rfl
  | cons a l ih =>
    have hne : a ≠ .reportLost := fun e => hr (e ▸ List.mem_cons_self ..)
    have ha := hl a (List.mem_cons_self ..)
    have hstep := State.startAction_later ha he (.inr ⟨hs, hne⟩)
    have hpins : Negated (s.startAction a).pins := by rw [hstep.only]; exact hs
    exact (ih (fun b hb => hl b (List.mem_cons_of_mem _ hb)) (by rw [hstep.only]) hpins
      fun hm => hr (List.mem_cons_of_mem _ hm)).trans (State.startAction_map ha hne hs)

/-! ## The last action -/

/-- The later actions of a start-up but the one that completes it. -/
def lateActions (reason : RestartReason) : List StartAction :=
  allTanks.map .defaultTank ++ (if reason = .powerOnLost then [.reportLost] else []) ++ [.fieldState, .sampleCouplings]
    ++ allIslands.map .sampleIsland ++ allTanks.map .sampleTank ++ [.sampleStop, .sampleWarning]

theorem laterActions_eq (reason : RestartReason) : laterActions reason = lateActions reason ++ [.finish reason] := by
  simp [laterActions, lateActions]

theorem isLate_lateActions {reason : RestartReason} {a : StartAction} (h : a ∈ lateActions reason) : IsLate a := by
  simp only [lateActions, List.mem_append, List.mem_map, List.mem_cons, List.not_mem_nil, or_false] at h
  rcases h with ((((⟨k, -, rfl⟩ | h) | rfl | rfl) | ⟨i, -, rfl⟩) | ⟨k, -, rfl⟩) | rfl | rfl
  · trivial
  · split at h
    · cases List.mem_singleton.mp h; trivial
    · cases h
  · trivial
  · trivial
  · trivial
  · trivial
  · trivial
  · trivial

theorem reportLost_mem {reason : RestartReason} (h : .reportLost ∈ lateActions reason) : reason = .powerOnLost := by
  by_contra hr
  simp [lateActions, hr] at h

end

end Sys2Proof.Machine
end

section
/-! SUPPORT. The stages 5 to 10 of a start-up that is completed (R110, R160, R172, R196). -/

namespace Sys2Proof.Machine

open Sys2Proof.Safety

/-- Stage 7, and the coupling switches of stage 8 (R29, R196). -/
def State.fieldBegun (s : State) : State := s.stageSeven.sampleCouplings

/-- The other inputs of stage 8 (R196). -/
def State.inputsSampled (s : State) : State :=
  (allTanks.foldl State.sampleTank (allIslands.foldl State.sampleIsland s)).sampleStop.sampleWarning

theorem State.laterActions_fold (s : State) (reason : RestartReason) : (laterActions reason).foldl State.startAction s =
    (State.inputsSampled (State.fieldBegun (if reason = .powerOnLost then
      State.applyReport (allTanks.foldl State.defaultTank s) .storeLost else allTanks.foldl State.defaultTank s))).finishStartUp
      reason := by
  have hmap {α : Type} (f : α → StartAction) (g : State → α → State) (hg : ∀ s a, s.startAction (f a) = g s a) (l : List α)
      (s : State) : (l.map f).foldl State.startAction s = l.foldl g s := by
    rw [List.foldl_map]
    exact congrArg (fun g => List.foldl g s l) (funext fun s => funext fun a => hg s a)
  simp only [laterActions, List.foldl_append, hmap StartAction.defaultTank State.defaultTank fun _ _ => rfl,
    hmap StartAction.sampleIsland State.sampleIsland fun _ _ => rfl,
    hmap StartAction.sampleTank State.sampleTank fun _ _ => rfl]
  unfold State.inputsSampled
  generalize allTanks = tanks
  generalize allIslands = islands
  split <;> rfl

section
variable {s : State}

theorem State.fieldBegun_hose (s : State) (h : HoseNo) : s.fieldBegun.hoses.get h = { Channel.initial with
    step := (s.hoses.get h).step, coupled := s.pins.coupling.get h } := by
  refine (s.stageSeven.sampleCouplings_hose h).trans ?_
  rw [s.stageSeven_hose]
  rfl

theorem State.fieldBegun_island (s : State) (i : IslandNo) :
    s.fieldBegun.islands.get i = { Island.initial with lastSeq := (s.islands.get i).lastSeq } := Table.get_map ..

theorem State.fieldBegun_tank (s : State) (k : TankNo) :
    s.fieldBegun.tanks.get k = (s.tanks.get k).restarted (s.isStrapped k) (s.cfg.tanks.get k) := Table.get_ofFn ..

theorem State.fieldBegun_port (s : State) (l : Link) : s.fieldBegun.ports.get l = Port.initial := Table.get_replicate ..

theorem Tank.restarted_probe (strapped : Bool) (c : TankCfg) (k : Tank) : (k.restarted strapped c).probe = false := by
  rw [Tank.restarted_of (TankDefaulted.refl k)]
  rfl

/-- Negated inputs at a part whose field state has begun: the supply state and the warning alone are taken. -/
theorem State.inputsSampled_negated (hn : Negated s.pins) (hi : ∀ i, (s.islands.get i).float = false)
    (hk : ∀ k, (s.tanks.get k).probe = false) (hs : s.shut.stop = false) :
    s.inputsSampled = { s with supply := { s.supply with state := .normal, warning := false } } := by
  have hislands : allIslands.foldl State.sampleIsland s = s := foldl_same _ _ _ fun i _ => by
    rw [State.sampleIsland_negated hn, State.modIsland, Table.modify_id _ _ (by rw [← hi i])]
  have htanks : allTanks.foldl State.sampleTank s = s := foldl_same _ _ _ fun k _ => by
    rw [State.sampleTank_negated hn, State.modTank, Table.modify_id _ _ (by rw [← hk k])]
  have hstop : s.sampleStop = s := by
    rw [State.sampleStop_negated hn, State.modShut, ← hs]
  rw [State.inputsSampled, hislands, htanks, hstop, State.sampleWarning_negated hn]

/-- The inputs at a part without orders. -/
theorem Idle.inputsSampled (h : Idle s) : Sampled s s.inputsSampled
    ∧ (∀ k, s.inputsSampled.tanks.get k = { s.tanks.get k with probe := s.pins.probes.get k })
    ∧ (s.pins.stop = false → (∀ i, s.pins.floats.get i = false) → (∀ k, s.pins.probes.get k = false) →
        s.inputsSampled.shut.map = s.shut.map) := by
  have hislands := foldl_taken State.sampleIsland (fun _ t => Sampled s t ∧ t.tanks = s.tanks
      ∧ ((∀ i, s.pins.floats.get i = false) → t.shut = s.shut)) (b := s) ⟨Sampled.refl s, rfl, fun _ => rfl⟩
    (fun _ a t ⟨ht, hk, hm⟩ => by
      obtain ⟨h₁, h₂, h₃⟩ := (ht.idle h).sampleIsland a
      exact ⟨ht.trans h₁, h₂.trans hk, fun hf => (h₃ (by rw [ht.only]; exact hf a)).trans (hm hf)⟩) allIslands
  rw [State.inputsSampled]
  generalize allIslands.foldl State.sampleIsland s = a at hislands
  obtain ⟨ha, hak, ham⟩ := hislands
  have htanks := foldl_taken State.sampleTank (fun l t => Sampled s t
      ∧ (∀ k, t.tanks.get k = if k ∈ l then { s.tanks.get k with probe := s.pins.probes.get k } else s.tanks.get k)
      ∧ ((∀ i, s.pins.floats.get i = false) → (∀ k, s.pins.probes.get k = false) → t.shut = s.shut)) (b := a)
    ⟨ha, fun k => by simp [hak], fun hf _ => ham hf⟩
    (fun l k t ⟨ht, hk, hm⟩ => by
      obtain ⟨h₁, h₂, h₃⟩ := (ht.idle h).sampleTank k
      have hpins : t.pins = s.pins := by rw [ht.only]
      refine ⟨ht.trans h₁, fun j => ?_, fun hf hp => (h₃ (by rw [hpins]; exact hp k)).trans (hm hf hp)⟩
      rw [h₂, Table.modify_get, hpins]
      by_cases hj : j = k
      · subst hj
        rw [if_pos rfl, if_pos (by simp), hk]
        split <;> rfl
      · rw [if_neg hj, hk]
        exact if_congr (by simp [hj]) rfl rfl) allTanks
  generalize allTanks.foldl State.sampleTank a = b at htanks
  obtain ⟨hb, hbk, hbm⟩ := htanks
  obtain ⟨hc, hck, hcm⟩ := (hb.idle h).sampleStop
  obtain ⟨hd, hdk, hdm⟩ := (hc.idle (hb.idle h)).sampleWarning
  refine ⟨hb.trans (hc.trans hd), fun k => ?_, fun hs hf hp => ?_⟩
  · rw [hdk, hck, hbk, if_pos (show k ∈ allTanks from List.mem_finRange k)]
  · rw [hdm, hcm (by rw [hb.only]; exact hs), hbm hf hp]

end

/-- What a start-up whose stages 5 and 6 leave `x` comes to. -/
structure Begun (x t : State) (reason : RestartReason) : Prop where
  only : t = { x with
    hoses := t.hoses, islands := t.islands, tanks := t.tanks, ports := t.ports, shut := t.shut, reports := [], ends := []
    supply := { x.supply with state := t.supply.state, warning := t.supply.warning, reason := reason } }
  hose : ∀ h, t.hoses.get h = { Channel.initial with step := (x.hoses.get h).step, coupled := x.pins.coupling.get h }
  tank : ∀ k, t.tanks.get k = { (x.tanks.get k).restarted (x.isStrapped k) (x.cfg.tanks.get k) with
    probe := x.pins.probes.get k }
  relay : t.shut.relay = true ↔ t.entryAt .bay = none
  ports : ∀ l, (t.ports.get l).queue = [] ∧ (t.ports.get l).frameErrors = 0
    ∧ (∀ k : NoticeKind, k ≠ .restart → (t.ports.get l).notices.get k.index = none)
    ∧ (inMask (t.cfg.links.get l).record .restart = true →
        ∃ e, (t.ports.get l).notices.get NoticeKind.restart.index = some e ∧ e.count = 1
          ∧ e.restart = some (reason, x.supply.defaulted))
  map : x.pins.stop = false → (∀ i, x.pins.floats.get i = false) → (∀ k, x.pins.probes.get k = false) →
    t.shut.map = x.shut.map
  negated : Negated x.pins → t.supply.state = .normal ∧ t.supply.warning = false
    ∧ ∀ i, t.islands.get i = { Island.initial with lastSeq := (x.islands.get i).lastSeq }

theorem State.begun {x : State} (h : Idle x ∨ Negated x.pins) (reason : RestartReason) :
    Begun x (x.fieldBegun.inputsSampled.finishStartUp reason) reason := by
  -- the field state and the inputs
  obtain ⟨hs, htank, hmap, hneg⟩ : Sampled x.fieldBegun x.fieldBegun.inputsSampled
      ∧ (∀ k, x.fieldBegun.inputsSampled.tanks.get k = { x.fieldBegun.tanks.get k with probe := x.pins.probes.get k })
      ∧ (x.pins.stop = false → (∀ i, x.pins.floats.get i = false) → (∀ k, x.pins.probes.get k = false) →
          x.fieldBegun.inputsSampled.shut.map = x.shut.map)
      ∧ (Negated x.pins → x.fieldBegun.inputsSampled.supply.state = .normal ∧ x.fieldBegun.inputsSampled.supply.warning = false
          ∧ x.fieldBegun.inputsSampled.islands = x.fieldBegun.islands) := by
    by_cases hn : Negated x.pins
    · have hprobe (k : TankNo) : (x.fieldBegun.tanks.get k).probe = false := by
        rw [x.fieldBegun_tank]; exact Tank.restarted_probe ..
      rw [State.inputsSampled_negated (s := x.fieldBegun) hn (fun i => by rw [x.fieldBegun_island]; rfl) hprobe rfl]
      refine ⟨⟨rfl, PortsKept.refl _⟩, fun k => ?_, fun _ _ _ => rfl, fun _ => ⟨rfl, rfl, rfl⟩⟩
      rw [hn.probes k, ← hprobe k]
    · have hi : Idle x.fieldBegun := (h.resolve_right hn).congr rfl (h.resolve_right hn).2.symm
      obtain ⟨h₁, h₂, h₃⟩ := hi.inputsSampled
      exact ⟨h₁, h₂, h₃, fun e => absurd e hn⟩
  generalize x.fieldBegun.inputsSampled = y at hs htank hmap hneg
  have hfe : x.fieldBegun = { x with
      hoses := x.fieldBegun.hoses, islands := x.fieldBegun.islands, tanks := x.fieldBegun.tanks
      ports := x.fieldBegun.ports, shut := x.fieldBegun.shut, reports := [], ends := [] } := rfl
  have hhose := x.fieldBegun_hose
  have hisland := x.fieldBegun_island
  have hftank := x.fieldBegun_tank
  have hport := x.fieldBegun_port
  generalize x.fieldBegun = f at hs htank hneg hfe hhose hisland hftank hport
  -- the end of the start-up
  have hends : y.ends = [] := by rw [hs.only, hfe]
  have hfin := State.finishStartUp_finished hends reason
  generalize y.finishStartUp reason = t at hfin
  have hkept (l : Link) : t.ports.get l = { Port.initial with
      notices := (t.ports.get l).notices, attention := (t.ports.get l).attention } := by
    have := (hs.ports.trans hfin.ports) l
    rw [hport] at this
    exact this
  have hydef : y.supply.defaulted = x.supply.defaulted := by rw [hs.only, hfe]
  have hth : t.hoses = f.hoses := by rw [hfin.only, hs.only]
  have htt : t.tanks = y.tanks := by rw [hfin.only]
  have hti : t.islands = y.islands := by rw [hfin.only]
  have htm : t.shut.map = y.shut.map := by rw [hfin.only]
  have hts : t.supply = { y.supply with reason := reason } := by rw [hfin.only]
  refine ⟨?_, fun h => by rw [hth]; exact hhose h, fun k => ?_, hfin.relay, fun l => ?_, fun h₁ h₂ h₃ => ?_, fun hn => ?_⟩
  · have hsup : t.supply = { x.supply with
        state := t.supply.state, warning := t.supply.warning, reason := reason } := by
      rw [hts, hs.only, hfe]
    rw [← hsup]
    have h₁ := hfin.only
    have h₂ := hs.only
    rw [← hts] at h₁
    generalize t.supply = p at h₁
    have h₃ : t = { y with supply := p, shut := t.shut, ports := t.ports } := by
      generalize ht : t = t' at h₁
      rw [h₁]
    rw [h₃, h₂, hfe]
  · rw [htt, htank, hftank]
  · obtain ⟨h₁, h₂⟩ := hfin.notices l
    rw [hydef] at h₂
    refine ⟨?_, ?_, h₁, h₂⟩ <;> rw [hkept] <;> rfl
  · rw [htm, hmap h₁ h₂ h₃]
  · obtain ⟨h₁, h₂, h₃⟩ := hneg hn
    refine ⟨by rw [hts]; exact h₁, by rw [hts]; exact h₂, fun i => ?_⟩
    rw [hti, h₃]
    exact hisland i

end Sys2Proof.Machine
end

section
/-! SUPPORT. Stage 4 of a start-up that has kept the retained content: the orders, the channels and the hoses in use (R27, R29, R72,
R189). -/

namespace Sys2Proof.Machine

open Sys2Proof.Safety

section
variable {s : State}

/-! ## A step that is restored (R27, R72) -/

theorem Step.restored_eq (st : Step) : st.restored = restoredStep st := by
  unfold Step.restored restoredStep Step.restoredSource
  by_cases hf : InFlight st
  · have hs : st.isStarted = true := (Step.isStarted_iff st).mpr hf
    rw [if_pos hs, if_pos hf, st.closingNet_eq, hs, Bool.true_and]
    simp only [decide_eq_true_iff]
  · rw [if_neg (fun e => hf ((Step.isStarted_iff st).mp e)), if_neg hf]

@[simp] theorem restoredStep_hose (st : Step) : (restoredStep st).hose = st.hose := by unfold restoredStep; split <;> rfl

@[simp] theorem restoredStep_ctx (st : Step) : (restoredStep st).ctx = st.ctx := by unfold restoredStep; split <;> rfl

theorem restoredStep_inFlight (st : Step) : InFlight (restoredStep st) ↔ InFlight st := by
  unfold restoredStep
  split
  · next hf =>
    refine iff_of_true ?_ hf
    by_cases hw : st.state = .waitingCouple <;> simp [hw, InFlight]
  · exact Iff.rfl

@[simp] theorem restoredStep_isLive (st : Step) : (restoredStep st).isLive = st.isLive := by
  unfold restoredStep
  split
  · next hf =>
    rw [st.isLive_iff.mpr hf.2, Step.isLive_iff]
    by_cases hw : st.state = .waitingCouple <;> simp [hw]
  · rfl

theorem Order.restored_eq (o : Order) : o.restored = { o with
    state := .held, hold := some .power, steps := o.steps.map restoredStep } := by
  have : (Step.restored : Step → Step) = restoredStep := funext Step.restored_eq
  rw [Order.restored, this]
  rfl

theorem hasStep_restored {t : State} (ht : t.orders = s.orders.map (Option.map Order.restored)) {q : StepRef} {w : Step} :
    HasStep t q w ↔ ∃ st, HasStep s q st ∧ w = restoredStep st := by
  unfold HasStep
  rw [ht, Table.get_map]
  constructor
  · rintro ⟨o, ho, hw⟩
    obtain ⟨p, hp, rfl⟩ := Option.map_eq_some_iff.mp ho
    rw [Order.restored_eq, List.getElem?_map] at hw
    obtain ⟨st, hst, rfl⟩ := Option.map_eq_some_iff.mp hw
    exact ⟨st, ⟨p, hp, hst⟩, rfl⟩
  · rintro ⟨st, ⟨p, hp, hst⟩, rfl⟩
    refine ⟨p.restored, by rw [hp]; rfl, ?_⟩
    rw [Order.restored_eq, List.getElem?_map, hst]
    rfl

/-! ## The channels take the restored steps (R29) -/

theorem State.restoredRef_of (hu : ∀ r st q w, HasStep s r st → InFlight st → HasStep s q w → InFlight w → st.hose = w.hose → r = q)
    {r : StepRef} {st : Step} (hst : HasStep s r st) (hf : InFlight st) : s.restoredRef st.hose = some r := by
  have hp : (st.isStarted && decide (st.hose = st.hose)) = true := by
    rw [(Step.isStarted_iff st).mpr hf, decide_eq_true rfl]
    rfl
  unfold State.restoredRef
  cases hfind : s.allSteps.find? fun p => p.2.isStarted && decide (p.2.hose = st.hose) with
  | none => exact absurd hp (List.find?_eq_none.mp hfind (r, st) (State.mem_allSteps.mpr hst))
  | some p =>
    have hsome := List.find?_some hfind
    rw [Bool.and_eq_true, Step.isStarted_iff, decide_eq_true_iff] at hsome
    obtain ⟨hpf, hph⟩ := hsome
    rw [hu r st p.1 p.2 hst hf (State.mem_allSteps.mp (List.mem_of_find?_eq_some hfind)) hpf hph.symm]
    rfl

theorem State.restoredRef_none {h : HoseNo} (hn : ∀ r st, HasStep s r st → InFlight st → st.hose ≠ h) :
    s.restoredRef h = none := by
  unfold State.restoredRef
  cases hfind : s.allSteps.find? fun p => p.2.isStarted && decide (p.2.hose = h) with
  | none => rfl
  | some p =>
    have hsome := List.find?_some hfind
    rw [Bool.and_eq_true, Step.isStarted_iff, decide_eq_true_iff] at hsome
    obtain ⟨hpf, hph⟩ := hsome
    exact absurd hph (hn p.1 p.2 (State.mem_allSteps.mp (List.mem_of_find?_eq_some hfind)) hpf)

/-! ## The hoses in use take the steps' values (R189) -/

/-- The working configuration when some live steps have been adopted. -/
structure Adopted (s : State) (l : List (StepRef × Step)) (t : State) : Prop where
  only : t = { s with
    cfg := { s.cfg with hoses := t.cfg.hoses }, supply := { s.supply with unsaved := t.supply.unsaved } }
  hoses : ∀ h, (t.cfg.hoses.get h = s.cfg.hoses.get h ∧ ∀ p ∈ l, p.2.isLive = true → p.2.hose ≠ h)
    ∨ ∃ p ∈ l, p.2.isLive = true ∧ p.2.hose = h ∧ t.cfg.hoses.get h = adoptedCfg p.1.island p.2.ctx (s.cfg.hoses.get h)
  unsaved : t = s ∨ t.supply.unsaved = true
  same : (∀ p ∈ l, p.2.isLive = true →
    adoptedCfg p.1.island p.2.ctx (s.cfg.hoses.get p.2.hose) = s.cfg.hoses.get p.2.hose) → t = s

theorem State.adoptSteps (s : State) (l : List (StepRef × Step)) : Adopted s l (l.foldl State.adoptStep s) := by
  refine foldl_taken State.adoptStep (Adopted s)
    ⟨rfl, fun h => .inl ⟨rfl, fun p hp => absurd hp List.not_mem_nil⟩, .inl rfl, fun _ => rfl⟩ (fun p a t ht => ?_) l
  have hweak (h : HoseNo) (hn : a.2.isLive = true → a.2.hose ≠ h) :
      (t.cfg.hoses.get h = s.cfg.hoses.get h ∧ ∀ x ∈ p ++ [a], x.2.isLive = true → x.2.hose ≠ h)
      ∨ ∃ x ∈ p ++ [a], x.2.isLive = true ∧ x.2.hose = h
        ∧ t.cfg.hoses.get h = adoptedCfg x.1.island x.2.ctx (s.cfg.hoses.get h) := by
    rcases ht.hoses h with ⟨h₁, h₂⟩ | ⟨x, hx, h₂⟩
    · refine .inl ⟨h₁, fun x hx => ?_⟩
      rcases List.mem_append.mp hx with hx | hx
      · exact h₂ x hx
      · cases List.mem_singleton.mp hx
        exact hn
    · exact .inr ⟨x, List.mem_append_left _ hx, h₂⟩
  have hsub (h : ∀ x ∈ p ++ [a], x.2.isLive = true →
      adoptedCfg x.1.island x.2.ctx (s.cfg.hoses.get x.2.hose) = s.cfg.hoses.get x.2.hose) : t = s :=
    ht.same fun x hx => h x (List.mem_append_left _ hx)
  by_cases hl : a.2.isLive = true
  · have hnew : (t.cfg.hoses.get a.2.hose).forStep a.1.island a.2.ctx
        = adoptedCfg a.1.island a.2.ctx (s.cfg.hoses.get a.2.hose) := by
      rcases ht.hoses a.2.hose with ⟨h₁, -⟩ | ⟨x, -, -, -, h₁⟩ <;> rw [h₁] <;> rfl
    have hstep : t.adoptStep a = if adoptedCfg a.1.island a.2.ctx (s.cfg.hoses.get a.2.hose) = t.cfg.hoses.get a.2.hose then t
        else t.configure fun g =>
          { g with hoses := g.hoses.put a.2.hose (adoptedCfg a.1.island a.2.ctx (s.cfg.hoses.get a.2.hose)) } := by
      rw [State.adoptStep, if_pos hl, ← hnew]
    rw [hstep]
    split
    · next he =>
      refine ⟨ht.only, fun h => ?_, ht.unsaved, hsub⟩
      by_cases hh : a.2.hose = h
      · subst hh
        exact .inr ⟨a, by simp, hl, rfl, he.symm⟩
      · exact hweak h fun _ => hh
    · next he =>
      refine ⟨by rw [ht.only]; rfl, fun h => ?_, .inr rfl, fun hsame => ?_⟩
      · by_cases hh : a.2.hose = h
        · subst hh
          exact .inr ⟨a, by simp, hl, rfl, Table.put_self ..⟩
        · have hget : (t.configure fun g => { g with
              hoses := g.hoses.put a.2.hose (adoptedCfg a.1.island a.2.ctx (s.cfg.hoses.get a.2.hose)) }).cfg.hoses.get h
              = t.cfg.hoses.get h := Table.put_of_ne _ _ (Ne.symm hh)
          rw [hget]
          exact hweak h fun _ => hh
      · have hts := hsub hsame
        exact absurd (by rw [hts]; exact hsame a (by simp) hl) he
  · have hstep : t.adoptStep a = t := by rw [State.adoptStep, if_neg hl]
    rw [hstep]
    exact ⟨ht.only, fun h => hweak h fun e => absurd e hl, ht.unsaved, hsub⟩

/-! ## The stage -/

/-- Stage 4 with retention kept (R27, R29, R189). -/
structure Restored (s t : State) : Prop where
  only : t = { s with
    orders := t.orders, hoses := t.hoses, cfg := { s.cfg with hoses := t.cfg.hoses }
    supply := { s.supply with unsaved := t.supply.unsaved } }
  orders : ∀ i, t.orders.get i = (s.orders.get i).map fun o =>
    { o with state := .held, hold := some .power, steps := o.steps.map restoredStep }
  hoses : ∀ h, t.hoses.get h = { s.hoses.get h with step := (t.hoses.get h).step }
  steps : (∀ r st q w, HasStep s r st → InFlight st → HasStep s q w → InFlight w → st.hose = w.hose → r = q) →
    ∀ r st, HasStep s r st → InFlight st → (t.hoses.get st.hose).step = some r
  free : ∀ h, (∀ r st, HasStep s r st → InFlight st → st.hose ≠ h) → (t.hoses.get h).step = none
  adopted : HosesAdopted s s.cfg t.cfg
  unsaved : t.cfg = s.cfg ∧ t.supply = s.supply ∨ t.supply.unsaved = true
  same : (∀ q st, HasLive s q st → adoptedCfg q.island st.ctx (s.cfg.hoses.get st.hose) = s.cfg.hoses.get st.hose) →
    t.cfg = s.cfg ∧ t.supply = s.supply

theorem State.restoreOrders_restored (s : State) : Restored s s.restoreOrders := by
  generalize hv : ({ s with orders := s.orders.map (Option.map Order.restored) } : State) = v
  have hvo : v.orders = s.orders.map (Option.map Order.restored) := by rw [← hv]
  generalize hb : ({ v with hoses := Vector.ofFn fun h => { v.hoses.get h with step := v.restoredRef h } } : State) = b
  have hs : s.restoreOrders = b.allSteps.foldl State.adoptStep b := by
    rw [State.restoreOrders, hv, hb]
  have hbo : b.orders = s.orders.map (Option.map Order.restored) := by rw [← hb]; exact hvo
  have hbc : b.cfg = s.cfg := by rw [← hb, ← hv]
  have hbs : b.supply = s.supply := by rw [← hb, ← hv]
  have hbh (h : HoseNo) : b.hoses.get h = { s.hoses.get h with step := v.restoredRef h } := by
    rw [← hb, ← hv]; exact Table.get_ofFn ..
  have had := b.adoptSteps b.allSteps
  rw [← hs] at had
  generalize s.restoreOrders = t at had
  have hto : t.orders = b.orders := by rw [had.only]
  have hth : t.hoses = b.hoses := by rw [had.only]
  -- the live steps before and after
  have hlive {q : StepRef} {w : Step} : (q, w) ∈ b.allSteps ∧ w.isLive = true ↔ ∃ st, HasLive s q st ∧ w = restoredStep st := by
    rw [State.mem_allSteps, hasStep_restored hbo]
    constructor
    · rintro ⟨⟨st, hst, rfl⟩, hl⟩
      exact ⟨st, ⟨hst, st.isLive_iff.mp (by simpa using hl)⟩, rfl⟩
    · rintro ⟨st, ⟨hst, hl⟩, rfl⟩
      exact ⟨⟨st, hst, rfl⟩, by simpa using st.isLive_iff.mpr hl⟩
  have hsame : t = b → t.cfg = s.cfg ∧ t.supply = s.supply := fun h => by rw [h, hbc, hbs]; exact ⟨rfl, rfl⟩
  refine ⟨?_, fun i => ?_, fun h => ?_, fun hu r st hst hf => ?_, fun h hn => ?_, fun h => ⟨fun hno => ?_, ?_⟩, ?_, fun hall => ?_⟩
  · have h₁ := had.only
    rw [hbc, hbs] at h₁
    generalize t.cfg.hoses = x at h₁
    generalize t.supply.unsaved = y at h₁
    rw [h₁, ← hb, ← hv]
  · rw [hto, hbo, Table.get_map]
    cases s.orders.get i with
    | none => rfl
    | some o => exact congrArg some o.restored_eq
  · rw [hth, hbh]
  · rw [hth, hbh]
    have hw : HasStep v r (restoredStep st) := (hasStep_restored hvo).mpr ⟨st, hst, rfl⟩
    have := State.restoredRef_of (s := v) (fun r x q y hx hfx hy hfy he => by
      obtain ⟨a, ha, rfl⟩ := (hasStep_restored hvo).mp hx
      obtain ⟨c, hc, rfl⟩ := (hasStep_restored hvo).mp hy
      rw [restoredStep_hose, restoredStep_hose] at he
      exact hu r a q c ha ((restoredStep_inFlight a).mp hfx) hc ((restoredStep_inFlight c).mp hfy) he)
      hw ((restoredStep_inFlight st).mpr hf)
    rwa [restoredStep_hose] at this
  · rw [hth, hbh]
    refine State.restoredRef_none fun r w hw hf => ?_
    obtain ⟨st, hst, rfl⟩ := (hasStep_restored hvo).mp hw
    rw [restoredStep_hose]
    exact hn r st hst ((restoredStep_inFlight st).mp hf)
  · rw [← hbc]
    rcases had.hoses h with ⟨h₁, -⟩ | ⟨⟨q, w⟩, hm, hl, hh, -⟩
    · exact h₁
    · obtain ⟨st, hst, rfl⟩ := hlive.mp ⟨hm, hl⟩
      exact absurd (by simpa using hh) (hno q st hst)
  · intro r st hst hh hagree
    obtain ⟨hm, hl⟩ := hlive.mpr ⟨st, hst, rfl⟩
    rw [← hbc]
    rcases had.hoses h with ⟨-, h₂⟩ | ⟨⟨q, w⟩, hm', hl', hh', hget⟩
    · exact absurd (by simpa using hh) (h₂ _ hm hl)
    · obtain ⟨x, hx, rfl⟩ := hlive.mp ⟨hm', hl'⟩
      obtain ⟨hi, hc⟩ := hagree q x hx (by simpa using hh')
      rw [hget, ← hi, ← hc, restoredStep_ctx]
  · rcases had.unsaved with h | h
    · exact .inl (hsame h)
    · exact .inr h
  · refine hsame (had.same ?_)
    rintro ⟨q, w⟩ hm hl
    obtain ⟨st, hst, rfl⟩ := hlive.mp ⟨hm, hl⟩
    rw [hbc, restoredStep_ctx, restoredStep_hose]
    exact hall q st hst

end

end Sys2Proof.Machine
end

section
/-! SUPPORT. A start-up after power-on up to the load, and what both its forms come to (R189, R193, R196, R197). -/

namespace Sys2Proof.Machine

open Sys2Proof.Safety

section
variable {s : State}

/-- The part when stage 1 after power-on is over (R196). -/
def State.poweredOn (s : State) (r : Retention) : State :=
  (State.stageOne { s with powered := true }).modSupply fun u => { u with retention := r }

theorem Supply.cutSave_before (u : Supply) : u.cutSave .beforeMark = { u with snapshot := none } := by
  obtain ⟨_, _, _, _, _, _, _, snapshot, _, _, _, _, _⟩ := u
  cases snapshot <;> rfl

theorem State.stageOne_supply (s : State) : s.stageOne.supply = { s.supply with snapshot := none, starting := false } := by
  rw [State.stageOne, State.stop, Supply.cutSave_before]

theorem State.poweredOn_supply (s : State) (r : Retention) : (s.poweredOn r).supply = { s.supply with
    snapshot := none, starting := false, retention := r } := by
  rw [State.poweredOn, State.modSupply, State.stageOne_supply]

/-- The settings in force after a load (R189). -/
def loadedSettings (accepted : Bool) (s : State) : Settings := if accepted then s.supply.image.items else Settings.default

theorem State.loaded_supply (s : State) (r : Retention) (answers : Bool) :
    ((s.poweredOn r).loadSettings answers).supply = { s.supply with
      snapshot := none, starting := false, retention := r, defaulted := !(answers && s.supply.image.accepted)
      unsaved := !(answers && s.supply.image.accepted), answered := answers, lastSave := none } := by
  rw [State.loadSettings, State.poweredOn_supply]

theorem State.loaded_cfg (s : State) (r : Retention) (answers : Bool) :
    ((s.poweredOn r).loadSettings answers).cfg = loadedSettings (answers && s.supply.image.accepted) s := by
  rw [State.loadSettings, State.poweredOn_supply]
  rfl

theorem State.power_startUp (hp : s.powered = false) (hr : s.pins.reset = false) (r : Retention) (answers : Bool)
    (reach : StartReach) : exec (.powerOn r ⟨answers, reach⟩) s
      = .next ((s.poweredOn r).startUp (powerActions r answers) reach) := by
  have hlose : s.lose .beforeMark = s := by rw [State.lose, hp]; rfl
  rw [exec, execPowerOn, State.power, hlose]
  simp only [hr, Bool.false_eq_true, if_false]
  rfl

/-- The part when stage 1 is over, and it may be the load (R189, R193). -/
structure StoreKeptBy (s : State) (r : Retention) (y : State) : Prop where
  powered : y.powered = true
  pins : y.pins = s.pins
  pending : y.pending = s.pending
  orders : y.orders = s.orders
  accounts : y.accounts = s.accounts
  journal : y.journal = s.journal
  tanks : ∀ k, y.tanks.get k = { s.tanks.get k with staleTimer := none, quietTimer := none }
  islands : ∀ i, (y.islands.get i).lastSeq = (s.islands.get i).lastSeq
  map : y.shut.map = s.shut.map
  warnings : y.shut.warnings = s.shut.warnings
  clock : y.supply.clock = s.supply.clock
  clockSet : y.supply.clockSet = s.supply.clockSet
  retention : y.supply.retention = r
  hoses : ∀ h, (y.hoses.get h).valve = .closed
  ends : y.ends = []

theorem State.poweredOn_kept (s : State) (r : Retention) : StoreKeptBy s r (s.poweredOn r) where
  powered := rfl
  pins := rfl
  pending := rfl
  orders := rfl
  accounts := rfl
  journal := rfl
  tanks _ := Table.get_map ..
  islands i := by
    have : (s.poweredOn r).islands.get i = { s.islands.get i with timer := none } := Table.get_map ..
    rw [this]
  map := rfl
  warnings := rfl
  clock := by rw [State.poweredOn_supply]
  clockSet := by rw [State.poweredOn_supply]
  retention := rfl
  hoses h := by
    have : (s.poweredOn r).hoses.get h = (s.hoses.get h).stopped := Table.get_map ..
    rw [this]
    rfl
  ends := rfl

theorem StoreKeptBy.load {r : Retention} {y : State} (h : StoreKeptBy s r y) (answers : Bool) :
    StoreKeptBy s r (y.loadSettings answers) :=
  ⟨h.powered, h.pins, h.pending, h.orders, h.accounts, h.journal, h.tanks, h.islands, h.map, h.warnings, h.clock, h.clockSet,
    h.retention, h.hoses, h.ends⟩

/-! ## A start-up that is completed -/

/-- What the stages 3 to 6 of a start-up after power-on may change. -/
def StagesDone (y x : State) : Prop := x = { y with
  orders := x.orders, hoses := x.hoses, islands := x.islands, tanks := x.tanks, accounts := x.accounts, journal := x.journal
  shut := x.shut, ports := x.ports, reports := x.reports, ends := x.ends, cfg := { y.cfg with hoses := x.cfg.hoses }
  supply := { y.supply with unsaved := x.supply.unsaved, clock := x.supply.clock, clockSet := x.supply.clockSet } }

/-- What a completed start-up after power-on leaves, whatever the retained content was. -/
theorem Begun.poweredUp {x t : State} {r : Retention} {answers : Bool} {reason : RestartReason} (hb : Begun x t reason)
    (hx : StagesDone ((s.poweredOn r).loadSettings answers) x) (hr : s.pins.reset = false) (hn : Negated s.pins) :
    t.running = true ∧ t.pins = s.pins ∧ t.pending = s.pending ∧ t.ends = [] ∧ t.reports = []
      ∧ t.supply = { s.supply with
          state := .normal, warning := false, retention := r, reason := reason
          defaulted := !(answers && s.supply.image.accepted), answered := answers
          starting := false, snapshot := none, lastSave := none, unsaved := t.supply.unsaved, clock := t.supply.clock
          clockSet := t.supply.clockSet, image := t.supply.image }
      ∧ t.cfg = { loadedSettings (answers && s.supply.image.accepted) s with hoses := t.cfg.hoses }
      ∧ (∀ h, (t.hoses.get h).valve = .closed ∧ (t.hoses.get h).coupled = s.pins.coupling.get h)
      ∧ (∀ i, (t.islands.get i).presence = .absent) ∧ (t.shut.relay = true ↔ t.entryAt .bay = none)
      ∧ ∀ l, (t.ports.get l).queue = [] ∧ (t.ports.get l).frameErrors = 0
          ∧ (∀ k : NoticeKind, k ≠ .restart → (t.ports.get l).notices.get k.index = none)
          ∧ (inMask (t.cfg.links.get l).record .restart = true →
              ∃ e, (t.ports.get l).notices.get NoticeKind.restart.index = some e ∧ e.count = 1
                ∧ e.restart = some (reason, !(answers && s.supply.image.accepted))) := by
  unfold StagesDone at hx
  have hypins : ((s.poweredOn r).loadSettings answers).pins = s.pins := rfl
  have hypend : ((s.poweredOn r).loadSettings answers).pending = s.pending := rfl
  have hypow : ((s.poweredOn r).loadSettings answers).powered = true := rfl
  have hysup := s.loaded_supply r answers
  have hycfg := s.loaded_cfg r answers
  generalize (s.poweredOn r).loadSettings answers = y at hx hypins hypend hypow hysup hycfg
  have hpins : x.pins = s.pins := by rw [hx, hypins]
  have hpend : x.pending = s.pending := by rw [hx, hypend]
  have hpow : x.powered = true := by rw [hx, hypow]
  have hcfg : x.cfg = { loadedSettings (answers && s.supply.image.accepted) s with hoses := x.cfg.hoses } := by
    rw [← hycfg]; exact congrArg State.cfg hx
  have hsup : x.supply = { s.supply with
      retention := r, defaulted := !(answers && s.supply.image.accepted), answered := answers
      starting := false, snapshot := none, lastSave := none, unsaved := x.supply.unsaved, clock := x.supply.clock
      clockSet := x.supply.clockSet } := by
    have : x.supply = { y.supply with
        unsaved := x.supply.unsaved, clock := x.supply.clock, clockSet := x.supply.clockSet } := congrArg State.supply hx
    rw [hysup] at this
    exact this
  clear hx hysup hycfg hypins hypend hypow
  obtain ⟨hstate, hwarn, hislands⟩ := hb.negated (by rw [hpins]; exact hn)
  have htsup : t.supply = { x.supply with state := .normal, warning := false, reason := reason } := by
    have : t.supply = { x.supply with
        state := t.supply.state, warning := t.supply.warning, reason := reason } := congrArg State.supply hb.only
    rw [hstate, hwarn] at this
    exact this
  have htcfg : t.cfg = x.cfg := by rw [hb.only]
  have htpins : t.pins = s.pins := by rw [hb.only]; exact hpins
  refine ⟨?_, htpins, by rw [hb.only]; exact hpend, by rw [hb.only], by rw [hb.only], ?_, ?_, fun h => ?_, fun i => ?_,
    hb.relay, ?_⟩
  · have htpow : t.powered = true := by rw [hb.only]; exact hpow
    rw [State.running, htpow, htpins, hr, htsup, hsup]
    rfl
  · rw [htsup, hsup]
  · rw [htcfg, ← hcfg]
  · rw [hb.hose, hpins]
    exact ⟨rfl, rfl⟩
  · rw [hislands]
    rfl
  · have hdef : x.supply.defaulted = !(answers && s.supply.image.accepted) := by rw [hsup]
    rw [← hdef]
    exact hb.ports

end

end Sys2Proof.Machine
end

section
/-! SUPPORT. A completed start-up after power-on, with the retained content kept or lost (R27, R104, R110, R170, R189, R193). -/

namespace Sys2Proof.Machine

open Sys2Proof.Safety

section
variable {s : State} {answers : Bool}

theorem receiptsCancelled_congr {s t : State} {a b : Table Tank 10} (h : t.supply.clock = s.supply.clock)
    (hs : t.supply.clockSet = s.supply.clockSet)
    (hr : ∀ k, ((b.get k).receipt.map fun r => (r.openClock, r.clockNotSet))
      = (a.get k).receipt.map fun r => (r.openClock, r.clockNotSet))
    (hb : ∀ k, (b.get k).book = (a.get k).book) (j : Journal) :
    receiptsCancelled t b j = receiptsCancelled s a j := by
  rw [receiptsCancelled_eq, receiptsCancelled_eq]
  refine congrArg (fun f => List.foldl f j allTanks) (funext fun j => funext fun k => ?_)
  exact receiptCancelled_congr h hs (hr k) (hb k) j

/-- Without open receipts no record is written. -/
theorem receiptsCancelled_none {tanks : Table Tank 10} (h : ∀ k, (tanks.get k).receipt = none) (s : State) (j : Journal) :
    receiptsCancelled s tanks j = j := by
  rw [receiptsCancelled_eq]
  exact foldl_same _ _ _ fun k _ => by rw [receiptCancelled, h]

theorem State.isStrapped_eq (s : State) (k : TankNo) : s.isStrapped k = decide (s.cfg.straps.get k ≠ []) := by
  rw [State.isStrapped]
  cases s.cfg.straps.get k <;> rfl

/-- The tanks after a completed start-up, by what they were before stage 5 (R110). -/
theorem Begun.tank_restarted {x t w : State} {reason : RestartReason} (hb : Begun x t reason)
    (hw : ∀ k, TankDefaulted w.supply.defaulted (w.tanks.get k) (x.tanks.get k)) (hc : x.cfg = w.cfg) (k : TankNo) :
    t.tanks.get k = tankRestarted (!w.supply.defaulted) (decide (w.cfg.straps.get k ≠ [])) (w.cfg.tanks.get k)
      (x.pins.probes.get k) (w.tanks.get k) := by
  rw [hb.tank, Tank.restarted_of (hw k), State.isStrapped_eq, hc]
  rfl

theorem TanksDefaulted.all {w d : State} (h : TanksDefaulted w allTanks d) (k : TankNo) :
    TankDefaulted w.supply.defaulted (w.tanks.get k) (d.tanks.get k) := by
  have := h.tanks k
  rwa [decide_eq_true (show k ∈ allTanks from List.mem_finRange k), Bool.true_and] at this

/-! ## Retention kept -/

/-- The part when the stages up to 6 are over, with retention kept. -/
def State.keptStages (s : State) (answers : Bool) : State :=
  allTanks.foldl State.defaultTank ((s.poweredOn .kept).loadSettings answers).restoreOrders

theorem State.kept_whole (s : State) (answers : Bool) : (s.poweredOn .kept).startUp (powerActions .kept answers) .whole
    = (s.keptStages answers).fieldBegun.inputsSampled.finishStartUp .powerOnKept := by
  have hfirst : [StartAction.load answers, .restore].foldl State.startAction (s.poweredOn .kept)
      = ((s.poweredOn .kept).loadSettings answers).restoreOrders := rfl
  rw [State.startUp_whole, powerActions, List.foldl_append, hfirst, State.laterActions_fold, if_neg (by decide),
    State.keptStages]

/-- The stages 3 to 5, with retention kept. -/
theorem State.keptStages_done (s : State) (answers : Bool) :
    StagesDone ((s.poweredOn .kept).loadSettings answers) (s.keptStages answers) := by
  have hr := ((s.poweredOn .kept).loadSettings answers).restoreOrders_restored
  have hd := ((s.poweredOn .kept).loadSettings answers).restoreOrders.defaultTanks
  unfold StagesDone State.keptStages
  generalize (s.poweredOn .kept).loadSettings answers = y at hr hd
  generalize y.restoreOrders = w at hr hd
  generalize allTanks.foldl State.defaultTank w = d at hd
  rw [hd.only, hr.only]

/-- What a start-up that keeps the retained content leaves of it (R27, R104, R110, R189). -/
theorem Begun.kept {s t : State} {answers : Bool} {reason : RestartReason} (hb : Begun (s.keptStages answers) t reason)
    (hn : Negated s.pins) :
    let accepted := answers && s.supply.image.accepted
    let loaded := loadedSettings accepted s
    t.accounts = s.accounts ∧ t.supply.clock = s.supply.clock ∧ t.supply.clockSet = s.supply.clockSet
      ∧ (∀ x, t.entryAt x = s.entryAt x)
      ∧ t.journal = (if accepted then s.journal else receiptsCancelled s s.tanks s.journal)
      ∧ (∀ k, t.tanks.get k
          = tankRestarted accepted (decide (loaded.straps.get k ≠ [])) (loaded.tanks.get k) false (s.tanks.get k))
      ∧ (∀ i, (t.islands.get i).lastSeq = (s.islands.get i).lastSeq)
      ∧ (∀ i, t.orders.get i = (s.orders.get i).map fun o =>
          { o with state := .held, hold := some .power, steps := o.steps.map restoredStep })
      ∧ ((∀ r st q w, HasStep s r st → InFlight st → HasStep s q w → InFlight w → st.hose = w.hose → r = q) →
          ∀ r st, HasStep s r st → InFlight st → (t.hoses.get st.hose).step = some r)
      ∧ (∀ h, (∀ r st, HasStep s r st → InFlight st → st.hose ≠ h) → (t.hoses.get h).step = none)
      ∧ HosesAdopted s loaded t.cfg
      ∧ (accepted = false ∨ t.cfg ≠ loaded → t.supply.unsaved = true)
      ∧ (accepted = true → (∀ q st, HasLive s q st →
            adoptedCfg q.island st.ctx (loaded.hoses.get st.hose) = loaded.hoses.get st.hose) →
          t.supply.unsaved = false) := by
  intro accepted loaded
  unfold State.keptStages at hb
  have hr := ((s.poweredOn .kept).loadSettings answers).restoreOrders_restored
  have hd := ((s.poweredOn .kept).loadSettings answers).restoreOrders.defaultTanks
  have hysup := s.loaded_supply .kept answers
  have hycfg : ((s.poweredOn .kept).loadSettings answers).cfg = loaded := s.loaded_cfg .kept answers
  have hy := (s.poweredOn_kept .kept).load answers
  generalize (s.poweredOn .kept).loadSettings answers = y at *
  obtain ⟨-, -, hlast⟩ := hb.negated (by rw [hd.only, hr.only]; exact (hy.pins ▸ hn))
  generalize y.restoreOrders = w at *
  have hdall := hd.all
  generalize allTanks.foldl State.defaultTank w = d at *
  have hwdef : w.supply.defaulted = !accepted := by rw [hr.only, hysup]
  have hwk : w.tanks = y.tanks := by rw [hr.only]
  have hwi : w.islands = y.islands := by rw [hr.only]
  have hwj : w.journal = s.journal := by rw [hr.only]; exact hy.journal
  obtain ⟨hwc, hwcs⟩ : w.supply.clock = s.supply.clock ∧ w.supply.clockSet = s.supply.clockSet := by
    rw [hr.only]; exact ⟨hy.clock, hy.clockSet⟩
  have hdpins : d.pins = s.pins := by rw [hd.only, hr.only]; exact hy.pins
  have hwcfg : w.cfg = { loaded with hoses := w.cfg.hoses } := by rw [← hycfg]; exact congrArg State.cfg hr.only
  have htcfg : t.cfg = w.cfg := by rw [hb.only, hd.only]
  have htsup : t.supply.unsaved = w.supply.unsaved := by rw [hb.only, hd.only]
  have hstep (h : HoseNo) : (t.hoses.get h).step = (w.hoses.get h).step := by
    have hdh : d.hoses = w.hoses := by rw [hd.only]
    rw [hb.hose, hdh]
  have hyu : y.supply.unsaved = !accepted := by rw [hysup]
  have hsame (q : StepRef) (st : Step) : HasStep y q st ↔ HasStep s q st := HasStep.congr (by rw [hy.orders])
  have hlive (q : StepRef) (st : Step) : HasLive y q st ↔ HasLive s q st := and_congr (hsame q st) Iff.rfl
  refine ⟨?_, ?_, ?_, fun x => ?_, ?_, fun k => ?_, fun i => ?_, fun i => ?_, fun hu r st hst hf => ?_, fun h hno => ?_, fun h => ?_,
    fun hor => ?_, fun hacc hall => ?_⟩
  · rw [hb.only, hd.only, hr.only]; exact hy.accounts
  · rw [hb.only, hd.only]; exact hwc
  · rw [hb.only, hd.only]; exact hwcs
  · have hmap : t.shut.map = d.shut.map := hb.map (by rw [hdpins]; exact hn.stop)
      (fun i => by rw [hdpins]; exact (hn.islands i).2) fun k => by rw [hdpins]; exact hn.probes k
    have hdm : d.shut.map = s.shut.map := by rw [hd.only, hr.only]; exact hy.map
    rw [State.entryAt, State.entryAt, hmap, hdm]
  · have htj : t.journal = d.journal := by rw [hb.only]
    rw [htj, hd.journal, hwdef, ← receiptsCancelled_eq, hwj,
      receiptsCancelled_congr (s := s) (a := s.tanks) hwc hwcs (fun k => by rw [hwk, hy.tanks]) fun k => by rw [hwk, hy.tanks]]
    cases accepted <;> rfl
  · rw [hb.tank_restarted hdall (by rw [hd.only]), hwdef, Bool.not_not, hwcfg, hdpins, hn.probes k, hwk, hy.tanks]
    rfl
  · have hdi : d.islands = w.islands := by rw [hd.only]
    rw [hlast i, hdi, hwi]
    exact hy.islands i
  · have hto : t.orders = w.orders := by rw [hb.only, hd.only]
    rw [hto, hr.orders, hy.orders]
  · rw [hstep]
    exact hr.steps (fun r st q w h₁ h₂ h₃ h₄ => hu r st q w ((hsame r st).mp h₁) h₂ ((hsame q w).mp h₃) h₄) r st
      ((hsame r st).mpr hst) hf
  · rw [hstep]
    exact hr.free h fun r st hst => hno r st ((hsame r st).mp hst)
  · rw [htcfg, ← hycfg]
    obtain ⟨h₁, h₂⟩ := hr.adopted h
    refine ⟨fun hno => h₁ fun r st hl => hno r st ((hlive r st).mp hl), fun r st hl hh hagree => ?_⟩
    exact h₂ r st ((hlive r st).mpr hl) hh fun q w hq => hagree q w ((hlive q w).mp hq)
  · rw [htsup]
    rcases hr.unsaved with ⟨hc, hsu⟩ | h
    · rcases hor with hacc | hne
      · rw [hsu, hyu, hacc]; rfl
      · exact absurd (by rw [htcfg, hc, hycfg]) hne
    · exact h
  · obtain ⟨-, hsu⟩ := hr.same fun q st hl => by rw [hycfg]; exact hall q st ((hlive q st).mp hl)
    rw [htsup, hsu, hyu, hacc]
    rfl

end

end Sys2Proof.Machine
end

section
/-! SUPPORT. A start-up after power-on with the retained content lost, and one that goes no further than some of its actions (R160,
R170, R193, R196). -/

namespace Sys2Proof.Machine

open Sys2Proof.Safety

/-! ## Retention lost -/

/-- The part when the stages up to 6 are over, with retention lost. -/
def State.lostStages (s : State) (answers : Bool) : State :=
  State.applyReport (allTanks.foldl State.defaultTank ((s.poweredOn .lost).loadSettings answers).loseRetained) .storeLost

theorem State.lost_whole (s : State) (answers : Bool) : (s.poweredOn .lost).startUp (powerActions .lost answers) .whole
    = (s.lostStages answers).fieldBegun.inputsSampled.finishStartUp .powerOnLost := by
  have hfirst : [StartAction.load answers, .lose].foldl State.startAction (s.poweredOn .lost)
      = ((s.poweredOn .lost).loadSettings answers).loseRetained := rfl
  rw [State.startUp_whole, powerActions, List.foldl_append, hfirst, State.laterActions_fold, if_pos rfl, State.lostStages]

theorem State.loseRetained_idle {y : State} (h : y.ends = []) : Idle y.loseRetained := ⟨fun _ => Table.get_replicate .., h⟩

/-- The part when the stages up to 6 are over, with retention lost: the bay is held by STORE_LOST (R170). -/
structure LostStages (y x : State) : Prop where
  only : x = { y.loseRetained with tanks := x.tanks, shut := x.shut, ports := x.ports }
  tanks : ∀ k, TankDefaulted y.supply.defaulted (y.loseRetained.tanks.get k) (x.tanks.get k)
  bay : ∃ e, x.entryAt .bay = some e ∧ e.firstCause = .storeLost ∧ e.origin = .startUp
  others : ∀ o, o ≠ .bay → x.entryAt o = none

theorem State.loseRetained_tank (y : State) (k : TankNo) :
    y.loseRetained.tanks.get k = { Tank.initial with probe := (y.tanks.get k).probe } := Table.get_map ..

theorem State.lostStages_of {y : State} (hy : y.ends = []) :
    LostStages y (State.applyReport (allTanks.foldl State.defaultTank y.loseRetained) .storeLost) := by
  have hi := State.loseRetained_idle hy
  have hd := y.loseRetained.defaultTanks
  have hdall := hd.all
  have hnone (k : TankNo) : (y.loseRetained.tanks.get k).receipt = none := by rw [y.loseRetained_tank]; rfl
  have hempty (o : Scope) : y.loseRetained.entryAt o = none := Table.get_replicate ..
  have hdef : y.loseRetained.supply.defaulted = y.supply.defaulted := rfl
  rw [hdef] at hdall
  generalize hw : y.loseRetained = w at *
  generalize allTanks.foldl State.defaultTank w = d at *
  have hjournal : d.journal = w.journal := by
    rw [hd.journal, ← receiptsCancelled_eq, receiptsCancelled_none hnone, ite_self]
  have hdi : Idle d := hi.congr (by rw [hd.only]) (by rw [hd.only])
  have hde (o : Scope) : d.entryAt o = none := by
    have : d.shut = w.shut := by rw [hd.only]
    rw [State.entryAt, this]
    exact hempty o
  have htrip : d.applyReport .storeLost = d.trip .storeLost := State.applyReport_trips rfl (hde _)
  have honly := hdi.trip .storeLost
  have hbay := d.trip_entry .storeLost
  have hothers (o : Scope) (ho : o ≠ .bay) : (d.trip .storeLost).entryAt o = none := (d.trip_others .storeLost ho).trans (hde o)
  rw [htrip]
  generalize d.trip .storeLost = x at honly hbay hothers
  have hxk : x.tanks = d.tanks := by rw [honly]
  have honlyd := hd.only
  rw [hjournal] at honlyd
  refine ⟨?_, fun k => by rw [hw, hxk]; exact hdall k, ⟨_, hbay, rfl, rfl⟩, hothers⟩
  rw [hw, hxk]
  generalize d.tanks = k at honlyd
  rw [honly, honlyd]

/-- What a start-up that has lost the retained content leaves (R148, R170, R193, R197). -/
theorem Begun.lost {s t : State} {answers : Bool} {reason : RestartReason} (hb : Begun (s.lostStages answers) t reason)
    (hn : Negated s.pins) :
    let accepted := answers && s.supply.image.accepted
    (∀ i, t.orders.get i = none) ∧ t.accounts = [] ∧ t.journal = { records := [], reserved := 0, next := 1 }
      ∧ t.supply.clock = 0 ∧ t.supply.clockSet = false ∧ t.supply.unsaved = !accepted
      ∧ t.cfg = loadedSettings accepted s
      ∧ (∀ k, (t.tanks.get k).state = .outOfService ∧ (t.tanks.get k).book = 0 ∧ (t.tanks.get k).bookLimit = false
          ∧ (t.tanks.get k).reserved = 0 ∧ (t.tanks.get k).unassigned = 0 ∧ (t.tanks.get k).receipt = none
          ∧ (t.tanks.get k).gauge.valid = false ∧ (t.tanks.get k).leak = .waiting)
      ∧ (∃ e, t.entryAt .bay = some e ∧ e.firstCause = .storeLost ∧ e.origin = .startUp)
      ∧ ∀ x, x ≠ .bay → t.entryAt x = none := by
  intro accepted
  have hysup := s.loaded_supply .lost answers
  have hycfg : ((s.poweredOn .lost).loadSettings answers).cfg = loadedSettings accepted s := s.loaded_cfg .lost answers
  have hy := (s.poweredOn_kept .lost).load answers
  have hx := State.lostStages_of hy.ends
  unfold State.lostStages at hb
  generalize (s.poweredOn .lost).loadSettings answers = y at *
  have hidle : ∀ i, y.loseRetained.orders.get i = none := (State.loseRetained_idle hy.ends).1
  generalize State.applyReport (allTanks.foldl State.defaultTank y.loseRetained) .storeLost = x at *
  have hxpins : x.pins = s.pins := by rw [hx.only]; exact hy.pins
  have hmap : t.shut.map = x.shut.map := hb.map (by rw [hxpins]; exact hn.stop)
    (fun i => by rw [hxpins]; exact (hn.islands i).2) fun k => by rw [hxpins]; exact hn.probes k
  have hentry (o : Scope) : t.entryAt o = x.entryAt o := by rw [State.entryAt, hmap, State.entryAt]
  have hxcfg : x.cfg = y.cfg := by rw [hx.only]; rfl
  have htank (k : TankNo) := hb.tank_restarted (w := y.loseRetained) hx.tanks hxcfg k
  have hto : t.orders = y.loseRetained.orders := by rw [hb.only, hx.only]
  refine ⟨fun i => by rw [hto]; exact hidle i, by rw [hb.only, hx.only]; rfl, by rw [hb.only, hx.only]; rfl,
    by rw [hb.only, hx.only]; rfl, by rw [hb.only, hx.only]; rfl, ?_, ?_, fun k => ?_, ?_, fun o ho => ?_⟩
  · have : t.supply.unsaved = y.supply.unsaved := by rw [hb.only, hx.only]; rfl
    rw [this, hysup]
  · have : t.cfg = y.cfg := by rw [hb.only]; exact hxcfg
    rw [this, hycfg]
  · rw [htank, y.loseRetained_tank]
    unfold tankRestarted
    cases y.loseRetained.supply.defaulted <;> simp [Tank.initial]
  · rw [hentry]
    exact hx.bay
  · rw [hentry]
    exact hx.others o ho

theorem State.lostStages_done (s : State) (answers : Bool) :
    StagesDone ((s.poweredOn .lost).loadSettings answers) (s.lostStages answers) := by
  have hx := State.lostStages_of ((s.poweredOn_kept .lost).load answers).ends
  unfold StagesDone State.lostStages
  generalize (s.poweredOn .lost).loadSettings answers = y at hx
  generalize State.applyReport (allTanks.foldl State.defaultTank y.loseRetained) .storeLost = x at hx
  rw [hx.only]
  rfl

end Sys2Proof.Machine
end

section
/-! SUPPORT. A start-up that goes no further than some of its actions (R160, R193, R196). -/

namespace Sys2Proof.Machine

open Sys2Proof.Safety

/-- A start-up that goes no further: the outputs are off, and no event is taken. -/
def State.stopsThere (v : State) : State := v.outputsOff.modSupply fun u => { u with starting := true }

theorem State.stopsThere_startsUp {v : State} (he : v.ends = []) (hv : ∀ h, (v.hoses.get h).valve = .closed) :
    StartsUp v.stopsThere := by
  refine ⟨?_, rfl, he, rfl, fun k => Table.get_replicate .., hv⟩
  have : v.stopsThere.supply.starting = true := rfl
  rw [State.running, this]
  simp

theorem StoreKeptBy.storeKept {s v : State} {r : Retention} (h : StoreKeptBy s r v) : StoreKept s v.stopsThere :=
  ⟨h.orders, h.accounts, h.journal, h.tanks, h.islands, h.map, h.warnings, h.clock, h.clockSet⟩

/-- What holds of a start-up after power-on under way, from stage 1 on. -/
structure UnderWay (s : State) (r : Retention) (v : State) : Prop where
  powered : v.powered = true
  pins : v.pins = s.pins
  pending : v.pending = s.pending
  retention : v.supply.retention = r
  ends : v.ends = []
  valves : ∀ h, (v.hoses.get h).valve = .closed

theorem StoreKeptBy.underWay {s v : State} {r : Retention} (h : StoreKeptBy s r v) : UnderWay s r v :=
  ⟨h.powered, h.pins, h.pending, h.retention, h.ends, h.hoses⟩

theorem UnderWay.later {s v w : State} {r : Retention} (h : UnderWay s r w) (hl : Later w v) : UnderWay s r v :=
  ⟨by rw [hl.only]; exact h.powered, by rw [hl.only]; exact h.pins, by rw [hl.only]; exact h.pending,
    by rw [hl.only]; exact h.retention, by rw [hl.only], hl.valves h.valves⟩

theorem Restored.underWay {s y w : State} {r : Retention} (hw : Restored y w) (h : StoreKeptBy s r y) : UnderWay s r w :=
  ⟨by rw [hw.only]; exact h.powered, by rw [hw.only]; exact h.pins, by rw [hw.only]; exact h.pending,
    by rw [hw.only]; exact h.retention, by rw [hw.only]; exact h.ends, fun x => by rw [hw.hoses]; exact h.hoses x⟩

theorem State.loseRetained_underWay {s y : State} {r : Retention} (h : StoreKeptBy s r y) : UnderWay s r y.loseRetained := by
  refine ⟨h.powered, h.pins, h.pending, h.retention, h.ends, fun x => ?_⟩
  have : y.loseRetained.hoses.get x = { y.hoses.get x with step := none } := Table.get_map ..
  rw [this]
  exact h.hoses x

theorem powerActions_kept (answers : Bool) :
    (powerActions .kept answers).dropLast = .load answers :: .restore :: lateActions .powerOnKept := by
  rw [powerActions, laterActions_eq, ← List.append_assoc, List.dropLast_concat]
  rfl

theorem powerActions_lost (answers : Bool) :
    (powerActions .lost answers).dropLast = .load answers :: .lose :: lateActions .powerOnLost := by
  rw [powerActions, laterActions_eq, ← List.append_assoc, List.dropLast_concat]
  rfl

/-- How far a start-up after power-on that takes some of its actions comes (R196). -/
structure Reached (s : State) (r : Retention) (n : Nat) (v : State) : Prop where
  underWay : UnderWay s r v
  store : n ≤ 1 → StoreKeptBy s r v
  kept : r = .kept → StoreKeptBy s r v ∨ v.accounts = s.accounts ∧ v.supply.clock = s.supply.clock
    ∧ v.supply.clockSet = s.supply.clockSet ∧ v.shut.map = s.shut.map
    ∧ ∀ i, v.orders.get i = (s.orders.get i).map fun o =>
        { o with state := .held, hold := some .power, steps := o.steps.map restoredStep }

theorem StoreKeptBy.reached {s v : State} {r : Retention} (h : StoreKeptBy s r v) (n : Nat) : Reached s r n v :=
  ⟨h.underWay, fun _ => h, fun _ => .inl h⟩

/-- Past the load and the restoring of the orders. -/
theorem Restored.reached {s y w : State} (hn : Negated s.pins) (hy : StoreKeptBy s .kept y) (hw : Restored y w) (m : Nat) :
    Reached s .kept (m + 2) (((lateActions .powerOnKept).take m).foldl State.startAction w) := by
  have hu := hw.underWay hy
  have hlate : ∀ a ∈ (lateActions .powerOnKept).take m, IsLate a := fun a ha =>
    isLate_lateActions (List.mem_of_mem_take ha)
  have hlost : .reportLost ∉ (lateActions .powerOnKept).take m := fun h =>
    absurd (reportLost_mem (List.mem_of_mem_take h)) (by decide)
  have hpins : Negated w.pins := by rw [hu.pins]; exact hn
  have hl := State.later_fold hu.ends _ hlate (.inr ⟨hpins, hlost⟩)
  have hm := State.later_fold_map _ hlate hu.ends hpins hlost
  generalize ((lateActions .powerOnKept).take m).foldl State.startAction w = v at hl hm
  have hwm : w.shut.map = s.shut.map := by rw [hw.only]; exact hy.map
  refine ⟨hu.later hl, fun h => by omega, fun _ => .inr ⟨?_, ?_, ?_, hm.trans hwm, fun i => ?_⟩⟩
  · rw [hl.only, hw.only]; exact hy.accounts
  · rw [hl.only, hw.only]; exact hy.clock
  · rw [hl.only, hw.only]; exact hy.clockSet
  · have hvo : v.orders = w.orders := by rw [hl.only]
    rw [hvo, hw.orders, hy.orders]

theorem State.power_reached {s : State} (hn : Negated s.pins) (r : Retention) (answers : Bool) (n : Nat) :
    Reached s r n (((powerActions r answers).dropLast.take n).foldl State.startAction (s.poweredOn r)) := by
  have hz := s.poweredOn_kept r
  have hy := hz.load answers
  cases r with
  | kept =>
    rw [powerActions_kept]
    match n with
    | 0 => exact hz.reached 0
    | 1 => exact hy.reached 1
    | m + 2 => exact ((s.poweredOn .kept).loadSettings answers).restoreOrders_restored.reached hn hy m
  | lost =>
    rw [powerActions_lost]
    match n with
    | 0 => exact hz.reached 0
    | 1 => exact hy.reached 1
    | m + 2 =>
      have hu := State.loseRetained_underWay hy
      have hl := State.later_fold hu.ends ((lateActions .powerOnLost).take m)
        (fun a ha => isLate_lateActions (List.mem_of_mem_take ha)) (.inl (State.loseRetained_idle hy.ends))
      exact ⟨hu.later hl, fun h => by omega, nofun⟩

end Sys2Proof.Machine
end

section
namespace Sys2Proof.Machine

open Sys2Proof.Safety

/-- Settles O50: the actions of a start-up after power-on, taken to the end (`Begun.kept`, `Begun.lost`) or as far as it goes. -/
theorem powerOnStartsThePart : Obligations.PowerOnStartsThePart := by
  unfold Obligations.PowerOnStartsThePart
  intro r answers s hp hr hstop hwarn hislands hprobes
  have hn : Negated s.pins := ⟨hstop, hwarn, hislands, hprobes⟩
  intro accepted loaded reason
  refine ⟨?_, fun n => ?_⟩
  · cases r with
    | kept =>
      have hx := s.keptStages_done answers
      have hb : Begun (s.keptStages answers) _ .powerOnKept :=
        State.begun (.inr (by rw [hx]; exact hn)) .powerOnKept
      have hexec := (State.power_startUp hp hr .kept answers .whole).trans (congrArg Host.Outcome.next (s.kept_whole answers))
      generalize (s.keptStages answers).fieldBegun.inputsSampled.finishStartUp .powerOnKept = t at hb hexec
      obtain ⟨h₁, h₂, h₃, h₄, h₅, h₆, h₇, h₈, h₉, h₁₀, h₁₁⟩ := hb.poweredUp hx hr hn
      exact ⟨t, hexec, h₁, h₂, h₃, h₄, h₅, h₆, h₇, h₈, h₉, h₁₀, h₁₁, nofun, fun _ => hb.kept hn⟩
    | lost =>
      have hx := s.lostStages_done answers
      have hb : Begun (s.lostStages answers) _ .powerOnLost :=
        State.begun (.inr (by rw [hx]; exact hn)) .powerOnLost
      have hexec := (State.power_startUp hp hr .lost answers .whole).trans (congrArg Host.Outcome.next (s.lost_whole answers))
      generalize (s.lostStages answers).fieldBegun.inputsSampled.finishStartUp .powerOnLost = t at hb hexec
      obtain ⟨h₁, h₂, h₃, h₄, h₅, h₆, h₇, h₈, h₉, h₁₀, h₁₁⟩ := hb.poweredUp hx hr hn
      exact ⟨t, hexec, h₁, h₂, h₃, h₄, h₅, h₆, h₇, h₈, h₉, h₁₀, h₁₁, fun _ => hb.lost hn, nofun⟩
  · obtain ⟨hu, hstore, hkept⟩ := State.power_reached hn r answers n
    have hexec : exec (.powerOn r ⟨answers, .actions n⟩) s = .next (State.stopsThere
        (((powerActions r answers).dropLast.take n).foldl State.startAction (s.poweredOn r))) :=
      State.power_startUp hp hr r answers (.actions n)
    generalize ((powerActions r answers).dropLast.take n).foldl State.startAction (s.poweredOn r) = v at *
    refine ⟨v.stopsThere, hexec, hu.powered,
      State.stopsThere_startsUp hu.ends hu.valves, hu.pins, hu.pending, hu.retention, fun h => (hstore h).storeKept, fun h => ?_⟩
    have hentry (hm : v.shut.map = s.shut.map) (x : Scope) : v.stopsThere.entryAt x = s.entryAt x := by
      have : v.stopsThere.shut.map = v.shut.map := rfl
      rw [State.entryAt, this, hm, State.entryAt]
    rcases hkept h with hk | ⟨ha, hc, hs, hm, ho⟩
    · exact ⟨hk.accounts, hk.clock, hk.clockSet, hentry hk.map, .inl hk.orders⟩
    · exact ⟨ha, hc, hs, hentry hm, .inr ho⟩

end Sys2Proof.Machine
end

section
/-! SUPPORT. The steps of an order end RESET one after another (R28, R49, R91). -/

namespace Sys2Proof.Machine

open Sys2Proof.Safety

/-! ## The tanks (R91, R94, R102) -/

/-- The book and its limit flag after some charges. -/
def booked (l : List Step) (k : Tank) : Tank := l.foldl (fun x st => bookCharged (bookChange st) x) k

/-- What a step has drawn for an open receipt (R102). -/
def drawnOf (l : List Step) : Nat := ((l.filter fun st => decide (st.kind = .preset ∨ st.kind = .openFill)).map netOf).sum

theorem tankReleased_iff (l : List Step) (k m : Tank) : TankReleased l k m ↔ m = { k with
    reserved := k.reserved - (l.map (·.target)).sum, book := (booked l k).book, bookLimit := (booked l k).bookLimit
    leak := m.leak, quietTimer := m.quietTimer, baseline := m.baseline
    receipt := k.receipt.map fun r => { r with drawn := r.drawn + drawnOf l } } := Iff.rfl

theorem bookCharged_congr {a b : Tank} (h : a.book = b.book) (hl : a.bookLimit = b.bookLimit) (x : Int) :
    (bookCharged x a).book = (bookCharged x b).book ∧ (bookCharged x a).bookLimit = (bookCharged x b).bookLimit := by
  unfold bookCharged
  rw [h]
  split
  · exact ⟨rfl, rfl⟩
  · split
    · exact ⟨rfl, rfl⟩
    · exact ⟨rfl, hl⟩

theorem booked_congr (l : List Step) : ∀ {a b : Tank}, a.book = b.book → a.bookLimit = b.bookLimit →
    (booked l a).book = (booked l b).book ∧ (booked l a).bookLimit = (booked l b).bookLimit := by
  induction l with
  | nil => exact fun h hl => ⟨h, hl⟩
  | cons st l ih =>
    intro a b h hl
    obtain ⟨h₁, h₂⟩ := bookCharged_congr h hl (bookChange st)
    exact ih h₁ h₂

theorem booked_append (l m : List Step) (k : Tank) : booked (l ++ m) k = booked m (booked l k) := List.foldl_append ..

theorem tankReleased_nil (k : Tank) : TankReleased [] k k := by
  rw [tankReleased_iff]
  have hr : (k.receipt.map fun r => { r with drawn := r.drawn + drawnOf [] }) = k.receipt := by cases k.receipt <;> rfl
  rw [hr]
  rfl

theorem tankReleased_append {l l' : List Step} {k m n : Tank} (h : TankReleased l k m) (h' : TankReleased l' m n) :
    TankReleased (l ++ l') k n := by
  rw [tankReleased_iff] at *
  have hm : m.book = (booked l k).book := by rw [h]
  have hml : m.bookLimit = (booked l k).bookLimit := by rw [h]
  obtain ⟨hb, hbl⟩ := booked_congr l' hm hml
  have hdrawn : drawnOf (l ++ l') = drawnOf l + drawnOf l' := by
    unfold drawnOf
    rw [List.filter_append, List.map_append, List.sum_append]
  have hreceipt : (m.receipt.map fun r => { r with drawn := r.drawn + drawnOf l' })
      = k.receipt.map fun r => { r with drawn := r.drawn + drawnOf (l ++ l') } := by
    rw [h, hdrawn]
    cases k.receipt with
    | none => rfl
    | some r => simp [Nat.add_assoc]
  have hreserved : m.reserved - (l'.map (·.target)).sum = k.reserved - ((l ++ l').map (·.target)).sum := by
    rw [h, List.map_append, List.sum_append]
    dsimp only
    omega
  rw [hb, hbl, hreceipt, hreserved, ← booked_append] at h'
  rw [h', h]

theorem watchAtRest_only (minutes : Nat) (k : Tank) : watchAtRest minutes k = { k with
    leak := (watchAtRest minutes k).leak, quietTimer := (watchAtRest minutes k).quietTimer
    baseline := (watchAtRest minutes k).baseline } := by
  unfold watchAtRest
  split <;> rfl

theorem bookCharged_only (x : Int) (k : Tank) : bookCharged x k = { k with
    book := (bookCharged x k).book, bookLimit := (bookCharged x k).bookLimit } := by
  unfold bookCharged
  split
  · rfl
  · split <;> rfl

theorem booked_one (st : Step) (k : Tank) : booked [st] k = bookCharged (bookChange st) k := by
  rw [booked, List.foldl_cons, List.foldl_nil]

/-- A tank whose book, reserved figure and receipt an end report has changed, and whose watch is told. -/
theorem watchAtRest_of {c k : Tank} (hc : c = { k with book := c.book, bookLimit := c.bookLimit }) (minutes n : Nat)
    (x : Option Receipt) : ∃ leak timer base, watchAtRest minutes { c with reserved := n, receipt := x } = { k with
      reserved := n, book := c.book, bookLimit := c.bookLimit, leak := leak, quietTimer := timer, baseline := base
      receipt := x } := by
  generalize hw : ({ c with reserved := n, receipt := x } : Tank) = w
  refine ⟨(watchAtRest minutes w).leak, (watchAtRest minutes w).quietTimer, (watchAtRest minutes w).baseline, ?_⟩
  have hr := watchAtRest_only minutes w
  rw [hr, ← hw, hc]

theorem tankReleased_of {l : List Step} {k m : Tank} {n : Nat} {b : Int} {f : Bool} {x : Option Receipt}
    (hm : ∃ leak timer base, m = { k with
      reserved := n, book := b, bookLimit := f, leak := leak, quietTimer := timer, baseline := base, receipt := x })
    (hn : n = k.reserved - (l.map (·.target)).sum) (hb : b = (booked l k).book) (hf : f = (booked l k).bookLimit)
    (hx : x = k.receipt.map fun r => { r with drawn := r.drawn + drawnOf l }) : TankReleased l k m := by
  obtain ⟨leak, timer, base, hm⟩ := hm
  rw [tankReleased_iff, ← hn, ← hb, ← hf, ← hx, hm]

theorem sum_filter_one {α : Type} (p : α → Bool) (f : α → Nat) (a : α) :
    (([a].filter p).map f).sum = if p a then f a else 0 := by
  cases h : p a <;> simp [h]

section
variable {st : Step}

theorem chargedTank_draw (hd : st.kind = .preset ∨ st.kind = .openFill) (minutes n : Nat) (k : Tank) :
    chargedTank minutes st n k = watchAtRest minutes { bookCharged (-(n : Int)) k with
      reserved := k.reserved - st.target, receipt := k.receipt.map fun r => { r with drawn := r.drawn + n } } := by
  unfold chargedTank
  rw [if_pos hd]

theorem chargedTank_recover (hd : ¬ (st.kind = .preset ∨ st.kind = .openFill)) (minutes n : Nat) (k : Tank) :
    chargedTank minutes st n k = watchAtRest minutes { bookCharged (n : Int) k with
      reserved := k.reserved - st.target, receipt := k.receipt } := by
  unfold chargedTank
  rw [if_neg hd, ← bookCharged_receipt (n : Int) k]

theorem bookChange_draw (hd : st.kind = .preset ∨ st.kind = .openFill) : bookChange st = -(netOf st : Int) := if_pos hd

theorem bookChange_recover (hd : ¬ (st.kind = .preset ∨ st.kind = .openFill)) : bookChange st = netOf st := if_neg hd

theorem drawnOf_draw (hd : st.kind = .preset ∨ st.kind = .openFill) : drawnOf [st] = netOf st := by
  rw [drawnOf, sum_filter_one, if_pos (decide_eq_true hd)]

theorem drawnOf_recover (hd : ¬ (st.kind = .preset ∨ st.kind = .openFill)) : drawnOf [st] = 0 := by
  rw [drawnOf, sum_filter_one, if_neg (by simpa using hd)]

/-- The end report of one step (R91). -/
theorem tankReleased_one (minutes : Nat) (st : Step) (k : Tank) :
    TankReleased [st] k (chargedTank minutes st (netOf st) k) := by
  have htarget : k.reserved - st.target = k.reserved - ([st].map (·.target)).sum := by simp
  by_cases hd : st.kind = .preset ∨ st.kind = .openFill
  · rw [chargedTank_draw hd]
    refine tankReleased_of (watchAtRest_of (bookCharged_only _ k) minutes _ _) htarget ?_ ?_ ?_
    · rw [booked_one, bookChange_draw hd]
    · rw [booked_one, bookChange_draw hd]
    · rw [drawnOf_draw hd]
  · rw [chargedTank_recover hd]
    refine tankReleased_of (watchAtRest_of (bookCharged_only _ k) minutes _ _) htarget ?_ ?_ ?_
    · rw [booked_one, bookChange_recover hd]
    · rw [booked_one, bookChange_recover hd]
    · rw [drawnOf_recover hd]
      cases k.receipt <;> rfl

end

/-! ## One step (R28, R47) -/

/-- A step that external reset has reached. -/
def resetDone (st : Step) : Step := if InFlight st then { resetEnd st with limitedBy := endLimit st } else st

theorem Step.ended_reset {st : Step} (h : InFlight st) (r : StepRef) :
    st.ended (endReport r st .reset (meteredFigures st) st.cause) = resetDone st := by
  have hm : meteredFigures st
      = { gross := grossOf st, net := netOf st, overrun := netOf st - st.target, residue := st.target - netOf st } := rfl
  rw [resetDone, if_pos h, resetEnd, if_pos h, Step.ended, endReport, hm]

theorem State.resetAt_stays {t : State} {r : StepRef} {st : Step} (hst : HasStep t r st) (hf : ¬ InFlight st) :
    t.resetAt r = t := by
  rw [State.resetAt, State.stepAt_eq_some.mpr hst]
  exact if_neg fun e => hf ((Step.isStarted_iff st).mp e)

/-- A step in flight ends RESET (R28, R49). -/
theorem State.resetAt_ends {t : State} {r : StepRef} {st : Step} (hst : HasStep t r st) (hf : InFlight st)
    (he : t.ends = []) : ∃ p, t.resetAt r = { t with
      orders := putStep t r (resetDone st)
      tanks := t.tanks.modify st.ctx.tank (chargedTank (t.cfg.tanks.get st.ctx.tank).quietTime st (netOf st))
      hoses := t.hoses.modify st.hose freedChannel, ports := p } := by
  have hsend := t.sendEnd_eq st (endReport r st .reset (meteredFigures st) st.cause) rfl
  have hat : t.resetAt r = State.raiseAt (State.modStep { t.resetStep r st with ends := [] } r
      (Step.ended (endReport r st .reset (meteredFigures st) st.cause))) .stepEnded r.island := by
    rw [State.resetAt, State.stepAt_eq_some.mpr hst]
    exact if_pos ((Step.isStarted_iff st).mpr hf)
  have hnet : (endReport r st .reset (meteredFigures st) st.cause).figures.net = netOf st := rfl
  dsimp only at hsend
  rw [hnet] at hsend
  have hreset : t.resetStep r st = t.sendEnd st (endReport r st .reset (meteredFigures st) st.cause) := rfl
  rw [hsend] at hreset
  generalize hb : ({ t.resetStep r st with ends := [] } : State) = b at hat
  have hbo : b.orders = t.orders := by rw [← hb, hreset]
  have hbst : HasStep b r st := (HasStep.congr (by rw [hbo])).mpr hst
  rw [State.modStep_eq hbst, Step.ended_reset hf, State.raiseAt_eq] at hat
  have hput : putStep b r (resetDone st) = putStep t r (resetDone st) := by rw [putStep, putStep, hbo]
  refine ⟨raised { b with orders := putStep b r (resetDone st) } [noticeAt .stepEnded r.island], ?_⟩
  rw [hat, hput]
  generalize raised { b with orders := putStep t r (resetDone st) } [noticeAt .stepEnded r.island] = p
  rw [← hb, hreset, ← he]

end Sys2Proof.Machine
end

section
/-! SUPPORT. External reset reaches the steps of an order in list order (R28, R49). -/

namespace Sys2Proof.Machine

open Sys2Proof.Safety

/-- An order whose first steps external reset has reached. -/
def resetOrder (k : Nat) (o : Order) : Order :=
  { o with steps := o.steps.mapIdx fun j st => if j < k then resetDone st else st }

theorem resetDone_of_not {st : Step} (h : ¬ InFlight st) : resetDone st = st := if_neg h

theorem resetOrder_zero (o : Order) : resetOrder 0 o = o := by
  have : (o.steps.mapIdx fun j st => if j < 0 then resetDone st else st) = o.steps := by
    refine (mapIdx_congr fun j st _ => if_neg (Nat.not_lt_zero j)).trans (mapIdx_snd _)
  rw [resetOrder, this]

theorem resetOrder_reached (k : Nat) (o : Order) : ResetReached o (resetOrder k o) k := by
  refine ⟨rfl, List.length_mapIdx, fun j st w hst hw => ?_⟩
  rw [resetOrder, List.getElem?_mapIdx, hst] at hw
  cases hw
  by_cases hj : j < k
  · by_cases hf : InFlight st
    · rw [if_pos ⟨hj, hf⟩]
      simp only [if_pos hj, resetDone, if_pos hf]
    · rw [if_neg fun e => hf e.2]
      simp only [if_pos hj, resetDone_of_not hf]
  · rw [if_neg fun e => hj e.1]
    simp only [if_neg hj]

theorem resetOrder_getElem? {k : Nat} {o : Order} {st : Step} (h : o.steps[k]? = some st) :
    (resetOrder k o).steps[k]? = some st := by
  rw [resetOrder, List.getElem?_mapIdx, h]
  exact congrArg some (if_neg (Nat.lt_irrefl k))

/-- The next step. -/
theorem resetOrder_succ {k : Nat} {o : Order} {st : Step} (h : o.steps[k]? = some st) :
    { resetOrder k o with steps := (resetOrder k o).steps.set k (resetDone st) } = resetOrder (k + 1) o := by
  refine congrArg (fun l => { o with steps := l }) (List.ext_getElem? fun j => ?_)
  rw [resetOrder, List.getElem?_set, List.getElem?_mapIdx, List.getElem?_mapIdx]
  by_cases hj : k = j
  · subst hj
    obtain ⟨hlt, -⟩ := List.getElem?_eq_some_iff.mp h
    rw [if_pos rfl, if_pos (by simpa using hlt), h]
    exact congrArg some (if_pos (Nat.lt_succ_self k)).symm
  · rw [if_neg hj]
    cases o.steps[j]? with
    | none => rfl
    | some w => exact congrArg some (if_congr (by omega) rfl rfl)

/-- The steps of a list that are in flight and have a tank as captured tank. -/
def onTank (n : TankNo) (l : List Step) : List Step := l.filter fun st => decide (InFlight st ∧ st.ctx.tank = n)

theorem onTank_append (n : TankNo) (l : List Step) (st : Step) :
    onTank n (l ++ [st]) = onTank n l ++ if InFlight st ∧ st.ctx.tank = n then [st] else [] := by
  rw [onTank, List.filter_append, onTank]
  congr 1
  by_cases h : InFlight st ∧ st.ctx.tank = n
  · rw [if_pos h]
    exact List.filter_cons_of_pos (decide_eq_true h)
  · rw [if_neg h]
    exact List.filter_cons_of_neg (fun e => h (of_decide_eq_true e))

/-- The first steps of an order have ended RESET. -/
structure StepsReset (t : State) (i : IslandNo) (o : Order) (k : Nat) (u : State) : Prop where
  only : u = { t with orders := u.orders, tanks := u.tanks, hoses := u.hoses, ports := u.ports }
  orders : u.orders = putOrder t i (resetOrder k o)
  tanks : ∀ n, TankReleased (onTank n (o.steps.take k)) (t.tanks.get n) (u.tanks.get n)
  hoses : ∀ h, u.hoses.get h = t.hoses.get h ∨ u.hoses.get h = freedChannel (t.hoses.get h)
  freed : ∀ st ∈ o.steps.take k, InFlight st → u.hoses.get st.hose = freedChannel (t.hoses.get st.hose)

section
variable {t u : State} {i : IslandNo} {o : Order} {k : Nat}

theorem StepsReset.zero (ho : t.orders.get i = some o) : StepsReset t i o 0 t where
  only := rfl
  orders := by rw [resetOrder_zero, putOrder_self ho]
  tanks n := tankReleased_nil _
  hoses h := .inl rfl
  freed st hst := absurd hst List.not_mem_nil

/-- The reset reaches one more step of the order. -/
theorem StepsReset.succ (h : StepsReset t i o k u) (he : t.ends = []) {st : Step} (hst : o.steps[k]? = some st) :
    StepsReset t i o (k + 1) (u.resetAt ⟨i, k⟩) := by
  have hget : u.orders.get i = some (resetOrder k o) := by rw [h.orders, putOrder_get, if_pos rfl]
  have hhas : HasStep u ⟨i, k⟩ st := ⟨_, hget, resetOrder_getElem? hst⟩
  have hue : u.ends = [] := by rw [h.only]; exact he
  have htake : o.steps.take (k + 1) = o.steps.take k ++ [st] := by
    rw [List.take_add_one, hst]
    rfl
  have hput : putStep u ⟨i, k⟩ (resetDone st) = putOrder t i (resetOrder (k + 1) o) := by
    refine Table.ext_get fun j => ?_
    rw [putStep_get, putOrder_get, h.orders]
    by_cases hj : j = i
    · rw [if_pos hj, if_pos hj, putOrder_get, if_pos hj, ← resetOrder_succ hst]
      rfl
    · rw [if_neg hj, if_neg hj, putOrder_get, if_neg hj]
  by_cases hf : InFlight st
  · obtain ⟨p, hr⟩ := State.resetAt_ends hhas hf hue
    rw [hr]
    refine ⟨by rw [h.only], hput, fun n => ?_, fun x => ?_, fun w hw hwf => ?_⟩
    · dsimp only
      rw [htake, onTank_append, Table.modify_get]
      by_cases hn : n = st.ctx.tank
      · rw [if_pos hn, if_pos ⟨hf, hn.symm⟩, ← hn]
        exact tankReleased_append (h.tanks n) (tankReleased_one _ st _)
      · rw [if_neg hn, if_neg fun e => hn e.2.symm, List.append_nil]
        exact h.tanks n
    · dsimp only
      rw [Table.modify_get]
      split
      · next hx =>
        right
        rw [hx]
        rcases h.hoses st.hose with e | e
        · rw [e]
        · rw [e]; rfl
      · exact h.hoses x
    · dsimp only
      rw [Table.modify_get]
      rw [htake] at hw
      split
      · next hx =>
        rw [hx]
        rcases h.hoses st.hose with e | e
        · rw [e]
        · rw [e]; rfl
      · next hx =>
        rcases List.mem_append.mp hw with hw | hw
        · exact h.freed w hw hwf
        · cases List.mem_singleton.mp hw
          exact absurd rfl hx
  · rw [State.resetAt_stays hhas hf]
    have hsame : resetOrder (k + 1) o = resetOrder k o := by
      obtain ⟨hlt, hw⟩ := List.getElem?_eq_some_iff.mp (resetOrder_getElem? hst)
      have hset : (resetOrder k o).steps.set k st = (resetOrder k o).steps := by
        rw [← hw]
        exact List.set_getElem_self hlt
      rw [← resetOrder_succ hst, resetDone_of_not hf, hset]
    refine ⟨h.only, by rw [hsame]; exact h.orders, fun n => ?_, h.hoses, fun w hw hwf => ?_⟩
    · rw [htake, onTank_append, if_neg fun e => hf e.1, List.append_nil]
      exact h.tanks n
    · rw [htake] at hw
      rcases List.mem_append.mp hw with hw | hw
      · exact h.freed w hw hwf
      · cases List.mem_singleton.mp hw
        exact absurd hwf hf

end

end Sys2Proof.Machine
end

section
/-! SUPPORT. An order that external reset has reached is handed off RESET (R25, R28, R119 to R122). -/

namespace Sys2Proof.Machine

open Sys2Proof.Safety

/-- A step when its order is handed off RESET. -/
def resetFinal (st : Step) : Step := { resetEnd st with limitedBy := if InFlight st then endLimit st else st.limitedBy }

/-- An order when it is handed off RESET. -/
def resetLast (o : Order) : Order := { o with steps := o.steps.map resetFinal }

theorem resetFinal_eq (st : Step) :
    (if (resetDone st).state = .pending then { resetDone st with state := .notRun } else resetDone st) = resetFinal st := by
  unfold resetFinal resetDone
  by_cases hf : InFlight st
  · rw [if_pos hf, if_pos hf, resetEnd, if_pos hf]
    exact if_neg nofun
  · rw [if_neg hf, if_neg hf, resetEnd, if_neg hf]
    split <;> rfl

theorem resetOrder_dropPending (o : Order) : (resetOrder o.steps.length o).dropPending = resetLast o := by
  refine congrArg (fun l => { o with steps := l }) (List.ext_getElem? fun j => ?_)
  rw [resetOrder, List.getElem?_map, List.getElem?_mapIdx, List.getElem?_map]
  cases hj : o.steps[j]? with
  | none => rfl
  | some st =>
    obtain ⟨hlt, -⟩ := List.getElem?_eq_some_iff.mp hj
    simp only [Option.map_some, if_pos hlt]
    rw [resetFinal_eq]

/-! ## What an order has drawn -/

theorem drawnBy_reset (sort : Step → Bool) (h : ∀ st, sort (resetFinal st) = sort (resetEnd st)) (l : List Step) :
    drawnBy sort (l.map resetFinal) = drawnBy sort (l.map resetEnd) := by
  have hp (st : Step) : (decide ((resetFinal st).state = .ended ∧ ((resetFinal st).kind = .preset ∨ (resetFinal st).kind = .openFill))
      && sort (resetFinal st)) = (decide ((resetEnd st).state = .ended
        ∧ ((resetEnd st).kind = .preset ∨ (resetEnd st).kind = .openFill)) && sort (resetEnd st)) := by
    rw [h]
    rfl
  have hn : finalNetOf ∘ resetFinal = finalNetOf ∘ resetEnd := rfl
  unfold drawnBy
  rw [List.filter_map, List.filter_map, List.map_map, List.map_map, hn]
  exact congrArg (fun p => ((l.filter p).map (finalNetOf ∘ resetEnd)).sum) (funext hp)

theorem accountSettled_reset {s : State} {hour : Option Nat} {o : Order} {a b : Account} {high : Bool}
    (h : AccountSettled s hour (resetLast o).steps a b high) : AccountSettled s hour (o.steps.map resetEnd) a b high := by
  have hfuel : fuelDrawn (o.steps.map resetFinal) = fuelDrawn (o.steps.map resetEnd) := drawnBy_reset _ (fun _ => rfl) _
  have hall : drawnBy (fun _ => true) (o.steps.map resetFinal) = drawnBy (fun _ => true) (o.steps.map resetEnd) :=
    drawnBy_reset _ (fun _ => rfl) _
  have hfluid (c : Nat) : fluidDrawn c (o.steps.map resetFinal) = fluidDrawn c (o.steps.map resetEnd) :=
    drawnBy_reset _ (fun _ => rfl) _
  unfold AccountSettled at *
  rw [resetLast] at h
  simp only [hfuel, hall, hfluid] at h
  exact h

/-! ## The record (R25, R28) -/

/-- The SERVICE record of an order that external reset ends. -/
def resetRecord (s : State) (i : IslandNo) (o : Order) : ServiceRecord :=
  { island := i, machine := o.machine, hour := o.hour, admissionClock := o.admissionClock, endClock := s.supply.clock
    status := .reset, steps := (resetLast o).steps.map stepRecord }

theorem serviceRecord_resetLast (s : State) (i : IslandNo) (o : Order) :
    serviceRecord s i (resetLast o) .reset = .service (resetRecord s i o) := rfl

theorem resetRecord_of (s : State) (i : IslandNo) (o : Order) :
    ServiceRecordOf s i o .reset (o.steps.map resetEnd) (resetRecord s i o) := by
  obtain ⟨rec, hrec, h₁, h₂, h₃, h₄, h₅, h₆, h₇, h₈⟩ := serviceRecord_of s i (resetLast o) .reset
  rw [serviceRecord_resetLast] at hrec
  cases hrec
  refine ⟨h₁, h₂, h₃, h₄, h₅, h₆, ?_, fun k st w hst hw => ?_⟩
  · rw [h₇, resetLast, List.length_map, List.length_map]
  · rw [List.getElem?_map] at hst
    obtain ⟨x, hx, rfl⟩ := Option.map_eq_some_iff.mp hst
    exact h₈ k (resetFinal x) w (by rw [resetLast, List.getElem?_map, hx]; rfl) hw

/-! ## The island -/

/-- An island's order has ended RESET and is handed off (R28). -/
structure IslandReset (t : State) (i : IslandNo) (o : Order) (u : State) : Prop where
  only : u = { t with
    orders := u.orders, tanks := u.tanks, hoses := u.hoses, ports := u.ports, islands := u.islands, accounts := u.accounts
    journal := u.journal }
  orders : u.orders = t.orders.put i none
  tanks : ∀ n, TankReleased (onTank n o.steps) (t.tanks.get n) (u.tanks.get n)
  hoses : ∀ h, u.hoses.get h = t.hoses.get h ∨ u.hoses.get h = freedChannel (t.hoses.get h)
  freed : ∀ st ∈ o.steps, InFlight st → u.hoses.get st.hose = freedChannel (t.hoses.get st.hose)
  journal : u.journal = withRecord t.journal (o.clockNotSet || !t.supply.clockSet) (.service (resetRecord t i o)) 1
  accounts : u.accounts = (t.modAccount o.machine fun a =>
    (a.afterOrder t.cfg.minSpan t.supply.clock ((resetLast o).summary i)).1).accounts

section
variable {t u : State} {i : IslandNo} {o : Order} {k : Nat}

theorem StepsReset.fold (ho : t.orders.get i = some o) (he : t.ends = []) (hk : k ≤ o.steps.length) :
    StepsReset t i o k (((List.range k).map fun j => StartAction.endStep ⟨i, j⟩).foldl State.startAction t) := by
  induction k with
  | zero => exact StepsReset.zero ho
  | succ k ih =>
    rw [List.range_succ, List.map_append, List.foldl_append]
    exact (ih (by omega)).succ he (List.getElem?_eq_getElem (by omega))

/-- The actions of stage 2 at one island (R28). -/
def resetBlock (s : State) (i : IslandNo) : List StartAction := (s.stepsOf i).map (fun p => .endStep p.1) ++ [.endOrder i]

theorem resetBlock_some {s : State} (ho : s.orders.get i = some o) :
    resetBlock s i = (List.range o.steps.length).map (fun j => StartAction.endStep ⟨i, j⟩) ++ [.endOrder i] := by
  rw [resetBlock, State.stepsOf_eq ho, List.map_map]
  refine congrArg (· ++ [StartAction.endOrder i]) (List.ext_getElem? fun n => ?_)
  rw [List.getElem?_map, List.getElem?_map, List.getElem?_zipIdx]
  by_cases hn : n < o.steps.length <;> simp [hn]

theorem resetBlock_none {s : State} (ho : s.orders.get i = none) : resetBlock s i = [.endOrder i] := by
  rw [resetBlock, State.stepsOf, ho]
  rfl

theorem State.resetHandOff_none (ho : t.orders.get i = none) : t.resetHandOff i = t := by
  have : t.modOrder i Order.dropPending = t := by
    rw [State.modOrder, State.setOrder, Table.put_self_eq (by rw [ho]; rfl)]
  rw [State.resetHandOff, this, ho]

theorem StepsReset.handOff (h : StepsReset t i o o.steps.length u) : IslandReset t i o (u.resetHandOff i) := by
  have hget : u.orders.get i = some (resetOrder o.steps.length o) := by rw [h.orders, putOrder_get, if_pos rfl]
  have hmod : u.modOrder i Order.dropPending = { u with orders := putOrder u i (resetLast o) } := by
    rw [State.modOrder_eq hget, resetOrder_dropPending]
  generalize hb : ({ u with orders := putOrder u i (resetLast o) } : State) = b at hmod
  have hbget : b.orders.get i = some (resetLast o) := by rw [← hb]; exact (putOrder_get i).trans (if_pos rfl)
  have hoff : u.resetHandOff i = b.handOff i (resetLast o) .reset := by
    rw [State.resetHandOff, hmod, hbget]
  obtain ⟨high, hh, -, -⟩ := b.handOff_eq i (resetLast o) .reset
  rw [hoff, hh, serviceRecord_resetLast]
  have hbj : b.journal = t.journal := by rw [← hb, h.only]
  have hbs : b.supply = t.supply := by rw [← hb, h.only]
  have hba : b.accounts = t.accounts := by rw [← hb, h.only]
  have hbc : b.cfg = t.cfg := by rw [← hb, h.only]
  have hrec : resetRecord b i o = resetRecord t i o := by rw [resetRecord, hbs, resetRecord]
  refine ⟨by rw [← hb, h.only], ?_, fun n => ?_, fun x => ?_, fun st hst hf => ?_, ?_, ?_⟩
  · refine Table.ext_get fun j => ?_
    dsimp only
    rw [Table.put_get, Table.put_get]
    split
    · rfl
    · next hj => rw [← hb, putOrder_get, if_neg hj, h.orders, putOrder_get, if_neg hj]
  · have := h.tanks n
    rw [List.take_length] at this
    rw [← hb]
    exact this
  · rw [← hb]; exact h.hoses x
  · rw [← hb]; exact h.freed st (by rw [List.take_length]; exact hst) hf
  · dsimp only
    rw [hbj, hbs, hrec]
    rfl
  · dsimp only
    rw [hbc, hbs, State.modAccount, hba]
    rfl

/-- Stage 2 at one island (R28). -/
theorem State.resetBlock_islandReset {s : State} (hs : s.orders.get i = some o) (ho : t.orders.get i = some o) (he : t.ends = []) :
    IslandReset t i o ((resetBlock s i).foldl State.startAction t) := by
  rw [resetBlock_some hs, List.foldl_append]
  exact (StepsReset.fold ho he (Nat.le_refl _)).handOff

end

end Sys2Proof.Machine
end

section
/-! SUPPORT. External reset ends the orders in ascending island order (R28, R119 to R122). -/

namespace Sys2Proof.Machine

open Sys2Proof.Safety

/-- The steps in flight of an island's order that have a tank as captured tank. -/
def islandOnTank (z : State) (n : TankNo) (i : IslandNo) : List Step :=
  match z.orders.get i with
  | none => []
  | some o => onTank n o.steps

theorem inFlightOn_eq (z : State) (n : TankNo) : inFlightOn z n = allIslands.flatMap (islandOnTank z n) := rfl

/-- The SERVICE records of the orders that external reset ends; an island without one has no record of its own. -/
def resetRecords (z : State) (i : IslandNo) : ServiceRecord :=
  match z.orders.get i with
  | some o => resetRecord z i o
  | none => { island := i, machine := 0, hour := none, admissionClock := 0, endClock := 0, status := .reset, steps := [] }

/-- The journal with the SERVICE record of an island's order, if it has one. -/
def orderRecorded (z : State) (j : Journal) (i : IslandNo) : Journal :=
  match z.orders.get i with
  | none => j
  | some o => withRecord j (o.clockNotSet || !z.supply.clockSet) (.service (resetRecords z i)) 1

theorem ordersRecorded_eq (z : State) (j : Journal) :
    ordersRecorded z (resetRecords z) j = allIslands.foldl (orderRecorded z) j := rfl

theorem orderRecorded_some {z : State} {i : IslandNo} {o : Order} (ho : z.orders.get i = some o) (j : Journal) :
    orderRecorded z j i = withRecord j (o.clockNotSet || !z.supply.clockSet) (.service (resetRecord z i o)) 1 := by
  rw [orderRecorded, ho, resetRecords, ho]

theorem orderRecorded_none {z : State} {i : IslandNo} (ho : z.orders.get i = none) (j : Journal) : orderRecorded z j i = j := by
  rw [orderRecorded, ho]

/-- The orders of some islands have ended RESET (R28). -/
structure OrdersReset (z : State) (l : List IslandNo) (u : State) : Prop where
  only : u = { z with
    orders := u.orders, tanks := u.tanks, hoses := u.hoses, ports := u.ports, islands := u.islands, accounts := u.accounts
    journal := u.journal }
  orders : ∀ j, u.orders.get j = if j ∈ l then none else z.orders.get j
  tanks : ∀ n, TankReleased (l.flatMap (islandOnTank z n)) (z.tanks.get n) (u.tanks.get n)
  hoses : ∀ h, u.hoses.get h = z.hoses.get h ∨ u.hoses.get h = freedChannel (z.hoses.get h)
  freed : ∀ i ∈ l, ∀ o, z.orders.get i = some o → ∀ st ∈ o.steps, InFlight st →
    u.hoses.get st.hose = freedChannel (z.hoses.get st.hose)
  journal : u.journal = l.foldl (orderRecorded z) z.journal
  machines : u.accounts.map (·.machine) = z.accounts.map (·.machine)
  settled : ∀ i ∈ l, ∀ o a, z.orders.get i = some o → z.findAccount o.machine = some a →
    (∀ j ∈ l, ∀ p, z.orders.get j = some p → p.machine = o.machine → j = i) →
    ∃ b high, u.findAccount o.machine = some b ∧ AccountSettled z o.hour (o.steps.map resetEnd) a b high
  others : ∀ n, (∀ i ∈ l, ∀ o, z.orders.get i = some o → o.machine ≠ n) → u.findAccount n = z.findAccount n

section
variable {z u v : State} {l : List IslandNo} {a : IslandNo}

theorem OrdersReset.nil (z : State) : OrdersReset z [] z where
  only := rfl
  orders _ := (if_neg List.not_mem_nil).symm
  tanks _ := tankReleased_nil _
  hoses _ := .inl rfl
  freed _ hi := absurd hi List.not_mem_nil
  journal := rfl
  machines := rfl
  settled _ hi := absurd hi List.not_mem_nil
  others _ _ := rfl

theorem freedChannel_again {x y w : Channel} (h : x = y ∨ x = freedChannel y) (h' : w = x ∨ w = freedChannel x) :
    w = y ∨ w = freedChannel y := by
  rcases h' with rfl | rfl
  · exact h
  · rcases h with rfl | rfl
    · exact .inr rfl
    · exact .inr rfl

/-- An island without an order. -/
theorem OrdersReset.append_none (h : OrdersReset z l u) (ha : z.orders.get a = none) : OrdersReset z (l ++ [a]) u where
  only := h.only
  orders j := by
    rw [h.orders]
    by_cases hj : j = a
    · subst hj
      rw [ha, ite_self, ite_self]
    · exact if_congr (by simp [hj]) rfl rfl
  tanks n := by
    have : islandOnTank z n a = [] := by rw [islandOnTank, ha]
    rw [List.flatMap_append, List.flatMap_singleton, this, List.append_nil]
    exact h.tanks n
  hoses := h.hoses
  freed i hi o ho := by
    rcases List.mem_append.mp hi with hi | hi
    · exact h.freed i hi o ho
    · cases List.mem_singleton.mp hi
      rw [ha] at ho
      cases ho
  journal := by
    rw [List.foldl_append, ← h.journal]
    exact (orderRecorded_none ha _).symm
  machines := h.machines
  settled i hi o acc ho := by
    rcases List.mem_append.mp hi with hi | hi
    · exact fun hacc hu => h.settled i hi o acc ho hacc fun j hj => hu j (List.mem_append_left _ hj)
    · cases List.mem_singleton.mp hi
      rw [ha] at ho
      cases ho
  others n hn := h.others n fun i hi => hn i (List.mem_append_left _ hi)

/-- An island with an order. -/
theorem OrdersReset.append_some (h : OrdersReset z l u) {o : Order} (ha : z.orders.get a = some o) (hnew : a ∉ l)
    (hv : IslandReset u a o v) : OrdersReset z (l ++ [a]) v := by
  have hcfg : u.cfg = z.cfg := by rw [h.only]
  have hsup : u.supply = z.supply := by rw [h.only]
  -- the accounts after the hand-off
  have hmachine : ∀ x : Account, (x.afterOrder z.cfg.minSpan z.supply.clock ((resetLast o).summary a)).1.machine = x.machine :=
    fun x => Account.afterOrder_machine _ _ _ x
  have hacc : v.accounts = (u.modAccount o.machine fun x =>
      (x.afterOrder z.cfg.minSpan z.supply.clock ((resetLast o).summary a)).1).accounts := by rw [hv.accounts, hcfg, hsup]
  have hfind (n : Nat) : v.findAccount n = if n = o.machine then (u.findAccount o.machine).map fun x =>
      (x.afterOrder z.cfg.minSpan z.supply.clock ((resetLast o).summary a)).1 else u.findAccount n := by
    rw [← State.findAccount_modAccount u o.machine hmachine n, State.findAccount, hacc, State.findAccount]
  refine ⟨by rw [hv.only, h.only], fun j => ?_, fun n => ?_, fun x => freedChannel_again (h.hoses x) (hv.hoses x),
    fun i hi p hp st hst hf => ?_, ?_, ?_, fun i hi p acc hp hpa hu => ?_, fun n hn => ?_⟩
  · rw [hv.orders, Table.put_get, h.orders]
    by_cases hj : j = a
    · rw [if_pos hj, if_pos (by simp [hj])]
    · rw [if_neg hj]
      exact if_congr (by simp [hj]) rfl rfl
  · have hat : islandOnTank z n a = onTank n o.steps := by rw [islandOnTank, ha]
    rw [List.flatMap_append, List.flatMap_singleton, hat]
    exact tankReleased_append (h.tanks n) (hv.tanks n)
  · rcases List.mem_append.mp hi with hi | hi
    · have hu := h.freed i hi p hp st hst hf
      rcases hv.hoses st.hose with e | e
      · rw [e, hu]
      · rw [e, hu]; rfl
    · cases List.mem_singleton.mp hi
      cases ha.symm.trans hp
      rw [hv.freed st hst hf]
      rcases h.hoses st.hose with e | e
      · rw [e]
      · rw [e]; rfl
  · have hrec : resetRecord u a o = resetRecord z a o := by rw [resetRecord, hsup, resetRecord]
    rw [List.foldl_append, ← h.journal, hv.journal, hsup, hrec]
    exact (orderRecorded_some ha _).symm
  · rw [hacc, ← h.machines, State.modAccount]
    refine (List.map_map ..).trans (List.map_congr_left fun x _ => ?_)
    simp only [Function.comp]
    split
    · exact hmachine x
    · rfl
  · rcases List.mem_append.mp hi with hi | hi
    · obtain ⟨b, high, hb, hs⟩ := h.settled i hi p acc hp hpa fun j hj => hu j (List.mem_append_left _ hj)
      have hne : p.machine ≠ o.machine := fun e => hnew (hu a (by simp) o ha e.symm ▸ hi)
      exact ⟨b, high, by rw [hfind, if_neg hne]; exact hb, hs⟩
    · cases List.mem_singleton.mp hi
      cases ha.symm.trans hp
      have hbefore : u.findAccount o.machine = some acc := by
        rw [h.others o.machine fun j hj q hq hm => hnew (hu j (List.mem_append_left _ hj) q hq hm ▸ hj)]
        exact hpa
      exact ⟨_, _, by rw [hfind, if_pos rfl, hbefore]; rfl,
        accountSettled_reset (Account.afterOrder_settled z a (resetLast o) acc)⟩
  · have hne : n ≠ o.machine := fun e => hn a (by simp) o ha e.symm
    rw [hfind, if_neg hne]
    exact h.others n fun i hi => hn i (List.mem_append_left _ hi)

/-- The actions of stage 2 at some islands. -/
theorem State.ordersReset (he : z.ends = []) : ∀ l : List IslandNo, l.Nodup →
    OrdersReset z l ((l.flatMap (resetBlock z)).foldl State.startAction z) := by
  intro l
  induction l using List.reverseRecOn with
  | nil => exact fun _ => OrdersReset.nil z
  | append_singleton l a ih =>
    intro hn
    obtain ⟨hl, -, hd⟩ := List.nodup_append.mp hn
    have hnew : a ∉ l := fun hm => hd a hm a (by simp) rfl
    have h := ih hl
    rw [List.flatMap_append, List.flatMap_singleton, List.foldl_append]
    generalize (l.flatMap (resetBlock z)).foldl State.startAction z = u at h
    have hua : u.orders.get a = z.orders.get a := by rw [h.orders, if_neg hnew]
    have hue : u.ends = [] := by rw [h.only]; exact he
    cases ha : z.orders.get a with
    | none =>
      rw [resetBlock_none ha]
      have : u.startAction (.endOrder a) = u := State.resetHandOff_none (hua.trans ha)
      rw [List.foldl_cons, this, List.foldl_nil]
      exact h.append_none ha
    | some o => exact h.append_some ha hnew (State.resetBlock_islandReset ha (hua.trans ha) hue)

theorem State.resetActions_eq (z : State) : z.resetActions = allIslands.flatMap (resetBlock z) := rfl

/-! ## As far as it goes -/

/-- A first part of joined lists ends within one of them. -/
theorem take_flatMap {α β : Type} (f : α → List β) : ∀ (l : List α) (n : Nat), (l.flatMap f).length ≤ n
    ∨ ∃ p a q k, l = p ++ a :: q ∧ k < (f a).length ∧ (l.flatMap f).take n = p.flatMap f ++ (f a).take k := by
  intro l
  induction l with
  | nil => exact fun n => .inl (Nat.zero_le n)
  | cons a l ih =>
    intro n
    by_cases hn : n < (f a).length
    · refine .inr ⟨[], a, l, n, rfl, hn, ?_⟩
      rw [List.flatMap_cons, List.take_append_of_le_length (Nat.le_of_lt hn)]
      rfl
    · rcases ih (n - (f a).length) with h | ⟨p, b, q, k, hl, hk, ht⟩
      · left
        rw [List.flatMap_cons, List.length_append]
        omega
      · refine .inr ⟨a :: p, b, q, k, by rw [hl]; rfl, hk, ?_⟩
        have htake : (f a ++ l.flatMap f).take n = f a ++ (l.flatMap f).take (n - (f a).length) := by
          rw [List.take_append, List.take_of_length_le (Nat.le_of_not_lt hn)]
        rw [List.flatMap_cons, htake, ht, List.flatMap_cons, List.append_assoc]

/-- What holds while stage 2 is under way. -/
structure ResetsOrders (z u : State) : Prop where
  only : u = { z with
    orders := u.orders, tanks := u.tanks, hoses := u.hoses, ports := u.ports, islands := u.islands, accounts := u.accounts
    journal := u.journal }
  hoses : ∀ h, u.hoses.get h = z.hoses.get h ∨ u.hoses.get h = freedChannel (z.hoses.get h)
  orders : ∀ i p, u.orders.get i = some p → ∃ o k, z.orders.get i = some o ∧ ResetReached o p k

theorem OrdersReset.resets (h : OrdersReset z l u) : ResetsOrders z u where
  only := h.only
  hoses := h.hoses
  orders i p hp := by
    rw [h.orders] at hp
    split at hp
    · cases hp
    · exact ⟨p, 0, hp, by simpa only [resetOrder_zero] using resetOrder_reached 0 p⟩

theorem OrdersReset.reaches (h : OrdersReset z l u) {o : Order} {k : Nat} (ha : z.orders.get a = some o)
    (hv : StepsReset u a o k v) : ResetsOrders z v where
  only := by rw [hv.only, h.only]
  hoses x := freedChannel_again (h.hoses x) (hv.hoses x)
  orders i p hp := by
    rw [hv.orders, putOrder_get] at hp
    split at hp
    · next hi =>
      cases hp
      exact ⟨o, k, by rw [hi]; exact ha, resetOrder_reached k o⟩
    · exact h.resets.orders i p hp

/-- Stage 2 as far as it goes. -/
theorem State.resetActions_take (he : z.ends = []) (n : Nat) : z.resetActions.length ≤ n
    ∨ ResetsOrders z ((z.resetActions.take n).foldl State.startAction z) := by
  rw [State.resetActions_eq]
  rcases take_flatMap (resetBlock z) allIslands n with h | ⟨p, a, q, k, hl, hk, ht⟩
  · exact .inl h
  · right
    have hnd : (p ++ a :: q).Nodup := by rw [← hl]; exact List.nodup_finRange 4
    obtain ⟨hp, -, hd⟩ := List.nodup_append.mp hnd
    have hnew : a ∉ p := fun hm => hd a hm a (List.mem_cons_self ..) rfl
    have h := State.ordersReset he p hp
    rw [ht, List.foldl_append]
    generalize (p.flatMap (resetBlock z)).foldl State.startAction z = u at h
    have hua : u.orders.get a = z.orders.get a := by rw [h.orders, if_neg hnew]
    have hue : u.ends = [] := by rw [h.only]; exact he
    cases ha : z.orders.get a with
    | none =>
      rw [resetBlock_none ha] at hk ⊢
      have hk0 : k = 0 := by simpa using hk
      subst hk0
      exact h.resets
    | some o =>
      have hblock := resetBlock_some ha
      rw [hblock, List.length_append, List.length_map, List.length_range, List.length_singleton] at hk
      have hko : k ≤ o.steps.length := by omega
      have htake : (resetBlock z a).take k = (List.range k).map fun j => StartAction.endStep ⟨a, j⟩ := by
        rw [hblock, List.take_append_of_le_length (by simpa using hko), ← List.map_take, List.take_range, Nat.min_eq_left hko]
      rw [htake]
      exact h.reaches ha (StepsReset.fold (hua.trans ha) hue hko)

end

end Sys2Proof.Machine
end

section
/-! SUPPORT. A start-up after external reset (R28, R110, R119, R196, R199). -/

namespace Sys2Proof.Machine

open Sys2Proof.Safety

section
variable {s z u : State}

/-- The part when the external reset input has been negated. -/
def State.resetLifted (s : State) : State := { s with pins := { s.pins with reset := false } }

/-- The part when stage 1 after external reset is over: as after power-on, with the retention it had (R196). -/
def State.resetBegun (s : State) : State := s.resetLifted.poweredOn s.supply.retention

theorem State.resetBegun_eq (hp : s.powered = true) : s.resetBegun = s.resetLifted.stageOne := by
  have hl : ({ s.resetLifted with powered := true } : State) = s.resetLifted := by
    have : s.resetLifted.powered = true := hp
    rw [← this]
  have hsup : s.resetLifted.stageOne.supply.retention = s.supply.retention := by
    rw [State.stageOne_supply]; rfl
  rw [State.resetBegun, State.poweredOn, hl, State.modSupply, ← hsup]

theorem State.resetBegun_resetActions (s : State) : s.resetBegun.resetActions = s.resetLifted.resetActions := rfl

theorem State.exec_externalResetNegated (hr : s.pins.reset = true) (hp : s.powered = true) (answers : Bool) (reach : StartReach) :
    exec (.externalResetNegated ⟨answers, reach⟩) s = .next (s.resetBegun.startUp
      (s.resetBegun.resetActions ++ [.load answers] ++ laterActions .externalReset) reach) := by
  have hc : (s.pins.reset && s.powered) = true := by rw [hr, hp]; rfl
  have hoff : s.resetOff answers reach = s.resetLifted.startReset answers reach := if_pos hc
  rw [exec, execExternalResetNegated]
  dsimp only
  rw [hoff, State.startReset, State.resetBegun_resetActions, s.resetBegun_eq hp]

theorem State.exec_externalResetNegated_idle (h : s.pins.reset = false ∨ s.powered = false) (run : StartRun) :
    exec (.externalResetNegated run) s = .next { s with pins := { s.pins with reset := false } } := by
  have hc : ¬ (s.pins.reset && s.powered) = true := by
    rw [Bool.and_eq_true]
    rintro ⟨h₁, h₂⟩
    rcases h with h | h
    · rw [h] at h₁; cases h₁
    · rw [h] at h₂; cases h₂
  exact congrArg Host.Outcome.next (if_neg hc)

theorem State.resetBegun_kept (s : State) : StoreKeptBy s.resetLifted s.supply.retention s.resetBegun :=
  s.resetLifted.poweredOn_kept s.supply.retention

theorem State.resetBegun_supply (s : State) : s.resetBegun.supply = { s.supply with snapshot := none, starting := false } := by
  rw [State.resetBegun, State.poweredOn_supply]
  rfl

/-! ## Both readings of the retained content: before stage 1 and after it -/

theorem serviceRecordOf_congr (hc : z.supply.clock = s.supply.clock) {i : IslandNo} {o : Order} {e : OrderEnd} {l : List Step}
    {rec : ServiceRecord} (h : ServiceRecordOf z i o e l rec) : ServiceRecordOf s i o e l rec := by
  obtain ⟨h₁, h₂, h₃, h₄, h₅, h₆⟩ := h
  exact ⟨h₁, h₂, h₃, h₄, h₅.trans hc, h₆⟩

theorem accountSettled_congr (hc : z.supply.clock = s.supply.clock) (hg : z.cfg = s.cfg) {hour : Option Nat} {l : List Step}
    {a b : Account} {high : Bool} (h : AccountSettled z hour l a b high) : AccountSettled s hour l a b high := by
  unfold AccountSettled ConsumptionTaken at *
  simp only [hc, hg] at h
  exact h

theorem tankReleased_timers {l : List Step} {k m : Tank} {x y : Timer}
    (h : TankReleased l { k with staleTimer := x, quietTimer := y } m) :
    TankReleased l k { m with staleTimer := k.staleTimer } := by
  rw [tankReleased_iff] at *
  obtain ⟨hb, hl⟩ := booked_congr l (a := { k with staleTimer := x, quietTimer := y }) (b := k) rfl rfl
  rw [hb, hl] at h
  rw [h]

theorem booksReleased_get (s : State) (k : TankNo) : (booksReleased s).get k = { s.tanks.get k with
    book := (booked (inFlightOn s k) (s.tanks.get k)).book } := Table.get_ofFn ..

theorem tankRestarted_stale (accepted strapped : Bool) (c : TankCfg) (probe : Bool) (k : Tank) (x : Timer) :
    tankRestarted accepted strapped c probe { k with staleTimer := x } = tankRestarted accepted strapped c probe k := rfl

end

/-! ## A start-up that is completed -/

section
variable {s : State} {answers : Bool}

/-- The part when every order has ended RESET. -/
def State.ordersEnded (s : State) : State := s.resetBegun.resetActions.foldl State.startAction s.resetBegun

theorem State.ordersEnded_reset (s : State) : OrdersReset s.resetBegun allIslands s.ordersEnded :=
  State.ordersReset s.resetBegun_kept.ends allIslands (List.nodup_finRange 4)

theorem OrdersReset.idle {z u : State} (h : OrdersReset z allIslands u) (he : z.ends = []) : Idle u :=
  ⟨fun i => (h.orders i).trans (if_pos (List.mem_finRange i)), by rw [h.only]; exact he⟩

theorem State.ordersEnded_load_idle (s : State) (answers : Bool) : Idle (s.ordersEnded.loadSettings answers) :=
  (s.ordersEnded_reset.idle s.resetBegun_kept.ends).congr rfl rfl

/-- The part when the stages up to 6 are over. -/
def State.resetStages (s : State) (answers : Bool) : State :=
  allTanks.foldl State.defaultTank (s.ordersEnded.loadSettings answers)

theorem State.resetStages_idle (s : State) (answers : Bool) : Idle (s.resetStages answers) := by
  have hd := (s.ordersEnded.loadSettings answers).defaultTanks
  rw [State.resetStages]
  exact (s.ordersEnded_load_idle answers).congr (by rw [hd.only]) (by rw [hd.only])

theorem State.reset_whole (s : State) (answers : Bool) :
    s.resetBegun.startUp (s.resetBegun.resetActions ++ [.load answers] ++ laterActions .externalReset) .whole
      = (s.resetStages answers).fieldBegun.inputsSampled.finishStartUp .externalReset := by
  have hload : [StartAction.load answers].foldl State.startAction s.ordersEnded = s.ordersEnded.loadSettings answers := rfl
  rw [State.startUp_whole, List.foldl_append, List.foldl_append, State.laterActions_fold, if_neg (by decide), ← State.ordersEnded,
    hload, State.resetStages]

/-- What a start-up after external reset leaves of the part. -/
theorem Begun.reset {s t : State} {answers : Bool} (hb : Begun (s.resetStages answers) t .externalReset) :
    let accepted := answers && s.supply.image.accepted
    t.running = true ∧ t.ends = [] ∧ (∀ i, t.orders.get i = none)
      ∧ t.cfg = (if accepted then s.supply.image.items else Settings.default)
      ∧ t.supply.reason = .externalReset ∧ t.supply.retention = s.supply.retention ∧ t.supply.clock = s.supply.clock
      ∧ t.supply.clockSet = s.supply.clockSet ∧ t.supply.defaulted = !accepted
      ∧ t.accounts.map (·.machine) = s.accounts.map (·.machine)
      ∧ (∃ recs : IslandNo → ServiceRecord,
          (∀ i o, s.orders.get i = some o → ServiceRecordOf s i o .reset (o.steps.map resetEnd) (recs i))
          ∧ t.journal = if accepted then ordersRecorded s recs s.journal
              else receiptsCancelled s (booksReleased s) (ordersRecorded s recs s.journal))
      ∧ (∀ k, ∃ m, TankReleased (inFlightOn s k) (s.tanks.get k) m
          ∧ t.tanks.get k = tankRestarted accepted (decide (t.cfg.straps.get k ≠ [])) (t.cfg.tanks.get k)
              (s.pins.probes.get k) m)
      ∧ (∀ i o a, s.orders.get i = some o → s.findAccount o.machine = some a →
          (∀ j p, s.orders.get j = some p → p.machine = o.machine → j = i) →
          ∃ b high, t.findAccount o.machine = some b ∧ AccountSettled s o.hour (o.steps.map resetEnd) a b high)
      ∧ (∀ n, (∀ i o, s.orders.get i = some o → o.machine ≠ n) → t.findAccount n = s.findAccount n)
      ∧ (∀ h r st, StepOfHose s h r st → InFlight st → (t.hoses.get h).step = none)
      ∧ (∀ l, (t.ports.get l).queue = []
          ∧ (∀ k : NoticeKind, k ≠ .restart → (t.ports.get l).notices.get k.index = none)
          ∧ (inMask (t.cfg.links.get l).record .restart = true →
              ∃ e, (t.ports.get l).notices.get NoticeKind.restart.index = some e ∧ e.count = 1
                ∧ e.restart = some (.externalReset, !accepted)))
      ∧ (s.pins.stop = false → (∀ i, s.pins.floats.get i = false) → (∀ k, s.pins.probes.get k = false) →
          ∀ x, t.entryAt x = s.entryAt x) := by
  intro accepted
  have hz := s.resetBegun_kept
  have hzsup := s.resetBegun_supply
  have hzcfg : s.resetBegun.cfg = s.cfg := rfl
  have hu := s.ordersEnded_reset
  unfold State.resetStages at hb
  have hd := (s.ordersEnded.loadSettings answers).defaultTanks
  have hysup : (s.ordersEnded.loadSettings answers).supply = { s.ordersEnded.supply with
      defaulted := !(answers && s.ordersEnded.supply.image.accepted)
      unsaved := !(answers && s.ordersEnded.supply.image.accepted), answered := answers, snapshot := none, lastSave := none } := rfl
  have hycfg : (s.ordersEnded.loadSettings answers).cfg
      = loadedSettings (answers && s.ordersEnded.supply.image.accepted) s.ordersEnded := rfl
  have hye : s.ordersEnded.loadSettings answers = { s.ordersEnded with
      cfg := (s.ordersEnded.loadSettings answers).cfg, ports := (s.ordersEnded.loadSettings answers).ports
      supply := (s.ordersEnded.loadSettings answers).supply } := rfl
  generalize s.ordersEnded.loadSettings answers = y at *
  generalize s.ordersEnded = u at *
  have hdall := hd.all
  generalize allTanks.foldl State.defaultTank y = d at *
  generalize s.resetBegun = z at *
  -- what the reset of the orders, the load and stage 5 keep
  have husup : u.supply = { s.supply with snapshot := none, starting := false } := by rw [hu.only]; exact hzsup
  have hydef : y.supply.defaulted = !accepted := by rw [hysup, husup]
  have hyc : y.cfg = if accepted then s.supply.image.items else Settings.default := by
    rw [hycfg, loadedSettings, husup]
  have hyclock : y.supply.clock = s.supply.clock ∧ y.supply.clockSet = s.supply.clockSet := by
    rw [hysup, husup]; exact ⟨rfl, rfl⟩
  have hyk : y.tanks = u.tanks := by rw [hye]
  have hyj : y.journal = u.journal := by rw [hye]
  have hdc : d.cfg = y.cfg := by rw [hd.only]
  have hds : d.supply = y.supply := by rw [hd.only]
  have hdpins : d.pins = s.resetLifted.pins := by rw [hd.only, hye, hu.only]; exact hz.pins
  have htc : t.cfg = y.cfg := by rw [hb.only]; exact hdc
  have hta : t.accounts = u.accounts := by rw [hb.only, hd.only, hye]
  have hto : t.orders = u.orders := by rw [hb.only, hd.only, hye]
  have htj : t.journal = d.journal := by rw [hb.only]
  have hfind (n : Nat) : t.findAccount n = u.findAccount n := by rw [State.findAccount, hta, State.findAccount]
  have hzfind (n : Nat) : z.findAccount n = s.findAccount n := by
    rw [State.findAccount, hz.accounts, State.findAccount]
    rfl
  have hzo : z.orders = s.orders := hz.orders
  have hreleased (k : TankNo) : TankReleased (inFlightOn s k) (s.tanks.get k)
      { u.tanks.get k with staleTimer := (s.tanks.get k).staleTimer } := by
    have h := hu.tanks k
    have hsteps : inFlightOn z k = inFlightOn s k := by rw [inFlightOn, inFlightOn, hzo]
    rw [← inFlightOn_eq, hsteps, hz.tanks] at h
    exact tankReleased_timers h
  refine ⟨?_, by rw [hb.only], fun i => ?_, by rw [htc, hyc], by rw [hb.only], ?_, ?_, ?_, ?_, ?_,
    ⟨resetRecords z, fun i o ho => ?_, ?_⟩, fun k => ?_, fun i o a ho ha huniq => ?_, fun n hn => ?_, fun h r st hat hf => ?_,
    fun l => ?_, fun hstop hfloats hprobes x => ?_⟩
  · have htp : t.powered = true := by rw [hb.only, hd.only, hye, hu.only]; exact hz.powered
    have htr : t.pins.reset = false := by rw [hb.only, hdpins]; rfl
    have hts : t.supply.starting = false := by rw [hb.only, hds, hysup, husup]
    rw [State.running, htp, htr, hts]
    rfl
  · rw [hto]
    exact (hu.idle hz.ends).1 i
  · rw [hb.only, hds, hysup, husup]
  · rw [hb.only, hds]; exact hyclock.1
  · rw [hb.only, hds]; exact hyclock.2
  · rw [hb.only, hds]; exact hydef
  · rw [hta, hu.machines, hz.accounts]
    rfl
  · rw [← hzo] at ho
    have hrec : resetRecords z i = resetRecord z i o := by rw [resetRecords, ho]
    rw [hrec]
    exact serviceRecordOf_congr hz.clock (resetRecord_of z i o)
  · have hrec : u.journal = ordersRecorded s (resetRecords z) s.journal := by
      have hj : z.journal = s.journal := hz.journal
      have hset : z.supply.clockSet = s.supply.clockSet := hz.clockSet
      rw [hu.journal, ← ordersRecorded_eq, hj, ordersRecorded, ordersRecorded, hzo, hset]
    rw [htj, hd.journal, hydef, ← receiptsCancelled_eq, hyj, hrec,
      receiptsCancelled_congr (s := s) (a := booksReleased s) hyclock.1 hyclock.2 (fun k => ?_) fun k => ?_]
    · cases accepted <;> rfl
    · have h := congrArg Tank.receipt ((tankReleased_iff _ _ _).mp (hreleased k))
      dsimp only at h
      rw [hyk, h, booksReleased_get, Option.map_map]
      rfl
    · have h := congrArg Tank.book ((tankReleased_iff _ _ _).mp (hreleased k))
      rw [hyk, booksReleased_get]
      exact h
  · refine ⟨_, hreleased k, ?_⟩
    rw [hb.tank_restarted hdall hdc, hydef, Bool.not_not, htc, hdpins, hyk, tankRestarted_stale]
    rfl
  · rw [← hzo] at ho
    rw [← hzfind] at ha
    obtain ⟨b, high, hb', hs⟩ := hu.settled i (List.mem_finRange i) o a ho ha fun j _ p hp hm =>
      huniq j p (by rw [← hzo]; exact hp) hm
    exact ⟨b, high, by rw [hfind]; exact hb', accountSettled_congr hz.clock hzcfg hs⟩
  · rw [hfind, hu.others n fun i _ o ho => hn i o (by rw [← hzo]; exact ho), hzfind]
  · obtain ⟨-, ⟨o, ho, hst⟩, rfl⟩ := hat
    rw [← hzo] at ho
    have hdh : d.hoses = u.hoses := by rw [hd.only, hye]
    rw [hb.hose, hdh, hu.freed r.island (List.mem_finRange _) o ho st (List.mem_of_getElem? hst) hf]
    rfl
  · obtain ⟨h₁, -, h₂, h₃⟩ := hb.ports l
    rw [hds, hydef] at h₃
    exact ⟨h₁, h₂, h₃⟩
  · have hmap : t.shut.map = d.shut.map := hb.map (by rw [hdpins]; exact hstop) (fun i => by rw [hdpins]; exact hfloats i)
      fun k => by rw [hdpins]; exact hprobes k
    have hdm : d.shut.map = s.shut.map := by rw [hd.only, hye, hu.only]; exact hz.map
    rw [State.entryAt, State.entryAt, hmap, hdm]

/-! ## A start-up that goes no further -/

/-- How far a start-up after external reset that takes some of its actions comes (R196). -/
structure ResetReaches (s : State) (n : Nat) (v : State) : Prop where
  underWay : UnderWay s.resetLifted s.supply.retention v
  clock : v.supply.clock = s.supply.clock
  clockSet : v.supply.clockSet = s.supply.clockSet
  store : n = 0 → StoreKeptBy s.resetLifted s.supply.retention v
  orders : ∀ i p, v.orders.get i = some p → ∃ o k, s.orders.get i = some o ∧ ResetReached o p k

theorem ResetsOrders.reaches {n : Nat} {v : State} (h : ResetsOrders s.resetBegun v) (hn : n = 0 → v = s.resetBegun) :
    ResetReaches s n v := by
  have hz := s.resetBegun_kept
  have hzo : s.resetBegun.orders = s.orders := rfl
  refine ⟨⟨?_, ?_, ?_, ?_, ?_, fun x => ?_⟩, ?_, ?_, fun h0 => ?_, fun i p hp => ?_⟩
  · rw [h.only]; exact hz.powered
  · rw [h.only]; exact hz.pins
  · rw [h.only]; exact hz.pending
  · rw [h.only]; exact hz.retention
  · rw [h.only]; exact hz.ends
  · rcases h.hoses x with e | e
    · rw [e]; exact hz.hoses x
    · rw [e]; rfl
  · rw [h.only]; exact hz.clock
  · rw [h.only]; exact hz.clockSet
  · rw [hn h0]; exact hz
  · rw [← hzo]
    exact h.orders i p hp

/-- The reset of the orders is over. -/
theorem State.ordersEnded_later {v : State} (h : Later (s.ordersEnded.loadSettings answers) v) {n : Nat} (hn : n ≠ 0) :
    ResetReaches s n v := by
  have hu := s.ordersEnded_reset
  have hr : ResetReaches s 1 s.ordersEnded := hu.resets.reaches nofun
  have hi := hu.idle s.resetBegun_kept.ends
  have hy : UnderWay s.resetLifted s.supply.retention (s.ordersEnded.loadSettings answers) := by
    obtain ⟨h₁, h₂, h₃, h₄, h₅, h₆⟩ := hr.underWay
    exact ⟨h₁, h₂, h₃, h₄, h₅, h₆⟩
  refine ⟨hy.later h, ?_, ?_, fun e => absurd e hn, fun i p hp => ?_⟩
  · rw [h.only]; exact hr.clock
  · rw [h.only]; exact hr.clockSet
  · have : v.orders = s.ordersEnded.orders := by rw [h.only]; rfl
    rw [this, hi.1] at hp
    cases hp

/-- The actions of a start-up after external reset but the last one. -/
theorem resetPlan_dropLast (a : List StartAction) (answers : Bool) :
    (a ++ [StartAction.load answers] ++ laterActions .externalReset).dropLast = a ++ StartAction.load answers :: lateActions .externalReset := by
  rw [laterActions_eq, ← List.append_assoc, List.dropLast_concat, List.append_assoc]
  rfl

theorem State.reset_reaches (s : State) (answers : Bool) (n : Nat) : ResetReaches s n
    (((s.resetBegun.resetActions ++ [StartAction.load answers] ++ laterActions .externalReset).dropLast.take n).foldl State.startAction
      s.resetBegun) := by
  rw [resetPlan_dropLast, List.take_append, List.foldl_append]
  by_cases hle : s.resetBegun.resetActions.length ≤ n
  · rw [List.take_of_length_le hle, ← State.ordersEnded]
    cases hm : n - s.resetBegun.resetActions.length with
    | zero =>
      refine s.ordersEnded_reset.resets.reaches fun h0 => ?_
      subst h0
      rw [State.ordersEnded, List.eq_nil_of_length_eq_zero (Nat.le_zero.mp hle)]
      rfl
    | succ m =>
      have hi := s.ordersEnded_load_idle answers
      exact State.ordersEnded_later (State.later_fold hi.2 ((lateActions .externalReset).take m)
        (fun a ha => isLate_lateActions (List.mem_of_mem_take ha)) (.inl hi)) (by omega)
  · have hr := (State.resetActions_take s.resetBegun_kept.ends n).resolve_left hle
    rw [Nat.sub_eq_zero_of_le (by omega), List.take_zero, List.foldl_nil]
    exact hr.reaches fun h0 => by rw [h0]; rfl

end

end Sys2Proof.Machine
end

section
namespace Sys2Proof.Machine

open Sys2Proof.Safety

/-- Settles O51: the orders end RESET one after another (`OrdersReset`), and the later actions are taken to the end
(`Begun.reset`) or as far as they go. -/
theorem externalResetEndsTheOrders : Obligations.ExternalResetEndsTheOrders := by
  unfold Obligations.ExternalResetEndsTheOrders
  refine fun answers s => ⟨fun reach h => State.exec_externalResetNegated_idle h _, fun hr hp => ?_, fun hr hp n => ?_⟩
  · have hexec := (State.exec_externalResetNegated hr hp answers .whole).trans (congrArg Host.Outcome.next (s.reset_whole answers))
    have hb := State.begun (.inl (s.resetStages_idle answers)) .externalReset
    generalize (s.resetStages answers).fieldBegun.inputsSampled.finishStartUp .externalReset = t at hb hexec
    exact ⟨t, hexec, hb.reset⟩
  · have h := s.reset_reaches answers n
    have hexec : exec (.externalResetNegated ⟨answers, .actions n⟩) s = .next (State.stopsThere
        (((s.resetBegun.resetActions ++ [StartAction.load answers] ++ laterActions .externalReset).dropLast.take n).foldl State.startAction
          s.resetBegun)) := State.exec_externalResetNegated hr hp answers (.actions n)
    generalize ((s.resetBegun.resetActions ++ [StartAction.load answers] ++ laterActions .externalReset).dropLast.take n).foldl
      State.startAction s.resetBegun = v at h hexec
    exact ⟨v.stopsThere, hexec, h.underWay.powered, State.stopsThere_startsUp h.underWay.ends h.underWay.valves,
      h.underWay.pins, h.underWay.pending, h.clock, h.clockSet, fun h0 => (h.store h0).storeKept, h.orders⟩

end Sys2Proof.Machine
end

section
/-! SUPPORT. What every part of the part's work keeps: the limits of the books, the form of the account table, a link with the
role OFFICE, and, of the work that puts no end report on its way, that none is on its way (R49, R94, R111, R179). One lemma for
each operation. -/

namespace Sys2Proof.Machine

open Sys2Proof.Safety

/-- The book of a tank lies within its limits (R94). -/
def Tank.BookIn (k : Tank) : Prop := -2147483648 ≤ k.book ∧ k.book ≤ 2147483647

/-- No island is LEAVING, so that no assertion of a detector brings a machine back (R75). -/
def NoneLeaving (s : State) : Prop := ∀ i : IslandNo, (s.islands.get i).presence ≠ .leaving

/-- The laws of the tables and roles pass from `s` to `t`; that no end report is left on its way, where `taken` holds. -/
structure LawsKept (taken : Prop) (s t : State) : Prop where
  ends : taken → EndsTaken s → EndsTaken t
  office : OfficeLaw s → OfficeLaw t
  books : BooksLaw s → BooksLaw t
  accounts : AccountsLaw s → AccountsLaw t

/-- The laws pass from `s` to `t`, and no machine begins to leave. -/
structure Tended (taken : Prop) (s t : State) : Prop extends LawsKept taken s t where
  leaving : NoneLeaving s → NoneLeaving t

section
variable {taken : Prop} {s t u : State}

/-- What leaves these fields alone keeps the laws. -/
theorem Tended.same (he : t.ends = s.ends) (hl : t.cfg.links = s.cfg.links) (ht : t.tanks = s.tanks)
    (ha : t.accounts = s.accounts) (hi : t.islands = s.islands) : Tended taken s t where
  ends _ h := he.trans h
  office := by rw [OfficeLaw, OfficeLaw, hl]; exact id
  books := by rw [BooksLaw, BooksLaw, ht]; exact id
  accounts := by rw [AccountsLaw, AccountsLaw, ha]; exact id
  leaving := by rw [NoneLeaving, NoneLeaving, hi]; exact id

theorem LawsKept.refl (s : State) : LawsKept taken s s := ⟨fun _ => id, id, id, id⟩

theorem LawsKept.trans (h : LawsKept taken s t) (k : LawsKept taken t u) : LawsKept taken s u :=
  ⟨fun q he => k.ends q (h.ends q he), k.office ∘ h.office, k.books ∘ h.books, k.accounts ∘ h.accounts⟩

theorem Tended.refl (s : State) : Tended taken s s := .same rfl rfl rfl rfl rfl

theorem Tended.trans (h : Tended taken s t) (k : Tended taken t u) : Tended taken s u :=
  ⟨h.toLawsKept.trans k.toLawsKept, k.leaving ∘ h.leaving⟩

/-- Work that puts end reports on their way is work like any other once they have been taken. -/
theorem Tended.of_taken (h : Tended False s t) (he : EndsTaken t) : Tended taken s t :=
  ⟨⟨fun _ _ => he, h.office, h.books, h.accounts⟩, h.leaving⟩

theorem Tended.ite {p : Prop} [Decidable p] (h : Tended taken s t) (k : Tended taken s u) :
    Tended taken s (if p then t else u) := by
  split <;> assumption

theorem Tended.iteAfter {p : Prop} [Decidable p] (h : Tended taken s t) : Tended taken s (if p then t else s) :=
  h.ite (.refl s)

theorem Tended.foldl {α : Type} (f : State → α → State) (h : ∀ s a, Tended taken s (f s a)) (l : List α) :
    ∀ s, Tended taken s (l.foldl f s) := by
  induction l with
  | nil => exact fun s => .refl s
  | cons a l ih => exact fun s => (h s a).trans (ih _)

/-! ## Changes of one record -/

theorem State.modHose_tended (s : State) (h f) : Tended taken s (s.modHose h f) := .same rfl rfl rfl rfl rfl
theorem State.setOrder_tended (s : State) (i o) : Tended taken s (s.setOrder i o) := .same rfl rfl rfl rfl rfl
theorem State.modOrder_tended (s : State) (i f) : Tended taken s (s.modOrder i f) := .same rfl rfl rfl rfl rfl
theorem State.modStep_tended (s : State) (r f) : Tended taken s (s.modStep r f) := .same rfl rfl rfl rfl rfl
theorem State.modShut_tended (s : State) (f) : Tended taken s (s.modShut f) := .same rfl rfl rfl rfl rfl
theorem State.setEntry_tended (s : State) (o e) : Tended taken s (s.setEntry o e) := .same rfl rfl rfl rfl rfl
theorem State.modSupply_tended (s : State) (f) : Tended taken s (s.modSupply f) := .same rfl rfl rfl rfl rfl
theorem State.modPins_tended (s : State) (f) : Tended taken s (s.modPins f) := .same rfl rfl rfl rfl rfl
theorem State.modPort_tended (s : State) (l f) : Tended taken s (s.modPort l f) := .same rfl rfl rfl rfl rfl
theorem State.report_tended (s : State) (r) : Tended taken s (s.report r) := .same rfl rfl rfl rfl rfl
theorem State.alignOutputs_tended (s : State) : Tended taken s s.alignOutputs := .same rfl rfl rfl rfl rfl

theorem State.raise_tended (s : State) (n : Notice) : Tended taken s (s.raise n) :=
  .same (by simp) (by simp) (by simp) (by simp) (by simp)

theorem State.raiseKind_tended (s : State) (k) : Tended taken s (s.raiseKind k) := s.raise_tended _
theorem State.raiseAt_tended (s : State) (k i) : Tended taken s (s.raiseAt k i) := s.raise_tended _

/-- A change of a tank that keeps its book within the limits (R94). -/
theorem State.modTank_tended (s : State) (k : TankNo) {f : Tank → Tank} (hf : ∀ x : Tank, x.BookIn → (f x).BookIn) :
    Tended taken s (s.modTank k f) where
  ends _ := id
  office := id
  books h j := by
    rw [State.modTank_tanks, Table.modify_get]
    split
    · exact hf _ (h k)
    · exact h j
  accounts := id
  leaving := id

theorem Tank.BookIn.congr {a b : Tank} (h : a.book = b.book) : a.BookIn ↔ b.BookIn := by rw [Tank.BookIn, Tank.BookIn, h]

/-- A change of a tank that leaves its book as it is. -/
theorem State.modTankBut_tended (s : State) (k : TankNo) (f : Tank → Tank)
    (hf : ∀ x : Tank, (f x).book = x.book := by exact fun _ => rfl) : Tended taken s (s.modTank k f) :=
  s.modTank_tended k fun x => (Tank.BookIn.congr (hf x)).mpr

/-- A change of an island that does not begin a leaving. -/
theorem State.modIsland_tended (s : State) (i : IslandNo) {f : Island → Island}
    (hf : ∀ x : Island, x.presence ≠ .leaving → (f x).presence ≠ .leaving) : Tended taken s (s.modIsland i f) where
  ends _ := id
  office := id
  books := id
  accounts := id
  leaving h j := by
    rw [State.modIsland_islands, Table.modify_get]
    split
    · exact hf _ (h i)
    · exact h j

/-- A change of an island that leaves its presence as it is. -/
theorem State.modIslandBut_tended (s : State) (i : IslandNo) (f : Island → Island)
    (hf : ∀ x : Island, (f x).presence = x.presence := by exact fun _ => rfl) : Tended taken s (s.modIsland i f) :=
  s.modIsland_tended i fun x hx => by rwa [hf]

/-- Changes of accounts that keep their numbers keep the table's form (R111). -/
theorem accountsLaw_map {f : Account → Account} (hf : ∀ a, (f a).machine = a.machine) (h : AccountsLaw s)
    (ht : t.accounts = s.accounts.map f) : AccountsLaw t := by
  obtain ⟨hlen, hasc, hnum⟩ := h
  rw [AccountsLaw, ht]
  refine ⟨by rwa [List.length_map], List.pairwise_map.mpr (hasc.imp fun h => ?_), fun a ha => ?_⟩
  · rwa [hf, hf]
  · obtain ⟨b, hb, rfl⟩ := List.mem_map.mp ha
    rw [hf]
    exact hnum b hb

theorem State.modAccount_tended (s : State) (m : Nat) {f : Account → Account} (hf : ∀ a, (f a).machine = a.machine) :
    Tended taken s (s.modAccount m f) where
  ends _ := id
  office := id
  books := id
  accounts h := accountsLaw_map (f := fun a => if a.machine = m then f a else a) (fun a => by split; exacts [hf a, rfl]) h rfl
  leaving := id

/-! ## The journal, the stock unit and the account unit -/

theorem State.journalLowTest_tended (s : State) (n) : Tended taken s (s.journalLowTest n) := by
  unfold State.journalLowTest; exact (s.raiseKind_tended _).iteAfter

theorem State.journalWaitingTest_tended (s : State) (n) : Tended taken s (s.journalWaitingTest n) := by
  unfold State.journalWaitingTest; exact (s.raiseKind_tended _).iteAfter

theorem State.setJournal_tended (s : State) (j : Journal) : Tended taken s { s with journal := j } := .same rfl rfl rfl rfl rfl

theorem State.journalReserve_tended (s : State) : Tended taken s s.journalReserve :=
  (s.setJournal_tended _).trans (State.journalLowTest_tended _ _)

theorem State.writeReserved_tended (s : State) (c b) : Tended taken s (s.writeReserved c b).2 :=
  (s.setJournal_tended _).trans (State.journalWaitingTest_tended _ _)

theorem State.writeUnreserved_tended (s : State) (c b) : Tended taken s (s.writeUnreserved c b).2 :=
  (s.setJournal_tended _).trans ((State.journalWaitingTest_tended _ _).trans (State.journalLowTest_tended _ _))

theorem State.lowTest_tended (s : State) (a b) : Tended taken s (s.lowTest a b) := by
  unfold State.lowTest; exact (s.raiseKind_tended _).iteAfter

theorem State.changeStock_tended (s : State) (k : TankNo) {f : Tank → Tank} (hf : ∀ x : Tank, x.BookIn → (f x).BookIn) :
    Tended taken s (s.changeStock k f) := (s.modTank_tended k hf).trans (State.lowTest_tended _ _ _)

/-- A charge that would carry the book beyond a limit leaves it there (R94). -/
theorem bookCharged_bookIn (x : Int) (k : Tank) : (bookCharged x k).BookIn := by
  unfold bookCharged Tank.BookIn
  split
  · dsimp only; omega
  · split
    · dsimp only; omega
    · dsimp only; omega

theorem Tank.leakRest_book (quiet : Nat) (k : Tank) : (k.leakRest quiet).book = k.book := by
  unfold Tank.leakRest; split <;> rfl

theorem Tank.leakRestart_book (quiet : Nat) (k : Tank) : (k.leakRestart quiet).book = k.book := by
  unfold Tank.leakRestart; split <;> rfl

theorem Tank.leakRest_bookIn (quiet : Nat) (k : Tank) (h : k.BookIn) : (k.leakRest quiet).BookIn :=
  (Tank.BookIn.congr (k.leakRest_book quiet)).mpr h

theorem Tank.leakRestart_bookIn (quiet : Nat) (k : Tank) (h : k.BookIn) : (k.leakRestart quiet).BookIn :=
  (Tank.BookIn.congr (k.leakRestart_book quiet)).mpr h

theorem Tank.afterEnd_bookIn (kind : StepKind) (target net quiet : Nat) (k : Tank) :
    (k.afterEnd kind target net quiet).BookIn := by
  have h (x : Int) : ((({ k with reserved := k.reserved - target } : Tank).addToBook x)).BookIn := bookCharged_bookIn _ _
  refine Tank.leakRest_bookIn quiet _ ?_
  split
  · exact h _
  · exact h _

theorem Tank.afterStray_bookIn (charge quiet : Nat) (k : Tank) : (k.afterStray charge quiet).BookIn :=
  Tank.leakRestart_bookIn quiet _ (bookCharged_bookIn (-(charge : Int)) k)

theorem State.grant_tended (s : State) (k q) : Tended taken s (s.grant k q) :=
  s.changeStock_tended _ fun x h => by dsimp only; split <;> exact h

theorem State.chargeEnd_tended (s : State) (st x n) : Tended taken s (s.chargeEnd st x n) :=
  s.changeStock_tended _ fun k _ => k.afterEnd_bookIn _ _ _ _

theorem State.chargeStray_tended (s : State) (k n) : Tended taken s (s.chargeStray k n) :=
  s.changeStock_tended _ fun k _ => k.afterStray_bookIn _ _

theorem State.openAccount_tended (s : State) (i m h) : Tended taken s (s.openAccount i m h) := by
  have hmod := s.modAccount_tended (taken := taken) m (openedAccount_machine s.cfg.jumpLimit i h)
  dsimp only [State.openAccount]
  split <;> exact Tended.ite (hmod.trans (State.raiseKind_tended _ _)) hmod

theorem State.takeSummary_tended (s : State) (m) : Tended taken s (s.takeSummary m) := by
  have hmod := s.modAccount_tended (taken := taken) m.machine (Account.afterOrder_machine s.cfg.minSpan s.supply.clock m)
  dsimp only [State.takeSummary]
  split <;> exact Tended.ite (hmod.trans (State.raiseKind_tended _ _)) hmod

theorem State.endReceipt_tended (s : State) (k r b) : Tended taken s (s.endReceipt k r b).2 :=
  (s.writeReserved_tended _ _).trans (State.modTankBut_tended _ _ _)

theorem State.cancelReceipt_tended (s : State) (k r) : Tended taken s (s.cancelReceipt k r).2 :=
  (s.endReceipt_tended _ _ _).trans (State.modTank_tended _ _ (Tank.leakRest_bookIn _))

/-! ## Metering and gauging -/

theorem State.gaugeTempAt_tended (k x) (s : State) (h) : Tended taken s (State.gaugeTempAt k x s h) := by
  unfold State.gaugeTempAt
  split
  · exact (s.modStep_tended _ _).iteAfter
  · exact .refl s

theorem State.gaugeTemp_tended (s : State) (k x) : Tended taken s (s.gaugeTemp k x) :=
  Tended.foldl _ (fun s h => State.gaugeTempAt_tended k x s h) _ s

theorem State.probe_tended (s : State) (h r) : Tended taken s (s.probe h r) := by
  unfold State.probe
  cases r with
  | valid x =>
    dsimp only
    split
    · exact Tended.ite ((s.modHose_tended _ _).trans (State.modStep_tended _ _ _)) (s.modHose_tended _ _)
    · exact s.modHose_tended _ _
  | faulty =>
    dsimp only
    split
    · exact (s.modStep_tended _ _).iteAfter
    · exact .refl s

theorem State.gaugeFault_tended (s : State) (k) : Tended taken s (s.gaugeFault k) := by
  have hmod := s.modTankBut_tended (taken := taken) k
    fun k => { k with gauge := { k.gauge with valid := false, faultCondition := true } }
  dsimp only [State.gaugeFault]
  exact Tended.ite hmod (hmod.trans (State.report_tended _ _))

theorem State.gaugeFaulty_tended (s : State) (k) : Tended taken s (s.gaugeFaulty k) := by
  have hmod (n : Nat) := s.modTankBut_tended (taken := taken) k fun k => { k with gauge := { k.gauge with faults := n } }
  dsimp only [State.gaugeFaulty]
  exact Tended.iteAfter (Tended.ite ((hmod _).trans (State.gaugeFault_tended _ _)) (hmod _))

theorem State.gaugeStale_tended (s : State) (k) : Tended taken s (s.gaugeStale k) := by
  unfold State.gaugeStale
  exact Tended.iteAfter ((s.modTankBut_tended k _).trans (State.gaugeFault_tended _ _))

theorem Tank.leakReading_book (threshold quiet net : Nat) (k : Tank) : (k.leakReading threshold quiet net).1.book = k.book := by
  unfold Tank.leakReading
  split
  · split
    · rfl
    · split <;> rfl
  · rfl

/-- The leak watch takes a reading and leaves the book as it is (R100). -/
theorem State.leakReading_tended (s : State) (k : TankNo) (a b c : Nat) :
    Tended taken s (s.modTank k fun _ => ((s.tanks.get k).leakReading a b c).1) where
  ends _ := id
  office := id
  books h j := by
    rw [State.modTank_tanks, Table.modify_get]
    split
    · exact (Tank.BookIn.congr (Tank.leakReading_book _ _ _ _)).mpr (h k)
    · exact h j
  accounts := id
  leaving := id

theorem State.gaugeValid_tended (s : State) (k l x) : Tended taken s (s.gaugeValid k l x) := by
  have hread (u : State) (a b c : Nat) : Tended taken u
      (let r := (u.tanks.get k).leakReading a b c
      if r.2 then (u.modTank k fun _ => r.1).report (.leak k) else u.modTank k fun _ => r.1) :=
    Tended.ite ((u.leakReading_tended k a b c).trans (State.report_tended _ _)) (u.leakReading_tended k a b c)
  unfold State.gaugeValid
  exact Tended.iteAfter (Tended.trans ((s.modTankBut_tended k _).trans (State.gaugeTemp_tended _ k x)) (hread _ _ _ _))

theorem State.probeLevel_tended (s : State) (k b) : Tended taken s (s.probeLevel k b) :=
  (s.modTankBut_tended k _).trans (State.report_tended _ _).iteAfter

theorem State.leakQuiet_tended (s : State) (k) : Tended taken s (s.leakQuiet k) := by
  unfold State.leakQuiet
  exact Tended.iteAfter (s.modTankBut_tended k _)

end

end Sys2Proof.Machine
end

section
/-! SUPPORT. The work of the hose channels, the order unit, the shutdown unit and the presence monitor keeps the laws of the tables.
What may put an end report on its way is said with `False`, until the order unit has taken the reports (R49). -/

namespace Sys2Proof.Machine

open Sys2Proof.Safety

section
variable {taken : Prop}

/-! ## Hose channels -/

theorem State.sendEnd_tended (s : State) (st rep) : Tended False s (s.sendEnd st rep) :=
  ((s.chargeEnd_tended st rep.target rep.figures.net).trans (State.modHose_tended _ st.hose Channel.dropStep)).trans
    ⟨⟨False.elim, id, id, id⟩, id⟩

theorem State.endWaiting_tended (s : State) (r st e c) : Tended False s (s.endWaiting r st e c) := s.sendEnd_tended _ _

theorem State.runOnCheck_tended (s : State) (r) : Tended taken s (s.runOnCheck r) := by
  unfold State.runOnCheck
  split
  · exact .refl s
  · exact Tended.iteAfter ((s.modStep_tended _ _).trans (State.report_tended _ _))

theorem State.settle_tended (s : State) (r st e c) : Tended taken s (s.settle r st e c) :=
  (s.modHose_tended _ _).trans ((State.modStep_tended _ _ _).trans (State.runOnCheck_tended _ _))

theorem State.enterRunning_tended (s : State) (r st) : Tended taken s (s.enterRunning r st) :=
  Tended.ite ((s.modStep_tended _ _).trans (State.settle_tended _ _ _ _ _))
    ((s.modStep_tended _ _).trans (State.modHose_tended _ _ _))

theorem State.applyClaim_tended (s : State) (r st d w a) : Tended False s (s.applyClaim r st d w a) := by
  cases a with
  | refused e => exact s.endWaiting_tended _ _ _ _
  | granted q => exact (s.grant_tended _ _).trans ((State.modStep_tended _ _ _).trans (State.enterRunning_tended _ _ _))

theorem State.claim_tended (s : State) (r st) : Tended False s (s.claim r st) := by
  unfold State.claim
  split
  · exact s.endWaiting_tended _ _ _ _
  · exact s.applyClaim_tended _ _ _ _ _

theorem State.tryClaim_tended (s : State) (h) : Tended False s (s.tryClaim h) := by
  unfold State.tryClaim
  split
  · exact .refl s
  · exact Tended.iteAfter (Tended.ite ((s.modHose_tended _ _).trans (State.enterRunning_tended _ _ _))
      ((s.modHose_tended _ _).trans (State.claim_tended _ _ _)))

theorem State.startStep_tended (s : State) (r st) : Tended False s (s.startStep r st) :=
  (s.modHose_tended _ _).trans ((State.modStep_tended _ _ _).trans (State.tryClaim_tended _ _))

theorem State.coupleWait_tended (s : State) (h) : Tended False s (s.coupleWait h) := by
  unfold State.coupleWait
  split
  · exact .refl s
  · exact (s.endWaiting_tended _ _ _ _).iteAfter

theorem State.couple_tended (s : State) (h) : Tended False s (s.couple h) :=
  (s.modHose_tended _ _).trans (State.tryClaim_tended _ _)

theorem State.uncouple_tended (s : State) (h) : Tended taken s (s.uncouple h) := by
  unfold State.uncouple
  dsimp only
  split
  · exact s.modHose_tended _ _
  · exact Tended.ite ((s.modHose_tended _ _).trans (State.settle_tended _ _ _ _ _)) (s.modHose_tended _ _)

theorem State.runningPulse_tended (s : State) (r st) : Tended taken s (s.runningPulse r st) :=
  Tended.ite ((s.modHose_tended _ _).trans (State.settle_tended _ _ _ _ _))
    (Tended.ite ((s.modHose_tended _ _).trans ((State.modStep_tended _ _ _).trans (State.modHose_tended _ _ _)))
      (s.modHose_tended _ _))

theorem State.meteredPulse_tended (s : State) (r st) : Tended taken s (s.meteredPulse r st) :=
  Tended.ite ((s.modStep_tended _ _).trans (State.runningPulse_tended _ _ _))
    (Tended.ite ((s.modStep_tended _ _).trans ((State.modHose_tended _ _ _).trans (State.runOnCheck_tended _ _)))
      (s.modStep_tended _ _))

theorem State.priceStray_tended (s : State) (h) : Tended taken s (s.priceStray h) := by
  unfold State.priceStray
  dsimp only
  split
  · exact .refl s
  · exact Tended.iteAfter ((s.modHose_tended _ _).trans (State.chargeStray_tended _ _ _))

theorem State.strayPulse_tended (s : State) (h) : Tended taken s (s.strayPulse h) := by
  have hprice (f) : Tended taken s ((s.modHose h f).priceStray h) := (s.modHose_tended _ _).trans (State.priceStray_tended _ _)
  exact Tended.ite ((hprice _).trans (State.report_tended _ _)) (hprice _)

theorem State.pulse_tended (s : State) (h) : Tended taken s (s.pulse h) := by
  unfold State.pulse
  split
  · exact s.strayPulse_tended _
  · exact Tended.ite (s.meteredPulse_tended _ _) (s.strayPulse_tended _)

theorem State.stall_tended (s : State) (h) : Tended taken s (s.stall h) := by
  unfold State.stall
  split
  · exact .refl s
  · exact (s.settle_tended _ _ _ _).iteAfter

theorem State.rateWindow_tended (s : State) (h) : Tended taken s (s.rateWindow h) := by
  unfold State.rateWindow
  split
  · exact .refl s
  · exact Tended.iteAfter (Tended.trans (s.report_tended _).iteAfter (State.modHose_tended _ _ _))

theorem State.settleEnd_tended (s : State) (h) : Tended False s (s.settleEnd h) := by
  unfold State.settleEnd
  split
  · exact .refl s
  · exact (s.sendEnd_tended _ _).iteAfter

theorem State.strayQuiet_tended (s : State) (h) : Tended taken s (s.strayQuiet h) := by
  unfold State.strayQuiet
  exact (s.modHose_tended _ _).iteAfter

theorem State.suspend_tended (s : State) (r st x) : Tended taken s (s.suspend r st x) :=
  (s.modHose_tended _ _).trans (State.modStep_tended _ _ _)

theorem State.leavingAt_tended (s : State) (h) : Tended taken s (s.leavingAt h) := by
  unfold State.leavingAt
  split
  · exact .refl s
  · exact (s.suspend_tended _ _ _).iteAfter

theorem State.presentAt_tended (s : State) (h) : Tended False s (s.presentAt h) := by
  unfold State.presentAt
  split
  · exact .refl s
  · refine Tended.ite (s.tryClaim_tended _) (Tended.iteAfter ?_)
    split
    · exact s.settle_tended _ _ _ _
    · exact Tended.ite (s.enterRunning_tended _ _) (s.settle_tended _ _ _ _)

theorem State.warnedAt_tended (s : State) (h) : Tended taken s (s.warnedAt h) := by
  unfold State.warnedAt
  split
  · exact .refl s
  · exact Tended.ite (s.suspend_tended _ _ _) (Tended.ite (s.modStep_tended _ _)
      (Tended.iteAfter ((s.modHose_tended _ _).trans (State.modStep_tended _ _ _))))

theorem State.rewait_tended (s : State) (r st) : Tended taken s (s.rewait r st) :=
  (s.modHose_tended _ _).trans (State.modStep_tended _ _ _)

theorem State.resumeStep_tended (s : State) (r st) : Tended False s (s.resumeStep r st) := by
  unfold State.resumeStep
  refine Tended.ite ((s.rewait_tended _ _).trans (State.tryClaim_tended _ _)) ?_
  split
  · exact s.settle_tended _ _ _ _
  · exact Tended.ite (s.modStep_tended _ _) (Tended.ite (s.enterRunning_tended _ _) (s.rewait_tended _ _))

theorem State.closeStep_tended (s : State) (r st e) : Tended False s (s.closeStep r st e) :=
  Tended.ite (s.endWaiting_tended _ _ _ _) (s.settle_tended _ _ _ _).iteAfter

theorem State.tripStep_tended (s : State) (r st c) : Tended False s (s.tripStep r st c) :=
  Tended.ite (s.endWaiting_tended _ _ _ _) (Tended.ite (s.settle_tended _ _ _ _) (s.modStep_tended _ _).iteAfter)

/-! ## The order unit -/

theorem State.handOff_tended (s : State) (i o e) : Tended taken s (s.handOff i o e) := by
  dsimp only [State.handOff]
  exact (s.takeSummary_tended _).trans ((State.writeReserved_tended _ _ _).trans ((State.setOrder_tended _ _ _).trans
    ((State.modIslandBut_tended _ _ _).trans ((State.setOrder_tended _ _ _).trans (State.raiseAt_tended _ _ _)))))

theorem State.endOrder_tended (s : State) (i) : Tended taken s (s.endOrder i) := by
  unfold State.endOrder
  split
  · exact .refl s
  · exact s.handOff_tended _ _ _

theorem State.endIfDone_tended (s : State) (i) : Tended taken s (s.endIfDone i) := by
  unfold State.endIfDone
  split
  · exact .refl s
  · exact (s.endOrder_tended _).iteAfter

theorem State.startOne_tended (s : State) (p) : Tended False s (s.startOne p) := by
  unfold State.startOne
  split
  · exact (s.modStep_tended _ _).trans (State.raiseAt_tended _ _ _)
  · exact s.startStep_tended _ _

theorem State.stopOnError_tended (s : State) (i) : Tended taken s (s.stopOnError i) :=
  (s.modOrder_tended _ _).trans (State.endIfDone_tended _ _)

theorem State.startGroup_tended (s : State) (i g m) : Tended False s (s.startGroup i g m).1 := by
  have hstart := (s.modOrder_tended i fun o => { o with group := g }).trans (Tended.foldl _ State.startOne_tended m _)
  dsimp only [State.startGroup]
  split
  · exact hstart.trans (State.stopOnError_tended _ _)
  · exact hstart

theorem State.tryStart_tended (n : Nat) : ∀ (s : State) (i), Tended False s (State.tryStart n s i) := by
  induction n with
  | zero => exact fun s _ => .refl s
  | succ n ih =>
    intro s i
    unfold State.tryStart
    split
    · exact .refl s
    · split
      · exact .refl s
      · refine Tended.iteAfter (Tended.ite ((s.modOrder_tended _ _).trans (State.raiseAt_tended _ _ _)) ?_)
        refine Tended.trans (s.startGroup_tended _ _ _) (Tended.iteAfter ?_)
        split
        · exact .refl _
        · exact Tended.ite (ih _ _) (State.endOrder_tended _ _)

theorem State.nextGroup_tended (s : State) (i) : Tended False s (s.nextGroup i) := State.tryStart_tended 8 s i

theorem State.completeHold_tended (s : State) (i) : Tended taken s (s.completeHold i) := by
  unfold State.completeHold
  split
  · exact .refl s
  · exact Tended.ite ((s.modOrder_tended _ _).trans (State.raiseAt_tended _ _ _))
      ((s.modOrder_tended _ _).trans (State.endOrder_tended _ _))

theorem State.course_tended (s : State) (i b) : Tended False s (s.course i b) := by
  unfold State.course
  split
  · exact .refl s
  · exact Tended.ite (s.stopOnError_tended _) (Tended.ite (s.completeHold_tended _) (Tended.ite (s.endIfDone_tended _)
      (Tended.iteAfter (Tended.ite (s.nextGroup_tended _) (s.endOrder_tended _)))))

theorem State.takeEnd_tended (s : State) (e) : Tended False s (s.takeEnd e) := by
  unfold State.takeEnd
  split
  · exact .refl s
  · exact (s.modStep_tended _ _).trans ((State.raiseAt_tended _ _ _).trans (State.course_tended _ _ _))

theorem State.setEnds_tended (s : State) (l : List EndReport) : Tended False s { s with ends := l } :=
  ⟨⟨False.elim, id, id, id⟩, id⟩

theorem State.takeEnds_tended (n : Nat) : ∀ s : State, Tended False s (State.takeEnds n s) := by
  induction n with
  | zero => exact fun s => s.setEnds_tended []
  | succ n ih =>
    intro s
    unfold State.takeEnds
    split
    · exact .refl s
    · exact (s.setEnds_tended _).trans ((State.takeEnd_tended _ _).trans (ih _))

theorem State.drain_ends (s : State) : EndsTaken s.drain := s.takeEnds_ends 64

theorem State.drain_tended (s : State) : Tended taken s s.drain := (s.takeEnds_tended 64).of_taken s.drain_ends

/-- Work whose end reports the order unit takes. -/
theorem Tended.drain {s t : State} (h : Tended False s t) : Tended taken s t.drain :=
  (h.trans t.drain_tended).of_taken t.drain_ends

/-- A command that can move valves ends (R49, R159). -/
theorem Tended.settleAll {s t : State} (h : Tended False s t) : Tended taken s t.settleAll :=
  h.drain.trans (State.alignOutputs_tended _)

theorem State.settleAll_tended (s : State) : Tended taken s s.settleAll := Tended.settleAll (.refl s)

theorem State.createOrder_tended (s : State) (f i l) : Tended taken s (s.createOrder f i l) :=
  (s.setOrder_tended _ _).trans ((State.openAccount_tended _ _ _ _).trans (State.journalReserve_tended _))

theorem State.resumeOrder_tended (s : State) (i) : Tended False s (s.resumeOrder i) :=
  Tended.foldl _ (fun s (p : StepRef × Step) => (s.resumeStep_tended p.1 p.2).iteAfter) _ s

theorem State.startIfIdle_tended (s : State) (i) : Tended False s (s.startIfIdle i) := by
  unfold State.startIfIdle
  split
  · exact .refl s
  · exact Tended.ite (.refl s) (s.nextGroup_tended _)

theorem State.closeSteps_tended (s : State) (i f) : Tended False s (s.closeSteps i f) :=
  Tended.foldl _ (fun s (p : StepRef × Step) => (s.closeStep_tended p.1 p.2 (f p.2)).iteAfter) _ s

theorem State.warnOrder_tended (s : State) (i) : Tended taken s (s.warnOrder i) := by
  unfold State.warnOrder
  split
  · exact .refl s
  · refine Tended.ite (.refl s) (Tended.ite (s.modOrder_tended _ _) ?_)
    exact (s.modOrder_tended _ _).trans (Tended.ite (.refl _) (State.raiseAt_tended _ _ _))

theorem State.departure_tended (s : State) (i) : Tended taken s (s.departure i) := by
  unfold State.departure
  split
  · exact .refl s
  · refine Tended.trans (Tended.drain (Tended.ite ?_ ?_)) (State.endIfDone_tended _ _)
    · exact (s.report_tended _).trans ((State.modOrder_tended _ _ _).trans (State.closeSteps_tended _ _ _))
    · exact (s.modOrder_tended _ _).trans (State.closeSteps_tended _ _ _)

/-- A step that external reset ends has its report entered at once (R28). -/
theorem State.resetOne_tended (s : State) (p) : Tended taken s (s.resetOne p) := by
  have hsent := s.sendEnd_tended p.2 (endReport p.1 p.2 .reset (meteredFigures p.2) p.2.cause)
  refine Tended.iteAfter (Tended.trans ((hsent.trans (State.setEnds_tended _ [])).of_taken rfl) ?_)
  exact (State.modStep_tended _ _ _).trans (State.raiseAt_tended _ _ _)

theorem State.resetAt_tended (s : State) (r) : Tended taken s (s.resetAt r) := by
  unfold State.resetAt
  split
  · exact .refl s
  · exact s.resetOne_tended _

theorem State.resetHandOff_tended (s : State) (i) : Tended taken s (s.resetHandOff i) := by
  unfold State.resetHandOff
  dsimp only
  split
  · exact s.modOrder_tended _ _
  · exact (s.modOrder_tended _ _).trans (State.handOff_tended _ _ _ _)

/-! ## The shutdown unit and the presence monitor -/

theorem State.tripOrders_tended (s : State) (o) : Tended taken s (s.tripOrders o) := by
  rw [(s.tripOrders_eq o).1]
  exact .same rfl rfl rfl rfl rfl

theorem State.tripHoseAt_tended (o c) (s : State) (h) : Tended False s (State.tripHoseAt o c s h) := by
  unfold State.tripHoseAt
  split
  · exact .refl s
  · exact (s.tripStep_tended _ _ _).iteAfter

theorem State.endDone_tended (s : State) : Tended taken s s.endDone := Tended.foldl _ State.endIfDone_tended _ s

theorem State.tripClosed_tended (s : State) (r) : Tended False s (s.tripClosed r) :=
  (s.setEntry_tended _ _).trans ((State.tripOrders_tended _ _).trans
    ((Tended.foldl _ (fun s h => State.tripHoseAt_tended _ _ s h) _ _).trans ((State.alignOutputs_tended _).trans
      (State.raiseKind_tended _ _))))

theorem State.trip_tended (s : State) (r) : Tended taken s (s.trip r) :=
  (s.tripClosed_tended r).drain.trans ((State.endDone_tended _).trans (State.alignOutputs_tended _))

theorem State.applyReport_tended (s : State) (r) : Tended taken s (s.applyReport r) := by
  unfold State.applyReport
  dsimp only
  split
  · exact .refl s
  · exact (s.modShut_tended _).trans (State.raiseKind_tended _ _)
  · split
    · exact s.setEntry_tended _ _
    · exact s.trip_tended _

/-- A presence other than LEAVING. -/
theorem State.setPresence_tended (s : State) (i) {p : Presence} (hp : p ≠ .leaving) (x) : Tended taken s (s.setPresence i p x) :=
  s.modIsland_tended i fun _ _ => hp

theorem State.enterPresent_tended (s : State) (i) : Tended False s (s.enterPresent i) :=
  (s.setPresence_tended i (by decide) _).trans ((Tended.foldl _ State.presentAt_tended _ _).drain.trans
    (State.nextGroup_tended _ _))

theorem State.detectorOn_tended (s : State) (i) : Tended False s (s.detectorOn i) := by
  have hlevel := s.modIslandBut_tended (taken := False) i fun k => { k with level := true }
  unfold State.detectorOn
  dsimp only
  split
  · exact hlevel.trans (State.setPresence_tended _ _ (by decide) _)
  · exact hlevel.trans (State.enterPresent_tended _ _)
  · exact hlevel
  · exact hlevel

/-- Where no island is LEAVING an asserted detector puts no end report on its way. -/
theorem State.detectorOn_quiet {s : State} (hs : NoneLeaving s) (i) : Tended taken s (s.detectorOn i) := by
  refine ⟨⟨fun _ he => ?_, ?_, ?_, ?_⟩, ?_⟩
  · have hp : ((s.modIsland i fun k => { k with level := true }).islands.get i).presence = (s.islands.get i).presence :=
      s.level_presence i true
    unfold State.detectorOn
    dsimp only
    rw [hp]
    split
    · exact he
    · next hl => exact absurd hl (hs i)
    · exact he
    · exact he
  · exact (s.detectorOn_tended i).office
  · exact (s.detectorOn_tended i).books
  · exact (s.detectorOn_tended i).accounts
  · exact (s.detectorOn_tended i).leaving

theorem State.detectorOff_lawsKept (s : State) (i) : LawsKept taken s (s.detectorOff i) := by
  have hset (p t) : LawsKept taken s ((s.modIsland i fun k => { k with level := false }).setPresence i p t) :=
    ⟨fun _ => id, id, id, id⟩
  unfold State.detectorOff
  dsimp only
  split
  · exact hset _ _
  · exact (hset _ _).trans (Tended.foldl _ State.leavingAt_tended _ _).toLawsKept
  · exact ⟨fun _ => id, id, id, id⟩
  · exact ⟨fun _ => id, id, id, id⟩

theorem State.arrivalExpiry_tended (s : State) (i) : Tended False s (s.arrivalExpiry i) := by
  unfold State.arrivalExpiry
  exact (s.enterPresent_tended _).iteAfter

theorem State.leavingExpiry_tended (s : State) (i) : Tended taken s (s.leavingExpiry i) := by
  unfold State.leavingExpiry
  exact Tended.iteAfter ((s.setPresence_tended _ (by decide) _).trans (State.departure_tended _ _))

theorem State.floatLevel_tended (s : State) (i b) : Tended taken s (s.floatLevel i b) := by
  have hfloat := s.modIslandBut_tended (taken := taken) i fun k => { k with float := b }
  exact Tended.ite (hfloat.trans (State.report_tended _ _)) hfloat

theorem State.stopLevel_tended (s : State) (b) : Tended taken s (s.stopLevel b) :=
  Tended.ite ((s.modShut_tended _).trans (State.applyReport_tended _ _)) (s.modShut_tended _)

end

end Sys2Proof.Machine
end

section
/-! SUPPORT. The owners of the requests keep the laws of the tables (R176). -/

namespace Sys2Proof.Machine

open Sys2Proof.Safety

section
variable {taken : Prop} {s : State}

/-- A configuration request that leaves the links' roles and masks as they are. -/
theorem State.configure_tended (s : State) (f : Settings → Settings) (hf : (f s.cfg).links = s.cfg.links := by rfl) :
    Tended taken s (s.configure f) := .same rfl hf rfl rfl rfl

/-- The owner of a request gives an answer beside its state (R176). -/
theorem Tended.beside {t : State} (a : Answer) (h : Tended taken s t) : Tended taken s (a, t).2 := h

/-! ## The order unit and the shutdown unit -/

theorem withOrder_tended (n : Nat) {act : IslandNo → Order → Answer × State} (h : ∀ i o, Tended taken s (act i o).2) :
    Tended taken s (withOrder s n act).2 := by
  unfold withOrder
  split
  · exact .refl s
  · split
    · exact .refl s
    · exact h _ _

theorem orderAdmit_tended (f) (s : State) : Tended taken s (orderAdmit f s).2 := by
  unfold orderAdmit
  split
  · exact .refl s
  · exact Tended.settleAll ((s.createOrder_tended _ _ _).trans (State.nextGroup_tended _ _))

theorem orderHold_tended (n) (s : State) : Tended taken s (orderHold n s).2 := by
  refine withOrder_tended n fun i o => ?_
  split
  · split
    · exact s.modOrder_tended _ _
    · exact (s.modOrder_tended _ _).trans (State.raiseAt_tended _ _ _)
  · exact .refl s

/-- A command that ends with an order's end when nothing keeps it alive (R24). -/
theorem Tended.endIfDone {s t : State} (h : Tended False s t) (i : IslandNo) :
    Tended taken s (t.drain.endIfDone i).alignOutputs :=
  h.drain.trans ((State.endIfDone_tended _ _).trans (State.alignOutputs_tended _))

theorem orderContinue_tended (n) (s : State) : Tended taken s (orderContinue n s).2 := by
  refine withOrder_tended n fun i o => ?_
  dsimp only
  split
  · split
    · exact ((s.modOrder_tended _ _).trans ((State.resumeOrder_tended _ _).trans (State.startIfIdle_tended _ _))).endIfDone i
    · exact .refl s
  · exact ((s.modOrder_tended _ _).trans (State.nextGroup_tended _ _)).settleAll
  · exact .refl s
  · exact s.modOrder_tended _ _
  · split
    · split
      · exact (s.resumeOrder_tended i).settleAll
      · exact .refl s
    · exact .refl s
  · exact .refl s

theorem orderCancel_tended (n) (s : State) : Tended taken s (orderCancel n s).2 := by
  refine withOrder_tended n fun i o => ?_
  split
  · exact .refl s
  · exact ((s.modOrder_tended _ _).trans (State.closeSteps_tended _ _ _)).endIfDone i

theorem stepStop_tended (f) (s : State) : Tended taken s (stepStop f s).2 := by
  unfold stepStop
  split
  · exact .refl s
  · split
    · exact .refl s
    · split
      · exact .refl s
      · dsimp only
        split
        · exact .refl s
        · split
          · exact (s.closeStep_tended _ _ _).settleAll
          · exact .refl s

theorem tripRequest_tended (r) (s : State) : Tended taken s (tripRequest r s).2 := by
  unfold tripRequest
  dsimp only
  split <;> exact s.applyReport_tended r

theorem tripIsland_tended (l n) (s : State) : Tended taken s (tripIsland l n s).2 := by
  unfold tripIsland
  split
  · exact .refl s
  · exact tripRequest_tended _ s

theorem tripTank_tended (l n) (s : State) : Tended taken s (tripTank l n s).2 := by
  unfold tripTank
  split
  · exact .refl s
  · exact tripRequest_tended _ s

theorem tripHose_tended (l n) (s : State) : Tended taken s (tripHose l n s).2 := by
  unfold tripHose
  split
  · exact .refl s
  · exact tripRequest_tended _ s

theorem shutdownClear_tended (o) (s : State) : Tended taken s (shutdownClear o s).2 := by
  unfold shutdownClear
  split
  · exact .refl s
  · split
    · exact .refl s
    · exact (s.setEntry_tended _ _).trans (State.alignOutputs_tended _)

/-! ## Configuration, clock and settings -/

theorem hoseSet_tended (f) (s : State) : Tended taken s (hoseSet f s).2 := by
  unfold hoseSet
  split
  · exact .refl s
  · split
    · exact .refl s
    · exact (s.configure_tended _).trans (State.modHose_tended _ _ _)

theorem islandSetRequest_tended (f) (s : State) : Tended taken s (islandSetRequest f s).2 := by
  unfold islandSetRequest
  split
  · exact .refl s
  · split
    · exact .refl s
    · exact Tended.beside _ (s.configure_tended _)

theorem tankSet_tended (f) (s : State) : Tended taken s (tankSet f s).2 := by
  unfold tankSet
  split
  · exact .refl s
  · next t c st _ =>
    split
    · exact .refl s
    · have hset := (s.configure_tended (taken := taken) fun g => { g with tanks := g.tanks.put t c }).trans
        (State.modTank_tended _ t (f := fun k => Tank.leakRestart c.quietTime { k with state := st })
          fun x h => Tank.leakRestart_bookIn _ _ h)
      exact Tended.ite (hset.trans (State.lowTest_tended _ _ _)) hset

theorem fluidSet_tended (f) (s : State) : Tended taken s (fluidSet f s).2 := by
  unfold fluidSet
  split
  · exact .refl s
  · split
    · exact .refl s
    · refine Tended.ite (s.configure_tended _) ((s.configure_tended _).trans (Tended.foldl _ (fun u t => ?_) _ _))
      exact Tended.iteAfter (u.modTank_tended t (Tank.leakRestart_bookIn _))

theorem strapLoad_tended (f) (s : State) : Tended taken s (strapLoad f s).2 := by
  unfold strapLoad
  split
  · exact .refl s
  · split
    · exact .refl s
    · refine (s.configure_tended _).trans (State.modTank_tended _ _ fun x h => ?_)
      dsimp only
      split <;> exact Tank.leakRestart_bookIn _ x h

theorem causeSet_tended (f) (s : State) : Tended taken s (causeSet f s).2 := by
  unfold causeSet
  split
  · exact Tended.beside _ (s.configure_tended _)
  · exact .refl s

theorem accountLimitsSet_tended (f) (s : State) : Tended taken s (accountLimitsSet f s).2 := by
  unfold accountLimitsSet
  split
  · exact Tended.beside _ (s.configure_tended _)
  · exact .refl s

theorem clockSet_tended (n) (s : State) : Tended taken s (clockSet n s).2 := by
  unfold clockSet
  split
  · exact Tended.beside _ (s.modSupply_tended _)
  · exact .refl s

theorem settingsSave_tended (u) (s : State) : Tended taken s (settingsSave u s).2 := by
  unfold settingsSave
  split
  · exact .refl s
  · exact Tended.beside _ (s.modSupply_tended _)

/-! ## Links (R179, R183) -/

theorem mem_allLinks (l : Link) : l ∈ allLinks := by revert l; decide

theorem hasOffice_iff (links : Table LinkCfg 3) : hasOffice links = true ↔ ∃ l : Link, (links.get l).role = .office := by
  simp [hasOffice, mem_allLinks]

theorem State.setLink_lawsKept (l : Link) (c : LinkCfg) (keep : NoticeKind → Bool)
    (h : OfficeLaw s → ∃ k : Link, ((s.cfg.links.put l c).get k).role = .office) : LawsKept taken s (s.setLink l c keep) :=
  ⟨fun _ => id, h, id, id⟩

theorem linkSet_lawsKept (f) (s : State) : LawsKept taken s (linkSet f s).2 := by
  unfold linkSet
  split
  · exact .refl s
  · next l _ =>
    dsimp only
    split
    · exact .refl s
    · next hchecks =>
      have hoffice := (firstFail_eq_none _).mp hchecks (hasOffice (s.cfg.links.put l ⟨f.role, f.record, f.attention⟩), .state)
        (by simp)
      exact State.setLink_lawsKept l _ _ fun _ => (hasOffice_iff _).mp hoffice

/-- A change of a link's masks leaves the roles as they are (R183). -/
theorem noticeMaskSet_lawsKept (l f) (s : State) : LawsKept taken s (noticeMaskSet l f s).2 := by
  unfold noticeMaskSet
  split
  · refine State.setLink_lawsKept l _ _ fun ⟨k, hk⟩ => ⟨k, ?_⟩
    rw [Table.put_get]
    split
    · next h => rw [← hk, h]
    · exact hk
  · exact .refl s

theorem noticeFetch_tended (l u) (s : State) : Tended taken s (noticeFetch l u s).2 := s.modPort_tended _ _

/-! ## Receipts and stock -/

theorem receiptOpen_tended (n) (s : State) : Tended taken s (receiptOpen n s).2 := by
  unfold receiptOpen
  split
  · exact .refl s
  · dsimp only
    split
    · exact .refl s
    · exact (s.modTankBut_tended _ _).trans (State.journalReserve_tended _)

/-- A receipt is closed only where the book stays within its limits (R103). -/
theorem receiptClose_tended (f) (s : State) : Tended taken s (receiptClose f s).2 := by
  unfold receiptClose
  split
  · exact .refl s
  · next t _ =>
    split
    · exact .refl s
    · split
      · exact .refl s
      · have hclose {after : Int} (h : ¬ (after < Config.bookMin ∨ Config.bookMax < after)) (r : Receipt) (b : RecordBody) :
            Tended taken s ((s.changeStock t fun k => { k with book := after }).endReceipt t r b).2 :=
          (s.changeStock_tended t (f := fun k => { k with book := after }) fun _ _ => by
            rwa [not_or, not_lt, not_lt] at h).trans (State.endReceipt_tended _ t r b)
        have hrest (u : State) := u.modTank_tended (taken := taken) t
          (f := fun k => Tank.leakRest (s.cfg.tanks.get t).quietTime { k with state := .inService })
          fun x h => Tank.leakRest_bookIn _ _ h
        dsimp only
        split
        · exact .refl s
        · cases f.docket with
          | none =>
            dsimp only [Option.map_none]
            split
            · exact .refl s
            · next hlimits => exact (hclose hlimits _ _).trans (hrest _)
          | some d =>
            dsimp only [Option.map_some]
            split
            · exact .refl s
            · next hlimits => exact (hclose hlimits _ _).trans (Tended.iteAfter (State.raiseKind_tended _ _) |>.trans (hrest _))

theorem receiptCancel_tended (n) (s : State) : Tended taken s (receiptCancel n s).2 := by
  unfold receiptCancel
  split
  · exact .refl s
  · split
    · exact .refl s
    · exact (s.cancelReceipt_tended _ _).trans (State.modTankBut_tended _ _ _)

theorem stockSet_tended (f) (s : State) : Tended taken s (stockSet f s).2 := by
  unfold stockSet
  split
  · exact .refl s
  · dsimp only
    split
    · exact .refl s
    · next hchecks =>
      have hin := (firstFail_eq_none _).mp hchecks (_, .outOfRange) (List.mem_cons_self ..)
      simp only [Bool.and_eq_true, decide_eq_true_eq] at hin
      exact (s.writeUnreserved_tended _ _).trans (State.changeStock_tended _ _ fun _ _ => hin)

theorem journalRelease_tended (n) (s : State) : Tended taken s (journalRelease n s).2 := by
  unfold journalRelease
  split
  · exact .refl s
  · split
    · exact .refl s
    · split
      · exact s.setJournal_tended _
      · exact .refl s

/-! ## Accounts (R111, R124) -/

theorem withAccount_tended (m : Nat) (ok idle : Bool) {act : Account → Answer × State} (h : ∀ a, Tended taken s (act a).2) :
    Tended taken s (withAccount s m ok idle act).2 := by
  unfold withAccount
  split
  · exact .refl s
  · split
    · exact .refl s
    · split
      · exact .refl s
      · exact h _

/-- A change of accounts alone that keeps the table's form. -/
theorem Tended.accountsOnly {l : List Account} (h : AccountsLaw s → AccountsLaw { s with accounts := l }) :
    Tended taken s { s with accounts := l } := ⟨⟨fun _ => id, id, id, h⟩, id⟩

theorem insertAccount_perm (a : Account) : ∀ l : List Account, (insertAccount a l).Perm (a :: l)
  | [] => .refl _
  | b :: rest => by
    unfold insertAccount
    split
    · exact .refl _
    · exact ((insertAccount_perm a rest).cons b).trans (.swap a b rest)

/-- An account of a new number takes its place in ascending order (R126). -/
theorem insertAccount_ascending (a : Account) : ∀ l : List Account, l.Pairwise (fun x y => x.machine < y.machine) →
    (∀ b ∈ l, b.machine ≠ a.machine) → (insertAccount a l).Pairwise fun x y => x.machine < y.machine
  | [], _, _ => List.pairwise_singleton _ _
  | b :: rest, hasc, hnew => by
    obtain ⟨hb, hrest⟩ := List.pairwise_cons.mp hasc
    unfold insertAccount
    split
    · next hlt => exact List.pairwise_cons.mpr ⟨List.forall_mem_cons.mpr ⟨hlt, fun c hc => hlt.trans (hb c hc)⟩, hasc⟩
    · next hge =>
      have hne := hnew b (List.mem_cons_self ..)
      have htail := insertAccount_ascending a rest hrest fun c hc => hnew c (List.mem_cons_of_mem b hc)
      refine List.pairwise_cons.mpr ⟨fun c hc => ?_, htail⟩
      rcases List.mem_cons.mp ((insertAccount_perm a rest).mem_iff.mp hc) with rfl | hc
      · omega
      · exact hb c hc

theorem accountCreate_tended (f) (s : State) : Tended taken s (accountCreate f s).2 := by
  unfold accountCreate
  split
  · exact .refl s
  · next hchecks =>
    have hpassed := (firstFail_eq_none _).mp hchecks
    simp only [List.forall_mem_cons, decide_eq_true_eq] at hpassed
    obtain ⟨hok, hnone, hroom, -⟩ := hpassed
    have hperm := insertAccount_perm (newAccount f) s.accounts
    have hnew (b : Account) (hb : b ∈ s.accounts) : b.machine ≠ f.machine := by
      have := List.find?_eq_none.mp (Option.isNone_iff_eq_none.mp hnone) b hb
      simpa using this
    have hmachine : 1 ≤ f.machine ∧ f.machine ≤ 65534 := by
      simp only [AccountFieldsOk, machineOk, within, Bool.and_eq_true, decide_eq_true_eq] at hok
      exact hok.1.1
    refine Tended.beside _ (Tended.accountsOnly fun ⟨_, hasc, hnum⟩ => ⟨?_, insertAccount_ascending _ _ hasc hnew, fun a ha => ?_⟩)
    · rw [hperm.length_eq]
      exact hroom
    · rcases List.mem_cons.mp (hperm.mem_iff.mp ha) with rfl | ha
      · exact hmachine
      · exact hnum a ha

theorem accountDelete_tended (m) (s : State) : Tended taken s (accountDelete m s).2 := by
  refine withAccount_tended m _ _ fun _ => Tended.accountsOnly fun ⟨hlen, hasc, hnum⟩ => ⟨?_, hasc.filter _, fun a ha => ?_⟩
  · exact (List.length_filter_le _ _).trans hlen
  · exact hnum a (List.mem_of_mem_filter ha)

theorem accountEdit_tended (f) (s : State) : Tended taken s (accountEdit f s).2 :=
  withAccount_tended _ _ _ fun _ => s.modAccount_tended _ fun _ => rfl

theorem accountBlock_tended (m) (s : State) : Tended taken s (accountBlock m s).2 := by
  refine withAccount_tended m _ _ fun a => ?_
  split
  · exact .refl s
  · exact s.modAccount_tended _ fun _ => rfl

theorem accountUnblock_tended (m) (s : State) : Tended taken s (accountUnblock m s).2 := by
  refine withAccount_tended m _ _ fun a => ?_
  split
  · exact s.modAccount_tended _ fun _ => rfl
  · exact .refl s

theorem hoursConfirm_tended (m) (s : State) : Tended taken s (hoursConfirm m s).2 := by
  refine withAccount_tended m _ _ fun a => ?_
  split
  · exact s.modAccount_tended _ fun _ => rfl
  · exact .refl s

theorem hoursRebase_tended (f) (s : State) : Tended taken s (hoursRebase f s).2 := by
  unfold hoursRebase
  split
  · exact .refl s
  · exact withAccount_tended _ _ _ fun _ => s.modAccount_tended _ fun _ => rfl

theorem lubeSet_tended (f) (s : State) : Tended taken s (lubeSet f s).2 := by
  unfold lubeSet
  dsimp only
  split
  · exact .refl s
  · exact withAccount_tended _ _ _ fun _ => s.modAccount_tended _ fun _ => rfl

end

end Sys2Proof.Machine
end

section
/-! SUPPORT. A start-up keeps the laws of the tables, to its end or as far as it goes (R188, R193, R196). -/

namespace Sys2Proof.Machine

open Sys2Proof.Safety

section
variable {taken : Prop}

theorem State.endSave_tended (s : State) (e) : Tended taken s (s.endSave e) := by
  unfold State.endSave
  split
  · exact .refl s
  · exact (s.modSupply_tended _).trans (State.raise_tended _ _)

theorem State.warnOn_tended (s : State) : Tended taken s s.warnOn :=
  (s.modSupply_tended _).trans ((Tended.foldl _ State.warnedAt_tended _ _).trans (Tended.foldl _ State.warnOrder_tended _ _))

theorem State.warnOff_tended (s : State) : Tended taken s s.warnOff := s.modSupply_tended _

/-- A change of every tank that leaves its book as it is. -/
theorem booksLaw_of_get {s t : State} (h : ∀ k, (t.tanks.get k).book = (s.tanks.get k).book) (hs : BooksLaw s) : BooksLaw t :=
  fun k => by rw [h k]; exact hs k

/-- A change of every island that leaves its presence as it is. -/
theorem noneLeaving_of_get {s t : State} (h : ∀ i, (t.islands.get i).presence = (s.islands.get i).presence)
    (hs : NoneLeaving s) : NoneLeaving t := fun i => by rw [h i]; exact hs i

/-- The part stops, and nothing is left on its way (R195, R199). -/
theorem State.stop_tended (s : State) (cut) : Tended taken s (s.stop cut) where
  ends _ _ := rfl
  office := id
  books := booksLaw_of_get fun k => by rw [State.stop, Table.get_map]
  accounts := id
  leaving := noneLeaving_of_get fun i => by rw [State.stop, Table.get_map]

/-- A link with the role OFFICE is among what the loader accepts, and among the defaults (R188, R189). -/
theorem State.loadSettings_tended (s : State) (answers) : Tended taken s (s.loadSettings answers) where
  ends _ := id
  office _ := by
    rw [OfficeLaw, State.loadSettings]
    dsimp only
    split
    · next hok =>
      simp only [Image.accepted, Settings.inRange, Bool.and_eq_true] at hok
      exact (hasOffice_iff _).mp hok.2.2.1.2
    · exact ⟨0, rfl⟩
  books := id
  accounts := id
  leaving := id

theorem State.adoptStep_tended (s : State) (p) : Tended taken s (s.adoptStep p) :=
  Tended.iteAfter (Tended.ite (.refl s) (s.configure_tended _))

theorem State.restoreOrders_tended (s : State) : Tended taken s s.restoreOrders := by
  have hadopt (t : State) : Tended taken t (t.allSteps.foldl State.adoptStep t) := Tended.foldl _ State.adoptStep_tended _ t
  dsimp only [State.restoreOrders]
  refine Tended.trans ?_ (hadopt _)
  exact .same rfl rfl rfl rfl rfl

/-- What retention lost takes is at the values of R193. -/
theorem State.loseRetained_tended (s : State) : Tended taken s s.loseRetained where
  ends _ := id
  office := id
  books _ k := by
    rw [State.loseRetained, Table.get_map]
    change -2147483648 ≤ (0 : Int) ∧ (0 : Int) ≤ 2147483647
    decide
  accounts _ := ⟨Nat.zero_le _, .nil, fun _ h => absurd h List.not_mem_nil⟩
  leaving := noneLeaving_of_get fun i => by rw [State.loseRetained, Table.get_map]

theorem State.defaultTank_tended (s : State) (k) : Tended taken s (s.defaultTank k) := by
  unfold State.defaultTank
  refine Tended.iteAfter (Tended.trans ?_ (State.modTankBut_tended _ _ _))
  split
  · exact s.cancelReceipt_tended _ _
  · exact .refl s

theorem Tank.restarted_book (strapped : Bool) (c : TankCfg) (k : Tank) : (k.restarted strapped c).book = k.book := by
  unfold Tank.restarted
  dsimp only
  split <;> split <;> rfl

/-- Field state begins with every island ABSENT (R84). -/
theorem State.stageSeven_noneLeaving (s : State) : NoneLeaving s.stageSeven := fun i => by
  rw [State.stageSeven, Table.get_map]
  exact nofun

theorem State.stageSeven_tended (s : State) : Tended taken s s.stageSeven where
  ends _ _ := rfl
  office := id
  books := booksLaw_of_get fun k => by rw [State.stageSeven, Table.get_ofFn, Tank.restarted_book]
  accounts := id
  leaving _ := s.stageSeven_noneLeaving

theorem State.startUpReport_tended (s : State) (b r) : Tended taken s (s.startUpReport b r) := (s.applyReport_tended r).iteAfter

/-- The sampling of an island puts no end report on its way, as the islands begin ABSENT (R84). -/
theorem State.sampleIsland_tended {s : State} (hs : NoneLeaving s) (i) : Tended taken s (s.sampleIsland i) := by
  exact (Tended.iteAfter (State.detectorOn_quiet hs i)).trans ((State.modIslandBut_tended _ _ _).trans
    (State.startUpReport_tended _ _ _))

theorem State.sampleCouplings_tended (s : State) : Tended taken s s.sampleCouplings := by
  unfold State.sampleCouplings
  exact .same rfl rfl rfl rfl rfl

theorem State.sampleTank_tended (s : State) (k) : Tended taken s (s.sampleTank k) :=
  (s.modTankBut_tended _ _).trans (State.startUpReport_tended _ _ _)

theorem State.sampleStop_tended (s : State) : Tended taken s s.sampleStop :=
  (s.modShut_tended _).trans (State.startUpReport_tended _ _ _)

theorem State.sampleWarning_tended (s : State) : Tended taken s s.sampleWarning :=
  Tended.ite s.warnOn_tended s.warnOff_tended

theorem State.emptyNotices_tended (s : State) : Tended taken s s.emptyNotices :=
  Tended.foldl _ (fun s l => s.modPort_tended l _) _ s

theorem State.finishStartUp_tended (s : State) (reason) : Tended taken s (s.finishStartUp reason) :=
  s.drain_tended.trans ((State.emptyNotices_tended _).trans ((State.alignOutputs_tended _).trans
    ((State.modSupply_tended _ _).trans (State.raise_tended _ _))))

/-- An action that samples an island's inputs. -/
def Samples (a : StartAction) : Prop := ∃ i, a = .sampleIsland i

/-- An action of a start-up; an island is sampled where none is LEAVING. -/
theorem State.startAction_tended {s : State} {a : StartAction} (h : NoneLeaving s ∨ ¬ Samples a) :
    Tended taken s (s.startAction a) := by
  cases a with
  | endStep r => exact s.resetAt_tended r
  | endOrder i => exact s.resetHandOff_tended i
  | load answers => exact s.loadSettings_tended answers
  | restore => exact s.restoreOrders_tended
  | lose => exact s.loseRetained_tended
  | defaultTank t => exact s.defaultTank_tended t
  | reportLost => exact s.applyReport_tended .storeLost
  | fieldState => exact s.stageSeven_tended
  | sampleCouplings => exact s.sampleCouplings_tended
  | sampleIsland i => exact State.sampleIsland_tended (h.resolve_right fun hn => hn ⟨i, rfl⟩) i
  | sampleTank t => exact s.sampleTank_tended t
  | sampleStop => exact s.sampleStop_tended
  | sampleWarning => exact s.sampleWarning_tended
  | finish reason => exact s.finishStartUp_tended reason

theorem State.startActions_tended : ∀ (l : List StartAction) {s : State}, (NoneLeaving s ∨ ∀ a ∈ l, ¬ Samples a) →
    Tended taken s (l.foldl State.startAction s)
  | [], s, _ => .refl s
  | a :: l, s, h => by
    have hfirst : Tended taken s (s.startAction a) := State.startAction_tended (h.imp_right fun h => h a (List.mem_cons_self ..))
    refine hfirst.trans (State.startActions_tended l ?_)
    exact h.imp hfirst.leaving fun h b hb => h b (List.mem_cons_of_mem a hb)

/-- The plan of a start-up: no island is sampled before field state begins (R196). -/
def FieldFirst (plan : List StartAction) : Prop :=
  ∃ before after, plan = before ++ .fieldState :: after ∧ ∀ a ∈ before, ¬ Samples a

/-- A first part of such a plan. -/
theorem FieldFirst.take_tended {plan : List StartAction} (h : FieldFirst plan) (n : Nat) (s : State) :
    Tended taken s ((plan.take n).foldl State.startAction s) := by
  obtain ⟨before, after, rfl, hbefore⟩ := h
  rw [List.take_append, List.foldl_append]
  refine (State.startActions_tended (before.take n) (.inr fun a ha => hbefore a (List.mem_of_mem_take ha))).trans ?_
  cases n - before.length with
  | zero => exact .refl _
  | succ m =>
    exact (State.stageSeven_tended _).trans (State.startActions_tended _ (.inl (State.stageSeven_noneLeaving _)))

theorem FieldFirst.append {l plan : List StartAction} (hl : ∀ a ∈ l, ¬ Samples a) (h : FieldFirst plan) : FieldFirst (l ++ plan) := by
  obtain ⟨before, after, rfl, hbefore⟩ := h
  exact ⟨l ++ before, after, by simp, fun a ha => (List.mem_append.mp ha).elim (hl a) (hbefore a)⟩

theorem fieldFirst_laterActions (reason : RestartReason) : FieldFirst (laterActions reason) := by
  refine ⟨allTanks.map StartAction.defaultTank ++ (if reason = .powerOnLost then [StartAction.reportLost] else []),
    .sampleCouplings :: (allIslands.map StartAction.sampleIsland ++ (allTanks.map StartAction.sampleTank
      ++ [StartAction.sampleStop, .sampleWarning, .finish reason])), ?_, ?_⟩
  · simp only [laterActions, List.append_assoc, List.cons_append, List.nil_append]
  · rintro a ha ⟨i, rfl⟩
    rcases List.mem_append.mp ha with h | h
    · obtain ⟨_, -, h⟩ := List.mem_map.mp h
      cases h
    · split at h <;> simp at h

theorem fieldFirst_powerActions (r : Retention) (answers : Bool) : FieldFirst (powerActions r answers) := by
  cases r with
  | kept => exact (fieldFirst_laterActions _).append (l := [.load answers, .restore]) (by simp [Samples])
  | lost => exact (fieldFirst_laterActions _).append (l := [.load answers, .lose]) (by simp [Samples])

theorem State.fieldFirst_resetActions (s : State) (answers : Bool) :
    FieldFirst (s.resetActions ++ [.load answers] ++ laterActions .externalReset) := by
  refine (fieldFirst_laterActions _).append ?_
  rintro a ha ⟨i, rfl⟩
  simp [State.resetActions] at ha

/-- A start-up, to its end or as far as it goes. -/
theorem FieldFirst.startUp_tended {plan : List StartAction} (h : FieldFirst plan) (s : State) (reach : StartReach) :
    Tended taken s (s.startUp plan reach) := by
  cases reach with
  | whole =>
    have := h.take_tended (taken := taken) plan.length s
    rwa [List.take_length] at this
  | actions n =>
    have hprefix := h.take_tended (taken := taken) (min n (plan.length - 1)) s
    rw [← List.take_take, ← List.dropLast_eq_take] at hprefix
    have hoff (u : State) : Tended taken u (u.outputsOff.modSupply fun x => { x with starting := true }) :=
      (u.modShut_tended _).trans (State.modSupply_tended _ _)
    exact hprefix.trans (hoff _)

theorem State.lose_tended (s : State) (cut) : Tended taken s (s.lose cut) :=
  Tended.iteAfter ((s.stop_tended cut).trans (.same rfl rfl rfl rfl rfl))

theorem State.power_tended (s : State) (r answers reach) : Tended taken s (s.power r answers reach) := by
  have hstage (u : State) : Tended taken u (u.stageOne.modSupply fun x => { x with retention := r }) :=
    (u.stop_tended .beforeMark).trans (State.modSupply_tended _ _)
  refine Tended.trans ((s.lose_tended .beforeMark).trans (.same (t := { s.lose .beforeMark with powered := true })
    rfl rfl rfl rfl rfl)) (Tended.ite ((hstage _).trans ?_) ((hstage _).trans ?_))
  · cases r with
    | kept => exact .refl _
    | lost => exact (State.loseRetained_tended _).trans (State.setEntry_tended _ _ _)
  · exact (fieldFirst_powerActions r answers).startUp_tended _ reach

theorem State.resetOn_tended (s : State) (cut) : Tended taken s (s.resetOn cut) :=
  Tended.ite ((s.modPins_tended _).trans (State.stop_tended _ cut)) (s.modPins_tended _)

theorem State.resetOff_tended (s : State) (answers reach) : Tended taken s (s.resetOff answers reach) :=
  Tended.ite ((s.modPins_tended _).trans ((State.stop_tended _ .beforeMark).trans
    ((State.fieldFirst_resetActions _ answers).startUp_tended _ reach))) (s.modPins_tended _)

end

end Sys2Proof.Machine
end

section
/-! FAMILY. The laws of the tables and roles (R49, R94, R111, R179). -/

namespace Sys2Proof.Machine

open Sys2Proof.Safety

section
variable {taken : Prop} {s : State}

theorem State.answer_tended (s : State) (l tag kind a) : Tended taken s (s.answer l tag kind a) := s.modPort_tended _ _

/-- A request keeps the laws when its owner does (R176). -/
theorem State.serve_lawsKept {α : Type} (self : Instr) (l : Link) (tag : Half) (k : Kind) (b : Sent α)
    {owner : α → State → Answer × State} (h : ∀ a s, LawsKept taken s (owner a s).2) (s : State) :
    LawsKept taken s (s.serve self l tag k b owner) := by
  rcases s.serve_cases self l tag k b owner with ⟨-, e⟩ | ⟨-, r, -, e⟩ | ⟨-, -, -, e⟩ | ⟨-, -, a, -, e⟩ <;> rw [e]
  · exact .refl s
  · exact (s.answer_tended _ _ _ _).toLawsKept
  · exact (s.answer_tended _ _ _ _).toLawsKept
  · exact (h a s).trans (State.answer_tended _ _ _ _ _).toLawsKept

/-- An event keeps the laws when what a running part does with it does. -/
theorem State.whileRunning_lawsKept {f : State → State} (h : LawsKept taken s (f s)) : LawsKept taken s (s.whileRunning f) := by
  rcases s.whileRunning_cases f with ⟨-, e⟩ | ⟨-, e⟩ <;> rw [e]
  · exact h
  · exact .refl s

/-- A change of an input reaches its block when the block holds another level (R75). -/
theorem State.input_lawsKept (f : Pins → Pins) {held : State → Prop} [DecidablePred held] {g : State → State}
    (h : ∀ s, LawsKept taken s (g s)) :
    LawsKept taken s ((s.modPins f).whileRunning fun s => if held s then s else g s) := by
  refine (s.modPins_tended f).toLawsKept.trans (State.whileRunning_lawsKept ?_)
  split
  · exact .refl _
  · exact h _

/-- The like of an input that the block holds asserted. -/
theorem State.inputNegated_lawsKept (f : Pins → Pins) {held : State → Prop} [DecidablePred held] {g : State → State}
    (h : ∀ s, LawsKept taken s (g s)) :
    LawsKept taken s ((s.modPins f).whileRunning fun s => if held s then g s else s) := by
  refine (s.modPins_tended f).toLawsKept.trans (State.whileRunning_lawsKept ?_)
  split
  · exact h _
  · exact .refl _

theorem State.arriveReset_tended (s : State) (l tag b) : Tended taken s (s.arriveReset l tag b) := by
  cases b <;> exact s.modPort_tended _ _

theorem State.arrive_tended (s : State) (l body) : Tended taken s (s.arrive l body) :=
  Tended.ite (s.arriveReset_tended _ _ _) (s.modPort_tended _ _)

theorem State.receive_tended (s : State) (l b) : Tended taken s (s.receive l b) := by
  unfold State.receive
  split
  · exact Tended.ite (s.modPort_tended _ _) (Tended.ite (.refl s) (s.modPort_tended _ _))
  · split
    · exact s.modPort_tended _ _
    · exact s.modPort_tended _ _
    · exact s.modPort_tended _ _
    · exact (s.modPort_tended _ _).trans (State.arrive_tended _ _ _)

theorem State.frameExpiry_tended (s : State) (l) : Tended taken s (s.frameExpiry l) := by
  unfold State.frameExpiry
  exact (s.modPort_tended _ _).iteAfter

/-- A tenth of a second for the timers. -/
theorem State.idle_lawsKept (s : State) : LawsKept taken s s.idle :=
  State.whileRunning_lawsKept ⟨fun _ => id, id, booksLaw_of_get fun k => by rw [Table.get_map], id⟩

/-- A report that is taken is no longer on its way (R151). -/
theorem State.takenReport_tended (s : State) (r : Report) :
    Tended taken s (State.applyReport { s with reports := s.reports.erase r } r) := by
  refine Tended.trans ?_ (State.applyReport_tended _ r)
  exact .same rfl rfl rfl rfl rfl

/-- Owners that read. -/
theorem reading_lawsKept {α : Type} (f : α → State → Answer) (a : α) (s : State) : LawsKept taken s (reading f a s).2 := .refl s

/-! ## The commands -/

/-- Every command keeps the laws. -/
theorem exec_lawsKept (c : Instr) (s : State) : ∃ t, exec c s = .next t ∧ LawsKept taken s t := by
  cases c with
  | orderAdmit l tag b => exact ⟨_, rfl, State.serve_lawsKept _ l tag _ b (fun a s => (orderAdmit_tended a s).toLawsKept) s⟩
  | orderHold l tag b => exact ⟨_, rfl, State.serve_lawsKept _ l tag _ b (fun a s => (orderHold_tended a s).toLawsKept) s⟩
  | orderContinue l tag b => exact ⟨_, rfl, State.serve_lawsKept _ l tag _ b (fun a s => (orderContinue_tended a s).toLawsKept) s⟩
  | orderCancel l tag b => exact ⟨_, rfl, State.serve_lawsKept _ l tag _ b (fun a s => (orderCancel_tended a s).toLawsKept) s⟩
  | stepStop l tag b => exact ⟨_, rfl, State.serve_lawsKept _ l tag _ b (fun a s => (stepStop_tended a s).toLawsKept) s⟩
  | orderRead l tag b => exact ⟨_, rfl, State.serve_lawsKept _ l tag _ b (reading_lawsKept _) s⟩
  | islandRead l tag b => exact ⟨_, rfl, State.serve_lawsKept _ l tag _ b (reading_lawsKept _) s⟩
  | tankRead l tag b => exact ⟨_, rfl, State.serve_lawsKept _ l tag _ b (reading_lawsKept _) s⟩
  | hoseRead l tag b => exact ⟨_, rfl, State.serve_lawsKept _ l tag _ b (reading_lawsKept _) s⟩
  | shutdownRead l tag b => exact ⟨_, rfl, State.serve_lawsKept _ l tag _ b (reading_lawsKept _) s⟩
  | warnRead l tag b => exact ⟨_, rfl, State.serve_lawsKept _ l tag _ b (reading_lawsKept _) s⟩
  | journalRead l tag b => exact ⟨_, rfl, State.serve_lawsKept _ l tag _ b (reading_lawsKept _) s⟩
  | journalStatus l tag b => exact ⟨_, rfl, State.serve_lawsKept _ l tag _ b (reading_lawsKept _) s⟩
  | accountRead l tag b => exact ⟨_, rfl, State.serve_lawsKept _ l tag _ b (reading_lawsKept _) s⟩
  | accountNext l tag b => exact ⟨_, rfl, State.serve_lawsKept _ l tag _ b (reading_lawsKept _) s⟩
  | clockRead l tag b => exact ⟨_, rfl, State.serve_lawsKept _ l tag _ b (reading_lawsKept _) s⟩
  | supplyRead l tag b => exact ⟨_, rfl, State.serve_lawsKept _ l tag _ b (reading_lawsKept _) s⟩
  | identify l tag b => exact ⟨_, rfl, State.serve_lawsKept _ l tag _ b (reading_lawsKept _) s⟩
  | hoseSet l tag b => exact ⟨_, rfl, State.serve_lawsKept _ l tag _ b (fun a s => (hoseSet_tended a s).toLawsKept) s⟩
  | islandSet l tag b => exact ⟨_, rfl, State.serve_lawsKept _ l tag _ b (fun a s => (islandSetRequest_tended a s).toLawsKept) s⟩
  | tankSet l tag b => exact ⟨_, rfl, State.serve_lawsKept _ l tag _ b (fun a s => (tankSet_tended a s).toLawsKept) s⟩
  | fluidSet l tag b => exact ⟨_, rfl, State.serve_lawsKept _ l tag _ b (fun a s => (fluidSet_tended a s).toLawsKept) s⟩
  | strapLoad l tag b => exact ⟨_, rfl, State.serve_lawsKept _ l tag _ b (fun a s => (strapLoad_tended a s).toLawsKept) s⟩
  | causeSet l tag b => exact ⟨_, rfl, State.serve_lawsKept _ l tag _ b (fun a s => (causeSet_tended a s).toLawsKept) s⟩
  | accountLimitsSet l tag b => exact ⟨_, rfl, State.serve_lawsKept _ l tag _ b (fun a s => (accountLimitsSet_tended a s).toLawsKept) s⟩
  | linkSet l tag b => exact ⟨_, rfl, State.serve_lawsKept _ l tag _ b (fun a s => linkSet_lawsKept a s) s⟩
  | clockSet l tag b => exact ⟨_, rfl, State.serve_lawsKept _ l tag _ b (fun a s => (clockSet_tended a s).toLawsKept) s⟩
  | settingsSave l tag b => exact ⟨_, rfl, State.serve_lawsKept _ l tag _ b (fun a s => (settingsSave_tended a s).toLawsKept) s⟩
  | receiptOpen l tag b => exact ⟨_, rfl, State.serve_lawsKept _ l tag _ b (fun a s => (receiptOpen_tended a s).toLawsKept) s⟩
  | receiptClose l tag b => exact ⟨_, rfl, State.serve_lawsKept _ l tag _ b (fun a s => (receiptClose_tended a s).toLawsKept) s⟩
  | receiptCancel l tag b => exact ⟨_, rfl, State.serve_lawsKept _ l tag _ b (fun a s => (receiptCancel_tended a s).toLawsKept) s⟩
  | stockSet l tag b => exact ⟨_, rfl, State.serve_lawsKept _ l tag _ b (fun a s => (stockSet_tended a s).toLawsKept) s⟩
  | accountCreate l tag b => exact ⟨_, rfl, State.serve_lawsKept _ l tag _ b (fun a s => (accountCreate_tended a s).toLawsKept) s⟩
  | accountEdit l tag b => exact ⟨_, rfl, State.serve_lawsKept _ l tag _ b (fun a s => (accountEdit_tended a s).toLawsKept) s⟩
  | accountBlock l tag b => exact ⟨_, rfl, State.serve_lawsKept _ l tag _ b (fun a s => (accountBlock_tended a s).toLawsKept) s⟩
  | accountUnblock l tag b => exact ⟨_, rfl, State.serve_lawsKept _ l tag _ b (fun a s => (accountUnblock_tended a s).toLawsKept) s⟩
  | accountDelete l tag b => exact ⟨_, rfl, State.serve_lawsKept _ l tag _ b (fun a s => (accountDelete_tended a s).toLawsKept) s⟩
  | hoursConfirm l tag b => exact ⟨_, rfl, State.serve_lawsKept _ l tag _ b (fun a s => (hoursConfirm_tended a s).toLawsKept) s⟩
  | hoursRebase l tag b => exact ⟨_, rfl, State.serve_lawsKept _ l tag _ b (fun a s => (hoursRebase_tended a s).toLawsKept) s⟩
  | lubeSet l tag b => exact ⟨_, rfl, State.serve_lawsKept _ l tag _ b (fun a s => (lubeSet_tended a s).toLawsKept) s⟩
  | journalRelease l tag b => exact ⟨_, rfl, State.serve_lawsKept _ l tag _ b (fun a s => (journalRelease_tended a s).toLawsKept) s⟩
  | shutdownClear l tag b => exact ⟨_, rfl, State.serve_lawsKept _ l tag _ b (fun a s => (shutdownClear_tended a s).toLawsKept) s⟩
  | tripBay l tag b => exact ⟨_, rfl, State.serve_lawsKept _ l tag _ b (fun a s => (tripRequest_tended _ s).toLawsKept) s⟩
  | tripIsland l tag b => exact ⟨_, rfl, State.serve_lawsKept _ l tag _ b (fun a s => (tripIsland_tended l a s).toLawsKept) s⟩
  | tripTank l tag b => exact ⟨_, rfl, State.serve_lawsKept _ l tag _ b (fun a s => (tripTank_tended l a s).toLawsKept) s⟩
  | tripHose l tag b => exact ⟨_, rfl, State.serve_lawsKept _ l tag _ b (fun a s => (tripHose_tended l a s).toLawsKept) s⟩
  | noticeFetch l tag b => exact ⟨_, rfl, State.serve_lawsKept _ l tag _ b (fun a s => (noticeFetch_tended l a s).toLawsKept) s⟩
  | noticeMaskSet l tag b => exact ⟨_, rfl, State.serve_lawsKept _ l tag _ b (fun a s => noticeMaskSet_lawsKept l a s) s⟩
  | linkStatus l tag b => exact ⟨_, rfl, State.serve_lawsKept _ l tag _ b (reading_lawsKept _) s⟩
  | linkReset l tag b => exact ⟨_, rfl, State.whileRunning_lawsKept (s.arriveReset_tended l tag b).toLawsKept⟩
  | unknownKindRequest l tag kind => exact ⟨_, rfl, (Tended.iteAfter (s.answer_tended _ _ _ _)).toLawsKept⟩
  | linkByteReceived l b => exact ⟨_, rfl, State.whileRunning_lawsKept (s.receive_tended l b).toLawsKept⟩
  | frameTimerExpiry l => exact ⟨_, rfl, State.whileRunning_lawsKept (s.frameExpiry_tended l).toLawsKept⟩
  | replySent l => exact ⟨_, rfl, State.whileRunning_lawsKept (s.modPort_tended l _).toLawsKept⟩
  | meterPulse h => exact ⟨_, rfl, State.whileRunning_lawsKept (s.pulse_tended h).settleAll.toLawsKept⟩
  | probeReading h r => exact ⟨_, rfl, State.whileRunning_lawsKept (s.probe_tended h r).toLawsKept⟩
  | hoseCoupled h => exact ⟨_, rfl, State.input_lawsKept _ fun s => (s.couple_tended h).settleAll.toLawsKept⟩
  | hoseUncoupled h => exact ⟨_, rfl, State.inputNegated_lawsKept _ fun s => (s.uncouple_tended h).settleAll.toLawsKept⟩
  | detectorAsserted i => exact ⟨_, rfl, State.input_lawsKept _ fun s => (s.detectorOn_tended i).settleAll.toLawsKept⟩
  | detectorNegated i => exact ⟨_, rfl, State.inputNegated_lawsKept _ fun s => (s.detectorOff_lawsKept i).trans (State.settleAll_tended _).toLawsKept⟩
  | arrivalDebounceExpiry i => exact ⟨_, rfl, State.whileRunning_lawsKept (s.arrivalExpiry_tended i).settleAll.toLawsKept⟩
  | leavingDebounceExpiry i => exact ⟨_, rfl, State.whileRunning_lawsKept (s.leavingExpiry_tended i).settleAll.toLawsKept⟩
  | sumpFloatChange i level => exact ⟨_, rfl, State.input_lawsKept _ fun s => (s.floatLevel_tended i level).toLawsKept⟩
  | gaugeReadingValid k level tenths => exact ⟨_, rfl, State.whileRunning_lawsKept (s.gaugeValid_tended k level tenths).toLawsKept⟩
  | gaugeReadingFaulty k => exact ⟨_, rfl, State.whileRunning_lawsKept (s.gaugeFaulty_tended k).toLawsKept⟩
  | gaugeStaleExpiry k => exact ⟨_, rfl, State.whileRunning_lawsKept (s.gaugeStale_tended k).toLawsKept⟩
  | overfillProbeChange k level => exact ⟨_, rfl, State.input_lawsKept _ fun s => (s.probeLevel_tended k level).toLawsKept⟩
  | leakQuietExpiry k => exact ⟨_, rfl, State.whileRunning_lawsKept (s.leakQuiet_tended k).toLawsKept⟩
  | emergencyStopChange level => exact ⟨_, rfl, State.input_lawsKept _ fun s => (s.stopLevel_tended level).toLawsKept⟩
  | coupleWaitExpiry h => exact ⟨_, rfl, State.whileRunning_lawsKept (s.coupleWait_tended h).settleAll.toLawsKept⟩
  | stallTimerExpiry h => exact ⟨_, rfl, State.whileRunning_lawsKept (s.stall_tended h).settleAll.toLawsKept⟩
  | rateWindowExpiry h => exact ⟨_, rfl, State.whileRunning_lawsKept (s.rateWindow_tended h).toLawsKept⟩
  | settleTimerExpiry h => exact ⟨_, rfl, State.whileRunning_lawsKept (s.settleEnd_tended h).settleAll.toLawsKept⟩
  | strayQuietExpiry h => exact ⟨_, rfl, State.whileRunning_lawsKept (s.strayQuiet_tended h).toLawsKept⟩
  | shutdownReport r => exact ⟨_, rfl, State.whileRunning_lawsKept (s.takenReport_tended r).toLawsKept⟩
  | saveCompletion e => exact ⟨_, rfl, State.whileRunning_lawsKept (s.endSave_tended e).toLawsKept⟩
  | powerFailWarningAsserted => exact ⟨_, rfl, State.input_lawsKept _ fun s => s.warnOn_tended.settleAll.toLawsKept⟩
  | powerFailWarningNegated => exact ⟨_, rfl, State.inputNegated_lawsKept _ fun s => s.warnOff_tended.toLawsKept⟩
  | supplyLoss cut => exact ⟨_, rfl, (s.lose_tended cut).toLawsKept⟩
  | powerOn r run => exact ⟨_, rfl, (s.power_tended r run.answers run.reach).toLawsKept⟩
  | externalResetAsserted cut => exact ⟨_, rfl, (s.resetOn_tended cut).toLawsKept⟩
  | externalResetNegated run => exact ⟨_, rfl, (s.resetOff_tended run.answers run.reach).toLawsKept⟩
  | bayClockTick => exact ⟨_, rfl, (s.modSupply_tended _).toLawsKept⟩

/-- Every step keeps the laws. -/
theorem step_lawsKept {s t : State} (h : step s = .next t) : LawsKept taken s t := by
  unfold step at h
  split at h
  · cases h
    exact s.idle_lawsKept
  · next c rest _ =>
    obtain ⟨u, hu, hkept⟩ := exec_lawsKept (taken := taken) c { s with pending := rest }
    cases hu.symm.trans h
    exact ⟨hkept.ends, hkept.office, hkept.books, hkept.accounts⟩

/-- Settles O59: no step breaks a law of the tables and roles, as `step_lawsKept` says. -/
theorem tablesAndRolesAreKept : Obligations.TablesAndRolesAreKept := by
  refine ⟨fun s t h => ?_, fun s t hs h => (step_lawsKept (taken := True) h).accounts hs⟩
  have hkept := step_lawsKept (taken := True) h
  exact ⟨hkept.ends trivial, hkept.office, hkept.books⟩

end

end Sys2Proof.Machine
end

section
/-! FAMILY. The inputs and timers of a hose channel: couplings, pulses, stray pulses, windows, and the hose's configuration
(Chapter 2). -/

namespace Sys2Proof.Machine

open Sys2Proof.Safety

section
variable {s : State} {h : HoseNo} {r : StepRef} {st : Step}

/-! ## Commands after which only the outputs follow -/

/-- A command that leaves no end report on its way, and the shutdown unit as it was: only the outputs follow. -/
theorem exec_gives {c : Instr} {u : State} (hS : Steady s) (hx : exec c s = .next u.settleAll) (he : u.ends = s.ends)
    (hs : u.shut = s.shut) : ∃ t, exec c s = .next t ∧ OutputsFollow s t ∧ t = { u with shut := t.shut } :=
  ⟨_, hx, State.follow_settleAll (he.trans hS.2) hs, State.settleAll_eq (he.trans hS.2)⟩

theorem State.hoseStep_of (hs : StepOfHose s h r st) : s.hoseStep h = some (r, st) :=
  State.hoseStep_eq_some.mpr ⟨hs.1, hs.2.1⟩

theorem exec_meterPulse (hr : s.running = true) : exec (.meterPulse h) s = .next (s.pulse h).settleAll := by
  rw [exec, execMeterPulse, State.whileRunning_of hr]

theorem exec_hoseUncoupled (hr : s.running = true) (hc : (s.hoses.get h).coupled = true) : exec (.hoseUncoupled h) s =
    .next (State.uncouple { s with pins := { s.pins with coupling := s.pins.coupling.put h false } } h).settleAll := by
  have hr' : (s.modPins fun p => { p with coupling := p.coupling.put h false }).running = true := hr
  rw [exec, execHoseUncoupled, State.whileRunning_of hr']
  exact congrArg _ (if_pos hc)

theorem exec_stallTimerExpiry (hr : s.running = true) : exec (.stallTimerExpiry h) s = .next (s.stall h).settleAll := by
  rw [exec, execStallTimerExpiry, State.whileRunning_of hr]

theorem exec_rateWindowExpiry (hr : s.running = true) : exec (.rateWindowExpiry h) s = .next (s.rateWindow h) := by
  rw [exec, execRateWindowExpiry, State.whileRunning_of hr]

theorem exec_strayQuietExpiry (hr : s.running = true) : exec (.strayQuietExpiry h) s = .next (s.strayQuiet h) := by
  rw [exec, execStrayQuietExpiry, State.whileRunning_of hr]

/-! ## The closing of a RUNNING step (R37, R38, R41) -/

/-- A RUNNING step without an end status settles with that of its closing, and has run on by nothing (R41, R42). -/
theorem State.settle_running (hs : HasStep s r st) (hr : Running st) (hn : st.endStatus = none) (e : StepEnd) :
    s.settle r st e none = { s with
      hoses := s.hoses.modify st.hose (settlingChannel st.ctx.settleTime), orders := putStep s r (settlingStep e st) } := by
  have hstep : settledBy e none st = settlingStep e st := by
    rw [settledBy_eq, settledCause_none, if_pos hr, if_pos hr, hn, Bool.or_false]
    rfl
  have hquiet : runOnOf (st.settled e none) = [] := by
    rw [runOnOf, runsOn_settled, if_pos hr]
    rfl
  rw [State.settle_eq hs, hstep, hquiet, List.append_nil]

theorem State.uncouple_idle (hn : (s.hoses.get h).step = none) :
    s.uncouple h = s.modHose h fun k => { k with coupled := false } := by
  have hk : ((s.modHose h fun k => { k with coupled := false }).hoses.get h).step = none := by
    simp [State.modHose, hn]
  rw [State.uncouple, State.hoseStep_of_idle hk]

theorem State.uncouple_running (hs : StepOfHose s h r st) (hr : Running st) :
    s.uncouple h = (s.modHose h fun k => { k with coupled := false }).settle r st .uncoupled none := by
  obtain ⟨hh, hst, -⟩ := hs
  have hk : ((s.modHose h fun k => { k with coupled := false }).hoses.get h).step = some r := by
    simp [State.modHose, hh]
  have hu : (s.modHose h fun k => { k with coupled := false }).hoseStep h = some (r, st) :=
    State.hoseStep_eq_some.mpr ⟨hk, hst⟩
  rw [State.uncouple, hu]
  exact if_pos ((Step.isRunning_iff st).mpr hr)

theorem State.stall_stopped (hn : (s.hoses.get h).stallTimer = none) : s.stall h = s := by
  rw [State.stall]
  split
  · rfl
  · exact if_neg fun e => by simp [hn] at e

theorem State.stall_running (hs : StepOfHose s h r st) (hr : Running st) (ht : (s.hoses.get h).stallTimer ≠ none) :
    s.stall h = s.settle r st (if st.kind = .preset ∨ st.kind = .presetRecover then .stalled else .full) none := by
  rw [State.stall, State.hoseStep_of hs, ← if_congr (StepKindPreset_iff st.kind) rfl rfl]
  exact if_pos ⟨Option.isSome_iff_ne_none.mpr ht, (Step.isRunning_iff st).mpr hr⟩

end

/-- Settles O41: the uncoupling and the stall both close the valve of a RUNNING step (`State.settle_running`). -/
theorem closingsSettleTheStep : Obligations.ClosingsSettleTheStep := by
  intro h s hS
  have hrun := hS.1
  refine ⟨fun hc hn => ?_, fun hn => ?_, fun r st hs hr hnone => ⟨fun hc => ?_, fun ht => ?_⟩⟩
  · have hx := exec_hoseUncoupled hrun hc
    rw [State.uncouple_idle (by exact hn)] at hx
    exact exec_gives hS hx rfl rfl
  · have hx := exec_stallTimerExpiry (h := h) hrun
    rw [State.stall_stopped hn] at hx
    exact exec_gives hS hx rfl rfl
  · obtain ⟨-, hst, rfl⟩ := id hs
    have hx := exec_hoseUncoupled hrun hc
    rw [State.uncouple_running (r := r) (st := st) (by exact hs) hr, State.settle_running (by exact hst) hr hnone] at hx
    rw [← Table.modify_modify s.hoses st.hose fun k => { k with coupled := false }]
    exact exec_gives hS hx rfl rfl
  · obtain ⟨-, hst, rfl⟩ := id hs
    have hx := exec_stallTimerExpiry (h := st.hose) hrun
    rw [State.stall_running hs hr ht, State.settle_running hst hr hnone] at hx
    exact exec_gives hS hx rfl rfl

/-! ## Windows and quiet timers (R39, R52, R69, R70) -/

/-- Settles O44: each timer of a channel acts only while it runs. -/
theorem windowsAndQuietTimers : Obligations.WindowsAndQuietTimers := by
  intro h s hrun
  refine ⟨fun hn => ?_, fun r st hs hr ht => ?_, fun hn => ?_, fun ht => ?_⟩
  · rw [exec_rateWindowExpiry hrun, State.rateWindow]
    split
    · rfl
    · rw [if_neg fun e => by simp [hn] at e]
  · have hruns : (s.hoses.get h).rateTimer.isSome ∧ st.isRunning = true :=
      ⟨Option.isSome_iff_ne_none.mpr ht, (Step.isRunning_iff st).mpr hr⟩
    rw [exec_rateWindowExpiry hrun, State.rateWindow, State.hoseStep_of hs]
    simp only [if_pos hruns]
    by_cases hb : st.ctx.maxPulses < (s.hoses.get h).windowCount
    · rw [if_pos hb, if_pos hb]
      rfl
    · rw [if_neg hb, if_neg hb, List.append_nil]
      rfl
  · rw [exec_strayQuietExpiry hrun, State.strayQuiet, if_neg (by simp [hn])]
  · rw [exec_strayQuietExpiry hrun, State.strayQuiet, if_pos (Option.isSome_iff_ne_none.mpr ht)]
    rfl

end Sys2Proof.Machine
end

section
/-! FAMILY. Pulses metered to a step (R36, R41, R42, R57, R58). -/

namespace Sys2Proof.Machine

open Sys2Proof.Safety

section
variable {s : State} {h : HoseNo} {r : StepRef} {st : Step}

theorem Step.isMetered_iff (st : Step) :
    st.isMetered = true ↔ Running st ∨ st.state = .suspended ∨ st.state = .settling := by
  simp only [Step.isMetered, Bool.or_eq_true, decide_eq_true_iff, Step.isRunning_iff]
  tauto

/-- The state with a pulse counted to a step. -/
def pulseCounted (s : State) (r : StepRef) (st : Step) : State := { s with orders := putStep s r (pulsed st) }

theorem pulseCounted_hasStep (hs : HasStep s r st) : HasStep (pulseCounted s r st) r (pulsed st) := hasStep_putStep hs rfl

theorem pulseCounted_putStep (s : State) (r : StepRef) (st w : Step) : putStep (pulseCounted s r st) r w = putStep s r w :=
  putStep_putStep (s := s) (v := pulsed st) rfl w

theorem State.pulse_metered (hs : StepOfHose s h r st) (hm : st.isMetered = true) : s.pulse h = s.meteredPulse r st := by
  rw [State.pulse, State.hoseStep_of hs]
  exact if_pos hm

theorem State.meteredPulse_eq (hs : HasStep s r st) : s.meteredPulse r st =
    if Running st then (pulseCounted s r st).runningPulse r (pulsed st)
    else if st.state = .settling then
      State.runOnCheck ((pulseCounted s r st).modHose st.hose fun k => { k with settleTimer := some st.ctx.settleTime }) r
    else pulseCounted s r st := by
  rw [← if_congr (Step.isRunning_iff st) rfl rfl, State.meteredPulse, State.modStep_eq hs]
  rfl

/-- The run-on check after a pulse in SETTLING: the first run-on beyond the limit is reported (R42). -/
theorem runsOn_pulsed {n : Nat} (hn : st.netAtClose = some n) :
    runsOn (pulsed st) = true ↔ st.runOnReported = false ∧ st.ctx.runOnLimit < netOf (pulsed st) - n := by
  rw [runsOn_of (st := pulsed st) (b := st.runOnReported) (l := st.ctx.runOnLimit) rfl rfl rfl hn]
  simp

/-- A pulse in SETTLING: the settle timer restarts and the run-on is checked (R41, R42). -/
theorem State.meteredPulse_settling (hs : HasStep s r st) (hst : st.state = .settling) : s.meteredPulse r st = { s with
    hoses := s.hoses.modify st.hose fun k => { k with settleTimer := some st.ctx.settleTime }
    orders := putStep s r (runOnMarked (pulsed st)), reports := s.reports ++ runOnOf (pulsed st) } := by
  have hp : HasStep ((pulseCounted s r st).modHose st.hose fun k => { k with settleTimer := some st.ctx.settleTime }) r
      (pulsed st) := pulseCounted_hasStep hs
  rw [State.meteredPulse_eq hs, if_neg (by simp [Running, hst]), if_pos hst, State.runOnCheck_eq hp,
    ← pulseCounted_putStep s r st]
  rfl

/-- The channel after a pulse in RUNNING: the stall timer restarts and the window counts (R36). -/
def runningChannel (st : Step) (k : Channel) : Channel :=
  { k with stallTimer := some (st.ctx.stallTime * 10), windowCount := k.windowCount + 1 }

/-- A pulse in RUNNING that meets the target: the valve closes and the step settles COMPLETE (R36, R41). -/
theorem State.meteredPulse_complete (hs : HasStep s r st) (hr : Running st) (hn : st.endStatus = none)
    (ht : st.target ≤ netOf (pulsed st)) : s.meteredPulse r st = { s with
      hoses := s.hoses.modify st.hose (settlingChannel st.ctx.settleTime)
      orders := putStep s r (settlingStep .complete (pulsed st)) } := by
  have hp : HasStep ((pulseCounted s r st).modHose st.hose (runningChannel st)) r (pulsed st) := pulseCounted_hasStep hs
  have hhoses : (s.hoses.modify st.hose (runningChannel st)).modify st.hose (settlingChannel st.ctx.settleTime)
      = s.hoses.modify st.hose (settlingChannel st.ctx.settleTime) := Table.modify_modify ..
  have hrun : (pulseCounted s r st).runningPulse r (pulsed st)
      = ((pulseCounted s r st).modHose st.hose (runningChannel st)).settle r (pulsed st) .complete none := if_pos ht
  rw [State.meteredPulse_eq hs, if_pos hr, hrun, State.settle_running hp hr hn, ← pulseCounted_putStep s r st, ← hhoses]
  rfl

/-- A pulse that takes a RUNNING_FAST step to its slow-down point: the valve goes to LOW (R36). -/
theorem State.meteredPulse_slow (hs : HasStep s r st) (hf : st.state = .runningFast) (ht : ¬ st.target ≤ netOf (pulsed st))
    (hd : st.target - st.ctx.slowDown ≤ netOf (pulsed st)) : s.meteredPulse r st = { s with
      hoses := s.hoses.modify st.hose fun k => { runningChannel st k with valve := .low }
      orders := putStep s r { pulsed st with state := .runningSlow } } := by
  have hp : HasStep ((pulseCounted s r st).modHose st.hose (runningChannel st)) r (pulsed st) := pulseCounted_hasStep hs
  have hrun : (pulseCounted s r st).runningPulse r (pulsed st)
      = (((pulseCounted s r st).modHose st.hose (runningChannel st)).modStep r fun w => { w with state := .runningSlow }).modHose
        st.hose fun k => { k with valve := .low } := (if_neg ht).trans (if_pos ⟨hf, hd⟩)
  have hhoses : (s.hoses.modify st.hose (runningChannel st)).modify st.hose (fun k => { k with valve := .low })
      = s.hoses.modify st.hose fun k => { runningChannel st k with valve := .low } := Table.modify_modify ..
  rw [State.meteredPulse_eq hs, if_pos (.inl hf), hrun, State.modStep_eq hp, ← pulseCounted_putStep s r st, ← hhoses]
  rfl

/-- A pulse in RUNNING short of those points only counts (R36). -/
theorem State.meteredPulse_counts (hs : HasStep s r st) (hr : Running st) (ht : ¬ st.target ≤ netOf (pulsed st))
    (hd : ¬ (st.state = .runningFast ∧ st.target - st.ctx.slowDown ≤ netOf (pulsed st))) : s.meteredPulse r st = { s with
      hoses := s.hoses.modify st.hose (runningChannel st), orders := putStep s r (pulsed st) } := by
  rw [State.meteredPulse_eq hs, if_pos hr]
  exact (if_neg ht).trans (if_neg hd)

/-- A pulse in SUSPENDED is counted to the step, and that is all (R58). -/
theorem State.meteredPulse_suspended (hs : HasStep s r st) (hst : st.state = .suspended) :
    s.meteredPulse r st = { s with orders := putStep s r (pulsed st) } := by
  rw [State.meteredPulse_eq hs, if_neg (by simp [Running, hst]), if_neg (by simp [hst])]
  rfl

end

/-- Settles O37: one equation for a pulse in each state of a metered step. -/
theorem pulsesAreMeteredToTheStep : Obligations.PulsesAreMeteredToTheStep := by
  intro h r st s hS hs
  have hpulse (hm : Running st ∨ st.state = .suspended ∨ st.state = .settling) :
      exec (.meterPulse h) s = .next (s.meteredPulse r st).settleAll := by
    rw [exec_meterPulse hS.1, State.pulse_metered hs ((Step.isMetered_iff st).mpr hm)]
  obtain ⟨-, hst, rfl⟩ := hs
  refine ⟨fun hsus => ?_, fun n hset hn => ?_, fun hr hnone => ?_⟩
  · have hx := hpulse (.inr (.inl hsus))
    rw [State.meteredPulse_suspended hst hsus] at hx
    exact exec_gives hS hx rfl rfl
  · have hx := hpulse (.inr (.inr hset))
    rw [State.meteredPulse_settling hst hset] at hx
    obtain ⟨t, hx, hfollow, ht⟩ := exec_gives hS hx rfl rfl
    refine ⟨t, hx, hfollow, ?_⟩
    by_cases hon : st.runOnReported = false ∧ st.ctx.runOnLimit < netOf (pulsed st) - n
    · have hr : runsOn (pulsed st) = true := (runsOn_pulsed hn).mpr hon
      rw [runOnMarked, runOnOf, if_pos hr, hr, Bool.or_true] at ht
      rw [if_pos hon]
      exact ht
    · have hr : runsOn (pulsed st) = false := Bool.eq_false_of_not_iff (runsOn_pulsed hn) hon
      rw [runOnMarked, runOnOf, hr, Bool.or_false, if_neg Bool.false_ne_true, List.append_nil] at ht
      rw [if_neg hon]
      exact ht
  · have hx := hpulse (.inl hr)
    by_cases ht : st.target ≤ netOf (pulsed st)
    · rw [State.meteredPulse_complete hst hr hnone ht] at hx
      simp only [if_pos ht]
      exact exec_gives hS hx rfl rfl
    · by_cases hd : st.state = .runningFast ∧ st.target - st.ctx.slowDown ≤ netOf (pulsed st)
      · rw [State.meteredPulse_slow hst hd.1 ht hd.2] at hx
        simp only [if_neg ht, if_pos hd]
        exact exec_gives hS hx rfl rfl
      · rw [State.meteredPulse_counts hst hr ht hd] at hx
        simp only [if_neg ht, if_neg hd]
        exact exec_gives hS hx rfl rfl

end Sys2Proof.Machine
end

section
/-! FAMILY. Stray pulses (R52, R53, R69, R92, R94). -/

namespace Sys2Proof.Machine

open Sys2Proof.Safety

theorem Tank.leakRestart_eq (quiet : Nat) (k : Tank) : k.leakRestart quiet = watchRestarted quiet k := by
  unfold Tank.leakRestart watchRestarted
  cases k.leak <;> rfl

/-- A tank after a stray charge (R92, R94, R99). -/
def strayCharged (minutes charge : Nat) (k : Tank) : Tank :=
  watchRestarted minutes
    { bookCharged (-(charge : Int)) k with
      unassigned := min 4294967295 (k.unassigned + charge)
      receipt := k.receipt.map fun r => { r with drawn := r.drawn + charge } }

theorem Tank.afterStray_eq (charge quiet : Nat) (k : Tank) : Tank.afterStray charge quiet k = strayCharged quiet charge k := by
  have hu : (bookCharged (-(charge : Int)) k).unassigned = k.unassigned := by rw [bookCharged_only]
  rw [Tank.afterStray, strayCharged, Tank.leakRestart_eq, Tank.addToBook_eq, ← hu, ← bookCharged_receipt (-(charge : Int)) k]
  rfl

/-- A channel after a stray pulse, before the pulse is priced (R52). -/
def strayCounted (c : HoseCfg) (n : Nat) (k : Channel) : Channel :=
  { k with
    strayCount := n, strayTimer := some c.settleTime, strayReported := k.strayReported || decide (c.strayThreshold ≤ n) }

section
variable {s : State} {h : HoseNo} {k : TankNo}

/-- The stray count after a stray pulse (R52). -/
def strayCountAfter (s : State) (h : HoseNo) : Nat := min 255 ((s.hoses.get h).strayCount + 1)

/-- The state with a stray pulse counted and not yet priced. -/
def strayNoted (s : State) (h : HoseNo) : State :=
  s.modHose h (strayCounted (s.cfg.hoses.get h) (strayCountAfter s h))

/-- Whether a stray pulse reaches the threshold for the first time (R52). -/
def strayDue (s : State) (h : HoseNo) : Bool :=
  !(s.hoses.get h).strayReported && decide ((s.cfg.hoses.get h).strayThreshold ≤ strayCountAfter s h)

theorem State.strayPulse_eq : s.strayPulse h = if strayDue s h then ((strayNoted s h).priceStray h).report (.strayFlow h)
    else (strayNoted s h).priceStray h := by
  have hnoted : s.modHose h (fun k => { k with
      strayCount := strayCountAfter s h, strayReported := k.strayReported || strayDue s h
      strayTimer := some (s.cfg.hoses.get h).settleTime }) = strayNoted s h := by
    have := Table.modify_congr s.hoses h (fun k => { k with
      strayCount := strayCountAfter s h, strayReported := k.strayReported || strayDue s h
      strayTimer := some (s.cfg.hoses.get h).settleTime })
      (strayCounted (s.cfg.hoses.get h) (strayCountAfter s h)) (by
        simp only [strayCounted, strayDue]
        cases (s.hoses.get h).strayReported <;> rfl)
    rw [strayNoted, State.modHose, State.modHose, this]
  rw [← hnoted]
  rfl

/-- A hose that is not enabled or has no tank charges nothing (R53). -/
theorem State.priceStray_uncharged (hn : (s.cfg.hoses.get h).enabled = false ∨ (s.cfg.hoses.get h).tank = none) :
    s.priceStray h = s := by
  rw [State.priceStray]
  split
  · rfl
  · next ht =>
    have he : (s.cfg.hoses.get h).enabled = false := hn.resolve_right (by simp [ht])
    exact if_neg (by simp [he])

/-- What a stray pulse charges to the tank: the whole millilitres not charged yet (R69). -/
def strayCharge (s : State) (h : HoseNo) (k : TankNo) : Nat :=
  reportedNet (s.strayAccAfter h k) - (s.hoses.get h).strayCharged

theorem State.priceStray_charged (he : (s.cfg.hoses.get h).enabled = true) (ht : (s.cfg.hoses.get h).tank = some k) :
    let charged := strayCharged (s.cfg.tanks.get k).quietTime (strayCharge s h k)
    s.priceStray h = { s with
      hoses := s.hoses.modify h fun x =>
        { x with strayAcc := s.strayAccAfter h k, strayCharged := x.strayCharged + strayCharge s h k }
      tanks := s.tanks.modify k charged
      ports := raised s
        (noticeIf (lowPassed (s.cfg.tanks.get k) (s.tanks.get k) (charged (s.tanks.get k))) (notice .tankLow)) } := by
  intro charged
  have hcharged : Tank.afterStray (strayCharge s h k) (s.cfg.tanks.get k).quietTime = charged :=
    funext fun x => Tank.afterStray_eq _ _ x
  rw [State.priceStray, ht]
  simp only [if_pos he]
  rw [State.chargeStray, State.changeStock_eq, ← hcharged]
  congr 1
  exact raised_congr _ rfl rfl

theorem strayNoted_channel : (strayNoted s h).hoses.get h
    = strayCounted (s.cfg.hoses.get h) (strayCountAfter s h) (s.hoses.get h) := Table.modify_self ..

/-- The count of a stray pulse leaves its price as it was. -/
theorem strayNoted_acc : (strayNoted s h).strayAccAfter h k = s.strayAccAfter h k := by
  rw [State.strayAccAfter, State.strayAccAfter, State.strayTemp, State.strayTemp, strayNoted_channel]
  rfl

theorem strayNoted_charge : strayCharge (strayNoted s h) h k = strayCharge s h k := by
  rw [strayCharge, strayCharge, strayNoted_acc, strayNoted_channel]
  rfl

/-- A pulse at a hose without a step is stray (R57). -/
theorem State.pulse_stray (hn : (s.hoses.get h).step = none) : s.pulse h = s.strayPulse h := by
  rw [State.pulse, State.hoseStep_of_idle hn]

theorem State.strayPulse_uncharged (hn : (s.cfg.hoses.get h).enabled = false ∨ (s.cfg.hoses.get h).tank = none) :
    s.strayPulse h = { strayNoted s h with
      reports := s.reports ++ if strayDue s h then [Report.strayFlow h] else [] } := by
  rw [State.strayPulse_eq, State.priceStray_uncharged (s := strayNoted s h) hn]
  split
  · rfl
  · rw [List.append_nil]
    rfl

theorem State.strayPulse_charged (he : (s.cfg.hoses.get h).enabled = true) (ht : (s.cfg.hoses.get h).tank = some k) :
    let charged := strayCharged (s.cfg.tanks.get k).quietTime (strayCharge s h k)
    s.strayPulse h = { s with
      hoses := s.hoses.modify h fun x => { strayCounted (s.cfg.hoses.get h) (strayCountAfter s h) x with
        strayAcc := s.strayAccAfter h k, strayCharged := x.strayCharged + strayCharge s h k }
      tanks := s.tanks.modify k charged
      ports := raised s
        (noticeIf (lowPassed (s.cfg.tanks.get k) (s.tanks.get k) (charged (s.tanks.get k))) (notice .tankLow))
      reports := s.reports ++ if strayDue s h then [Report.strayFlow h] else [] } := by
  intro charged
  have hprice := State.priceStray_charged (s := strayNoted s h) he ht
  have hhoses : (strayNoted s h).hoses.modify h (fun x =>
        { x with strayAcc := s.strayAccAfter h k, strayCharged := x.strayCharged + strayCharge s h k })
      = s.hoses.modify h fun x => { strayCounted (s.cfg.hoses.get h) (strayCountAfter s h) x with
        strayAcc := s.strayAccAfter h k, strayCharged := x.strayCharged + strayCharge s h k } := Table.modify_modify ..
  have hports (l : List Notice) : raised (strayNoted s h) l = raised s l := raised_congr _ rfl rfl
  simp only [strayNoted_acc, strayNoted_charge, hhoses, hports] at hprice
  rw [State.strayPulse_eq, hprice]
  split
  · rfl
  · rw [List.append_nil]
    rfl

end

/-- Settles O38: the pulse is counted (`strayNoted`), and priced where the hose can charge a tank. -/
theorem strayPulsesAreCountedAndCharged : Obligations.StrayPulsesAreCountedAndCharged := by
  intro h s hS hn
  have hx := exec_meterPulse (h := h) hS.1
  rw [State.pulse_stray hn] at hx
  refine ⟨fun hno => ?_, fun k he ht => ?_⟩
  · rw [State.strayPulse_uncharged hno] at hx
    exact exec_gives hS hx rfl rfl
  · rw [State.strayPulse_charged he ht] at hx
    exact exec_gives hS hx rfl rfl

end Sys2Proof.Machine
end

section
/-! FAMILY. The coupling of a hose and the claim that it makes (R32, R33, R47, R87, R88, R91). -/

namespace Sys2Proof.Machine

open Sys2Proof.Safety

section
variable {s m : State} {h : HoseNo} {r : StepRef} {st : Step} {amount : Nat} {limit : LimitedBy}

/-! ## The input -/

/-- The state with the level of a hose's coupling input stored. -/
def couplingRead (s : State) (h : HoseNo) : State :=
  { s with pins := { s.pins with coupling := s.pins.coupling.put h true } }

theorem exec_hoseCoupled (hr : s.running = true) : exec (.hoseCoupled h) s =
    .next (if (s.hoses.get h).coupled = true then couplingRead s h else ((couplingRead s h).couple h).settleAll) := by
  have hr' : (s.modPins fun p => { p with coupling := p.coupling.put h true }).running = true := hr
  rw [exec, execHoseCoupled, State.whileRunning_of hr']
  rfl

/-- The state with a hose coupled. -/
def hoseCoupled (s : State) (h : HoseNo) : State := (couplingRead s h).modHose h fun k => { k with coupled := true }

theorem hoseCoupled_channel : (hoseCoupled s h).hoses.get h = { s.hoses.get h with coupled := true } := Table.modify_self ..

theorem couple_idle (hn : (s.hoses.get h).step = none) : (couplingRead s h).couple h = hoseCoupled s h := by
  have hk : (hoseCoupled s h).hoseStep h = none := State.hoseStep_of_idle (by rw [hoseCoupled_channel]; exact hn)
  change (hoseCoupled s h).tryClaim h = _
  rw [State.tryClaim, hk]

/-- A coupling that meets the claim conditions of R32: the waiting step claims. -/
theorem couple_claims (hs : StepOfHose s h r st) (hw : st.state = .waitingCouple) (hsus : st.suspension = none)
    (h0 : st.target = 0) (hacc : st.netAcc = 0) (hwants : Wants st amount limit) (h1 : 1 ≤ amount)
    (hp : (s.islands.get r.island).presence = .present) (hn : s.supply.state = .normal) :
    (couplingRead s h).couple h = claimAct (hoseCoupled s h) r st amount limit (hoseCoupled s h) := by
  obtain ⟨hstep, hst, rfl⟩ := hs
  have hco : ((hoseCoupled s st.hose).hoses.get st.hose).coupled = true := by rw [hoseCoupled_channel]
  have hk : (hoseCoupled s st.hose).hoseStep st.hose = some (r, st) :=
    State.hoseStep_eq_some.mpr ⟨by rw [hoseCoupled_channel]; exact hstep, hst⟩
  have hready : (hoseCoupled s st.hose).claimReady r st = true :=
    (State.claimReady_iff (s := hoseCoupled s st.hose) hp).mpr ⟨hw, by simp [hsus], hco, hn⟩
  rw [← State.claim_acts (s := hoseCoupled s st.hose) hst hacc hwants h1]
  change (hoseCoupled s st.hose).tryClaim st.hose = _
  rw [State.tryClaim, hk]
  simp only [if_pos hready, h0, Nat.lt_irrefl, if_false]

theorem claimAct_shut (b : State) (h1 : 1 ≤ amount) : (claimAct b r st amount limit m).shut = m.shut := by
  rcases claimAct_cases b r st limit h1 with ⟨e, cause, h⟩ | ⟨q, l, -, h⟩ <;> rw [h] <;> rfl

/-! ## The step whose claim is refused -/

/-- A refused claim ends the step; while another step of its order's group goes on, that is all (R12, R33). -/
theorem refusedAt_ends {o : Order} (hst : HasStep m r st) (hm : m.ends = []) (ho : m.orders.get r.island = some o)
    (ha : o.state = .active) (hg : GroupGoesOn o r.idx) (hstop : st.stopOnError = false) (e : StepEnd)
    (cause : Option Cause) : (refusedAt r st e cause m).settleAll = { refusedAt r st e cause m with
      orders := putStep m r (endedWaitingStep e cause st), ends := m.ends
      ports := raised (refusedAt r st e cause m) [noticeAt .stepEnded r.island]
      shut := (refusedAt r st e cause m).settleAll.shut } := by
  generalize hv : ({ refusedAt r st e cause m with
      orders := putStep m r (endedWaitingStep e cause st), ends := m.ends
      ports := raised (refusedAt r st e cause m) [noticeAt .stepEnded r.island] } : State) = v
  have hends : v.ends = [] := by rw [← hv]; exact hm
  obtain ⟨k, w, hk, hw, hgroup, h₁, h₂⟩ := hg
  have hpast : GoesOnPast m [(r, st)] r st := by
    refine ⟨o, ho, .inr ⟨.inl ha, hstop, k, w, fun hin => hk ?_, hw, hgroup, h₁, h₂⟩⟩
    exact congrArg StepRef.idx (List.mem_singleton.mp hin)
  have hcourse : v.course r.island (st.stopOnError && isError st.kind e) = v :=
    State.course_goesOn (u := endedWaitingStep e cause st) hst (List.mem_singleton_self _) hpast rfl (by rw [← hv])
  have htake : State.takeEnd { refusedAt r st e cause m with ends := [] } (endReport r st e (waitingFigures st) cause) = v := by
    rw [State.takeEnd_eq (st := st) (by exact hst), ← hcourse, ← hv, hm]
    have hports : raised { refusedAt r st e cause m with ends := [] } [noticeAt .stepEnded r.island]
        = raised (refusedAt r st e cause m) [noticeAt .stepEnded r.island] := raised_congr _ rfl rfl
    rw [← hports]
    rfl
  have hdrain : (refusedAt r st e cause m).drain = v := by
    refine State.drain_one ?_ htake hends
    rw [refusedAt, hm]
    rfl
  have hsame : (refusedAt r st e cause m).settleAll = v.settleAll := by
    rw [State.settleAll, hdrain, State.settleAll, State.drain_of_nil hends]
  rw [hsame, State.settleAll_eq hends, ← hv]

end

/-- Settles O40: the coupled hose's step claims as `claimAct` has it, and a refused claim ends it (`refusedAt_ends`). -/
theorem couplingClaimsTheStock : Obligations.CouplingClaimsTheStock := by
  intro h s
  refine ⟨fun hr => ?_, fun hr hc => ?_, fun hS hc hn => ?_, ?_⟩
  · rw [exec, execHoseCoupled]
    exact congrArg _ (if_neg (by rw [Bool.not_eq_true]; exact hr))
  · rw [exec_hoseCoupled hr, if_pos hc]
    rfl
  · have hx := exec_hoseCoupled (h := h) hS.1
    rw [if_neg (by simp [hc]), couple_idle hn] at hx
    exact exec_gives hS hx rfl rfl
  · intro r st amount limit hS hc hs hw hsus h0 hacc hwants h1 hp hn
    have hx := exec_hoseCoupled (h := h) hS.1
    rw [if_neg (by simp [hc]), couple_claims hs hw hsus h0 hacc hwants h1 hp hn] at hx
    obtain ⟨-, hst, rfl⟩ := hs
    refine ⟨_, hx, State.follow_settleAll_of_shut (claimAct_shut _ h1), ?_⟩
    refine claimTaken_of (m := hoseCoupled s st.hose) h0 hwants h1 (fun q l he => ?_) fun e cause he o ho hgo => ?_
    · rw [he]
      exact State.settleAll_eq (u := grantedAt r st q l (hoseCoupled s st.hose)) hS.2
    · obtain ⟨ha, hg, hstop⟩ := hgo
      rw [he]
      exact refusedAt_ends (m := hoseCoupled s st.hose) hst hS.2 ho ha hg hstop e cause

end Sys2Proof.Machine
end

section
/-! FAMILY. The configuration of a hose (R55). -/

namespace Sys2Proof.Machine

open Sys2Proof.Safety

section
variable {f : HoseSetFields} {h : HoseNo} {c : HoseCfg}

theorem unitOf_eq_some {n k : Nat} {i : Fin n} : unitOf n k = some i ↔ k = i.val := by
  constructor
  · intro h
    unfold unitOf at h
    split at h
    · cases h; rfl
    · cases h
  · rintro rfl
    exact unitOf_val i

theorem flagOf_eq_some {k : Nat} {b : Bool} : flagOf k = some b ↔ k ≤ 1 ∧ (b = true ↔ k = 1) := by
  unfold flagOf
  split
  · next h => subst h; cases b <;> simp
  · split
    · next h => subst h; cases b <;> simp
    · constructor
      · exact fun h => nomatch h
      · omega

theorem tankFieldOf_eq_some {k : Option Nat} {t : Option TankNo} : tankFieldOf k = some t ↔ t.map (·.val) = k := by
  cases k with
  | none => simp [tankFieldOf, eq_comm]
  | some k =>
    simp only [tankFieldOf, Option.map_eq_some_iff, tankOf, unitOf_eq_some]
    exact exists_congr fun i => ⟨fun ⟨hk, ht⟩ => ⟨ht.symm, hk.symm⟩, fun ⟨ht, hk⟩ => ⟨hk.symm, ht.symm⟩⟩

theorem HoseCfg.inRange_iff : c.inRange = true ↔ (50 ≤ c.factor ∧ c.factor ≤ 500000) ∧ c.slowDown ≤ 1000000
    ∧ (1 ≤ c.stallTime ∧ c.stallTime ≤ 120) ∧ (5 ≤ c.settleTime ∧ c.settleTime ≤ 100)
    ∧ (1 ≤ c.maxPulses ∧ c.maxPulses ≤ 20000) ∧ c.runOnLimit ≤ 50000 ∧ (10 ≤ c.coupleWait ∧ c.coupleWait ≤ 600)
    ∧ (1000 ≤ c.stepLimit ∧ c.stepLimit ≤ 2000000000) ∧ 1 ≤ c.strayThreshold ∧ c.strayThreshold ≤ 255 := by
  simp only [HoseCfg.inRange, within, Bool.and_eq_true, decide_eq_true_iff, and_assoc, Nat.zero_le, true_and]
  rfl

/-- What a HOSE_SET names is a hose below 16 and a configuration that holds its fields, all of them in range (R55). -/
theorem hoseSetOf_holds (he : hoseSetOf f = some (h, c)) : f.hose = h.val ∧ HoseFieldsInRange f ∧ HoseCfgHolds c f := by
  unfold hoseSetOf at he
  split at he
  · next hh hi ht hf =>
    dsimp only at he
    split at he
    · next hr =>
      cases he
      obtain ⟨hf₁, hf₂⟩ := flagOf_eq_some.mp hf
      obtain ⟨h₁, h₂, h₃, h₄, h₅, h₆, h₇, h₈, h₉⟩ := HoseCfg.inRange_iff.mp hr
      have hi := unitOf_eq_some.mp hi
      have ht := tankFieldOf_eq_some.mp ht
      refine ⟨unitOf_eq_some.mp hh, ⟨by omega, fun k hk => ?_, h₁, h₂, h₃, h₄, h₅, h₆, h₇, h₈, h₉, hf₁⟩,
        hi.symm, ht, rfl, rfl, rfl, rfl, rfl, rfl, rfl, rfl, rfl, hf₂⟩
      rw [hk] at ht
      obtain ⟨t, -, rfl⟩ := Option.map_eq_some_iff.mp ht
      omega
    · cases he
  · cases he

/-- A HOSE_SET whose fields are in range names a configuration of its hose (R55). -/
theorem hoseSetOf_inRange (hh : f.hose = h.val) (hr : HoseFieldsInRange f) : ∃ c, hoseSetOf f = some (h, c) := by
  obtain ⟨hi, ht, h₁, h₂, h₃, h₄, h₅, h₆, h₇, h₈, h₉, hf⟩ := hr
  have hhose : hoseOf f.hose = some h := unitOf_eq_some.mpr hh
  have hisland : islandOf f.island = some ⟨f.island, by omega⟩ := unitOf_eq_some.mpr rfl
  have hflag : flagOf f.enabled = some (decide (f.enabled = 1)) := flagOf_eq_some.mpr ⟨hf, decide_eq_true_iff⟩
  obtain ⟨tank, htank⟩ : ∃ t, tankFieldOf f.tank = some t := by
    cases hk : f.tank with
    | none => exact ⟨none, rfl⟩
    | some k =>
      have : k ≤ 9 := ht k hk
      exact ⟨some ⟨k, by omega⟩, tankFieldOf_eq_some.mpr rfl⟩
  unfold hoseSetOf
  rw [hhose, hisland, htank, hflag]
  exact ⟨_, if_pos (HoseCfg.inRange_iff.mpr ⟨h₁, h₂, h₃, h₄, h₅, h₆, h₇, h₈, h₉⟩)⟩

theorem hoseSetOf_outOfRange (hr : 15 < f.hose ∨ ¬ HoseFieldsInRange f) : hoseSetOf f = none := by
  cases he : hoseSetOf f with
  | none => rfl
  | some x =>
    obtain ⟨hh, hin, -⟩ := hoseSetOf_holds (h := x.1) (c := x.2) he
    exact absurd hin (hr.resolve_left (by omega))

end

/-- Settles O10: a HOSE_SET in range names its hose and configuration (`hoseSetOf_holds`, `hoseSetOf_inRange`). -/
theorem hoseSetReplacesConfiguration : Obligations.HoseSetReplacesConfiguration := by
  intro l tag f s hA
  refine ⟨fun hr => ⟨_, rfl, State.serve_only hA tag f hoseSet ?_⟩, fun hr h hh => ?_⟩
  · rw [hoseSet, hoseSetOf_outOfRange hr]
    rfl
  · obtain ⟨c, hc⟩ := hoseSetOf_inRange hh hr
    obtain ⟨-, -, hholds⟩ := hoseSetOf_holds hc
    refine ⟨fun hu => ⟨_, rfl, State.serve_only hA tag f hoseSet ?_⟩,
      fun hu => ⟨_, c, rfl, hholds, State.serve_only hA tag f hoseSet ?_⟩⟩
    · rw [hoseSet, hc]
      exact if_pos ((s.hoseInUse_iff h).mpr hu)
    · rw [hoseSet, hc]
      exact if_neg fun e => hu ((s.hoseInUse_iff h).mp e)

end Sys2Proof.Machine
end

section
/-! FAMILY. The temperature in force and the gauge readings (R61 to R66, R95 to R97, R99, R100). -/

namespace Sys2Proof.Machine

open Sys2Proof.Safety

section
variable {s : State} {h : HoseNo} {r : StepRef} {st : Step} {k : TankNo} {x : Int}

/-! ## A probe reading at a hose (R61, R63) -/

theorem Step.withTemp_eq (st : Step) (src : TempSource) (x : Int) : st.withTemp src x = withTemperature src x st := rfl

/-- What a reading leaves at its hose: a valid one is kept, clamped (R61). -/
def probeKept (s : State) (h : HoseNo) : ProbeReading → State
  | .valid x => s.modHose h fun c => { c with temp := some (clamped x) }
  | .faulty => s

theorem probeKept_orders (s : State) (h : HoseNo) (p : ProbeReading) : (probeKept s h p).orders = s.orders := by
  cases p <;> rfl

theorem probeKept_step (s : State) (h : HoseNo) (p : ProbeReading) :
    ((probeKept s h p).hoses.get h).step = (s.hoses.get h).step := by
  cases p with
  | valid x => simp [probeKept]
  | faulty => rfl

theorem exec_probeReading (hr : s.running = true) (p : ProbeReading) : exec (.probeReading h p) s = .next (s.probe h p) := by
  rw [exec, execProbeReading, State.whileRunning_of hr]

/-- The reading is kept, and the hose then takes it to its step. -/
theorem State.probe_eq (s : State) (h : HoseNo) (p : ProbeReading) : s.probe h p =
    match (probeKept s h p).hoseStep h with
    | some (ref, st) => if st.isStarted then (probeKept s h p).modStep ref fun st => st.probed p else probeKept s h p
    | none => probeKept s h p := rfl

theorem State.probe_idle (hn : (s.hoses.get h).step = none) (p : ProbeReading) : s.probe h p = probeKept s h p := by
  have hidle : (probeKept s h p).hoseStep h = none := State.hoseStep_of_none ((probeKept_step s h p).trans hn)
  rw [State.probe_eq, hidle]

/-- A reading reaches the started step of its hose (R63). -/
theorem State.probe_started (hs : StepOfHose s h r st) (hf : InFlight st) (p : ProbeReading) :
    s.probe h p = { probeKept s h p with orders := putStep s r (st.probed p) } := by
  obtain ⟨hr, hst, -⟩ := hs
  have horders := probeKept_orders s h p
  have hst' : HasStep (probeKept s h p) r st := (HasStep.congr (by rw [horders])).mpr hst
  have hstep := State.hoseStep_eq_some.mpr ⟨(probeKept_step s h p).trans hr, hst'⟩
  rw [State.probe_eq, hstep]
  dsimp only
  rw [if_pos (st.isStarted_iff.mpr hf), State.modStep_eq hst', putStep_congr horders]

end

/-- Settles O39: the reading is kept at the hose (`probeKept`) and reaches its started step (`State.probe_started`). -/
theorem probeReadingsSetTheTemperature : Obligations.ProbeReadingsSetTheTemperature := by
  intro h x s hr
  refine ⟨⟨fun hn => ?_, fun hn => ?_⟩, fun r st hs h₁ h₂ h₃ => ⟨?_, fun hsrc => ?_, fun hsrc => ⟨_, ?_, rfl⟩⟩⟩
  · rw [exec_probeReading hr, State.probe_idle hn]
    rfl
  · rw [exec_probeReading hr, State.probe_idle hn]
    rfl
  · rw [exec_probeReading hr, State.probe_started hs ⟨h₁, h₂, h₃⟩]
    rfl
  · rw [exec_probeReading hr, State.probe_started hs ⟨h₁, h₂, h₃⟩, Step.probed, if_pos hsrc]
    rfl
  · rw [exec_probeReading hr, State.probe_started hs ⟨h₁, h₂, h₃⟩, Step.probed, if_neg hsrc]
    rfl

/-! ## The strapping table (R95, R96) -/

section
variable {p q : StrapPoint} {rest points : List StrapPoint} {level gross : Nat} {range : Bool}

/-- The order of the points of a strapping table (R95). -/
abbrev StrapOrdered (points : List StrapPoint) : Prop :=
  points.Pairwise fun p q => p.level < q.level ∧ p.volume ≤ q.volume

/-- A level above the first two points is gauged by the points from the second on. -/
theorem gauged_cons (hp : p.level ≤ level) (hq : q.level < level) (hg : Gauged (q :: rest) level gross range) :
    Gauged (p :: q :: rest) level gross range := by
  obtain ⟨-, hlast, hpair⟩ := hg
  refine ⟨fun a ha hl => ?_, fun a ha => hlast a (by rwa [List.getLast?_cons_cons] at ha), fun k a b ha hb h₁ h₂ => ?_⟩
  · cases ha
    omega
  · cases k with
    | zero =>
      cases ha
      cases hb
      omega
    | succ k => exact hpair k a b ha hb h₁ h₂

/-- At the upper of two points the interpolation gives that point's volume. -/
theorem interpolated_at_upper (hl : p.level < q.level) (hv : p.volume ≤ q.volume) :
    p.volume + (q.volume - p.volume) * (q.level - p.level) / (q.level - p.level) = q.volume := by
  rw [Nat.mul_div_cancel _ (Nat.sub_pos_of_lt hl), Nat.add_sub_cancel' hv]

/-- A level between the first two points is interpolated between them; at the second, which the next pair starts from, both
pairs give its volume. -/
theorem gauged_between (ho : StrapOrdered (p :: q :: rest)) (hp : p.level ≤ level) (hq : level ≤ q.level) :
    Gauged (p :: q :: rest) level (p.volume + (q.volume - p.volume) * (level - p.level) / (q.level - p.level)) false := by
  obtain ⟨hfirst, hrest⟩ := List.pairwise_cons.mp ho
  obtain ⟨habove, -⟩ := List.pairwise_cons.mp hrest
  obtain ⟨hlt, hvol⟩ := hfirst q List.mem_cons_self
  refine ⟨fun a ha hl => ?_, fun a ha hl => ?_, fun k a b ha hb h₁ h₂ => ?_⟩
  · cases ha
    omega
  · rw [List.getLast?_cons_cons] at ha
    rcases List.mem_cons.mp (List.mem_of_getLast? ha) with rfl | hm
    · omega
    · have := habove a hm
      omega
  · match k, ha, hb with
    | 0, rfl, rfl => exact ⟨rfl, rfl⟩
    | 1, rfl, hb =>
      obtain rfl : level = q.level := by omega
      rw [interpolated_at_upper hlt hvol, Nat.sub_self, Nat.mul_zero, Nat.zero_div]
      exact ⟨rfl, rfl⟩
    | k + 2, ha, hb =>
      have := habove a (List.mem_of_getElem? ha)
      omega

theorem strapAbove_gauged (ho : StrapOrdered (p :: rest)) (hp : p.level ≤ level) :
    Gauged (p :: rest) level (strapAbove p rest level).1 (strapAbove p rest level).2 := by
  induction rest generalizing p with
  | nil =>
    refine ⟨fun a ha hl => ?_, fun a ha hl => ?_, fun k a b ha hb => ?_⟩
    · cases ha
      omega
    · cases ha
      exact ⟨rfl, decide_eq_true hl⟩
    · simp at hb
  | cons q rest ih =>
    rw [strapAbove]
    split
    · next hq => exact gauged_between ho hp hq
    · next hq =>
      have hq : q.level < level := Nat.lt_of_not_le hq
      exact gauged_cons hp hq (ih (List.pairwise_cons.mp ho).2 hq.le)

/-- The model's gauge figure is the one of the strapping table (R96, step 1). -/
theorem strapGross_gauged (hg : GoodStrapping points) :
    Gauged points level (strapGross points level).1 (strapGross points level).2 := by
  obtain ⟨hlen, -, -, ho⟩ := hg
  cases points with
  | nil => simp at hlen
  | cons p rest =>
    rw [strapGross]
    split
    · next hl =>
      -- below the first point no other point is reached
      have hall (a : StrapPoint) (ha : a ∈ p :: rest) : level < a.level := by
        rcases List.mem_cons.mp ha with rfl | hm
        · exact hl
        · have := (List.pairwise_cons.mp ho).1 a hm
          omega
      refine ⟨fun a ha _ => ?_, fun a ha ha' => ?_, fun k a b ha hb h₁ h₂ => ?_⟩
      · cases ha
        exact ⟨rfl, rfl⟩
      · have := hall a (List.mem_of_getLast? ha)
        omega
      · have := hall a (List.mem_of_getElem? ha)
        omega
    · next hl => exact strapAbove_gauged ho (Nat.le_of_not_lt hl)

end

/-! ## The steps take the gauge's temperature (R64) -/

section
variable {s : State} {h : HoseNo} {r : StepRef} {st : Step} {k : TankNo} {x : Int}

/-- A step after a valid gauge reading of a tank (R64). -/
def gaugedStep (k : TankNo) (x : Int) (st : Step) : Step :=
  if InFlight st ∧ st.ctx.tank = k ∧ (st.tempSource = .gauge ∨ st.tempSource = .standard) then withTemperature .gauge x st
  else st

theorem gaugedStep_of_ne (hk : st.ctx.tank ≠ k) : gaugedStep k x st = st := if_neg fun e => hk e.2.1

theorem gaugedStep_gaugedStep (k : TankNo) (x : Int) (st : Step) : gaugedStep k x (gaugedStep k x st) = gaugedStep k x st := by
  by_cases hc : InFlight st ∧ st.ctx.tank = k ∧ (st.tempSource = .gauge ∨ st.tempSource = .standard)
  · have ⟨hf, hk, _⟩ := hc
    have hd : InFlight (withTemperature .gauge x st) ∧ (withTemperature .gauge x st).ctx.tank = k
        ∧ ((withTemperature .gauge x st).tempSource = .gauge ∨ (withTemperature .gauge x st).tempSource = .standard) :=
      ⟨hf, hk, .inl rfl⟩
    rw [gaugedStep, gaugedStep, if_pos hc, if_pos hd]
    rfl
  · have hsame : gaugedStep k x st = st := if_neg hc
    rw [hsame, hsame]

theorem State.gaugeTempAt_idle (hn : s.hoseStep h = none) : State.gaugeTempAt k x s h = s := by
  rw [State.gaugeTempAt, hn]

/-- At a hose with a step, the gauge's temperature changes that step alone. -/
theorem State.gaugeTempAt_eq (hs : s.hoseStep h = some (r, st)) :
    State.gaugeTempAt k x s h = { s with orders := putStep s r (gaugedStep k x st) } := by
  obtain ⟨-, hst⟩ := State.hoseStep_eq_some.mp hs
  have hcond : (st.isStarted && decide (st.ctx.tank = k) && decide (st.tempSource = .gauge ∨ st.tempSource = .standard)) = true
      ↔ InFlight st ∧ st.ctx.tank = k ∧ (st.tempSource = .gauge ∨ st.tempSource = .standard) := by
    simp only [Bool.and_eq_true, decide_eq_true_iff, Step.isStarted_iff, and_assoc]
  rw [State.gaugeTempAt, hs, gaugedStep]
  dsimp only
  rw [if_congr hcond rfl rfl]
  split
  · rw [State.modStep_eq hst, Step.withTemp_eq]
  · rw [putStep_self hst]

/-- The orders after a gauge's temperature at some hoses: each step that one of them refers to has taken it. -/
def gaugedOrders (s : State) (k : TankNo) (x : Int) (l : List HoseNo) : Table (Option Order) 4 :=
  mapSteps s fun q st => if touchedBy s l q then gaugedStep k x st else st

/-- One more hose takes the gauge's temperature. -/
theorem gaugedOrders_append {t : State} {l : List HoseNo} {a : HoseNo} (ht : t = { s with orders := gaugedOrders s k x l }) :
    State.gaugeTempAt k x t a = { s with orders := gaugedOrders s k x (l ++ [a]) } := by
  have horders : t.orders = gaugedOrders s k x l := by rw [ht]
  have hhoses : t.hoses = s.hoses := by rw [ht]
  cases ha : t.hoseStep a with
  | none =>
    have hno (q : StepRef) (w : Step) (hw : HasStep s q w) : (s.hoses.get a).step ≠ some q := fun hq => by
      have hw' : HasStep t q _ := (hasStep_mapSteps horders).mpr ⟨w, hw, rfl⟩
      rw [State.hoseStep_eq_some.mpr ⟨by rw [hhoses]; exact hq, hw'⟩] at ha
      cases ha
    have hsame : gaugedOrders s k x (l ++ [a]) = gaugedOrders s k x l := mapSteps_congr fun q w hw => by
      rw [touchedBy_append, decide_eq_false (hno q w hw), Bool.or_false]
    rw [State.gaugeTempAt_idle ha, hsame, ht]
  | some p =>
    obtain ⟨q, v⟩ := p
    obtain ⟨hq, hv⟩ := State.hoseStep_eq_some.mp ha
    obtain ⟨w, hw, rfl⟩ := (hasStep_mapSteps horders).mp hv
    rw [hhoses] at hq
    rw [State.gaugeTempAt_eq ha, putStep_mapSteps horders, ht]
    congr 1
    refine mapSteps_congr fun p u hu => ?_
    rw [touchedBy_append, hq]
    by_cases hp : p = q
    · subst hp
      cases HasStep.unique hu hw
      cases touchedBy s l p <;> simp [gaugedStep_gaugedStep]
    · have hne : q ≠ p := fun e => hp e.symm
      simp [hp, hne]

theorem State.gaugeTemp_eq (s : State) (k : TankNo) (x : Int) :
    s.gaugeTemp k x = { s with orders := gaugedOrders s k x allHoses } := by
  have hnil : gaugedOrders s k x [] = s.orders := mapSteps_self fun _ _ _ => rfl
  exact foldl_taken (State.gaugeTempAt k x) (fun l t => t = { s with orders := gaugedOrders s k x l }) (by rw [hnil])
    (fun _ _ _ ht => gaugedOrders_append ht) allHoses

/-- Where no hose's step draws on the tank, no step changes. -/
theorem gaugedOrders_elsewhere (hno : ∀ h r st, (s.hoses.get h).step = some r → HasStep s r st → st.ctx.tank ≠ k)
    (l : List HoseNo) : gaugedOrders s k x l = s.orders := by
  refine mapSteps_self fun q st hst => ?_
  split
  · next ht =>
    obtain ⟨h, -, hq⟩ := touchedBy_iff.mp ht
    exact gaugedStep_of_ne (hno h q st hq hst)
  · rfl

/-- Where every started step that draws on the tank is its hose's, all of them take the temperature. -/
theorem gaugedOrders_get (hat : ∀ r st, HasStep s r st → InFlight st → st.ctx.tank = k → StepOfHose s st.hose r st)
    (i : IslandNo) : (gaugedOrders s k x allHoses).get i
      = (s.orders.get i).map fun o => { o with steps := o.steps.map (gaugedStep k x) } := by
  have hall : gaugedOrders s k x allHoses = mapSteps s fun _ => gaugedStep k x := by
    refine mapSteps_congr fun q st hst => ?_
    by_cases hf : InFlight st ∧ st.ctx.tank = k
    · obtain ⟨hq, -, -⟩ := hat q st hst hf.1 hf.2
      exact if_pos (touchedBy_iff.mpr ⟨st.hose, mem_allHoses _, hq⟩)
    · have hsame : gaugedStep k x st = st := if_neg fun e => hf ⟨e.1, e.2.1⟩
      rw [hsame, ite_self]
  rw [hall, mapSteps_get]
  congr 1
  funext o
  congr 1
  exact List.ext_getElem? fun n => by simp

end

/-! ## The leak watch takes a reading (R100) -/

section
variable {threshold net : Nat} {y : Tank}

/-- A QUIET watch whose baseline the net has fallen below by more than the threshold (R100). -/
abbrev LeakFound (threshold net : Nat) (y : Tank) : Prop :=
  y.leak = .quiet ∧ ∃ b, y.baseline = some b ∧ threshold < b - net

theorem Tank.leakReading_leak (hl : LeakFound threshold net y) (quiet : Nat) :
    y.leakReading threshold quiet net = (y.leakWaiting quiet, true) := by
  obtain ⟨hq, b, hb, hlt⟩ := hl
  rw [Tank.leakReading, if_pos hq, hb]
  exact if_pos hlt

theorem Tank.leakReading_rests (hl : ¬ LeakFound threshold net y) (quiet : Nat) : y.leakReading threshold quiet net
    = ({ y with baseline := if y.leak = .quiet ∧ y.baseline = none then some net else y.baseline }, false) := by
  by_cases hq : y.leak = .quiet
  · rw [Tank.leakReading, if_pos hq]
    cases hb : y.baseline with
    | none => simp [hq]
    | some b =>
      have hle : ¬ threshold < b - net := fun hlt => hl ⟨hq, b, hb, hlt⟩
      simp only [hle, if_false, reduceCtorEq, and_false]
      rw [← hb]
  · simp [Tank.leakReading, hq]

end

/-! ## A valid gauge reading (R96) -/

section
variable {s : State} {k : TankNo} {level : Nat} {x : Int}

/-- The gauge state that a valid reading at a tank leaves (R96). -/
abbrev State.gaugeRead (s : State) (k : TankNo) (level : Nat) (x : Int) : Gauge :=
  gaugeReading (s.cfg.straps.get k) (s.betaOf k) level x

/-- A tank with a valid reading taken, before the leak watch acts on it (R96, R97). -/
def gaugeTaken (s : State) (k : TankNo) (level : Nat) (x : Int) (y : Tank) : Tank :=
  { y with gauge := s.gaugeRead k level x, staleTimer := some ((s.cfg.tanks.get k).staleTime * 10) }

theorem State.gaugeValid_unstrapped (hn : s.cfg.straps.get k = []) : s.gaugeValid k level x = s := by
  rw [State.gaugeValid, State.isStrapped_eq]
  simp [hn]

/-- What a valid reading leaves at a strapped tank, by the leak watch's answer. -/
theorem State.gaugeValid_strapped (hn : s.cfg.straps.get k ≠ []) {w : Tank} {found : Bool}
    (hw : (gaugeTaken s k level x (s.tanks.get k)).leakReading (s.cfg.tanks.get k).leakThreshold (s.cfg.tanks.get k).quietTime
      (s.gaugeRead k level x).net = (w, found)) :
    s.gaugeValid k level x = { s with
      orders := gaugedOrders s k x allHoses, tanks := s.tanks.modify k fun _ => w
      reports := if found then s.reports ++ [.leak k] else s.reports } := by
  have htemp : (s.modTank k (gaugeTaken s k level x)).gaugeTemp k x
      = { s with orders := gaugedOrders s k x allHoses, tanks := s.tanks.modify k (gaugeTaken s k level x) } :=
    State.gaugeTemp_eq _ k x
  have htank : (s.tanks.modify k (gaugeTaken s k level x)).get k = gaugeTaken s k level x (s.tanks.get k) :=
    Table.modify_self ..
  have hmod : (s.tanks.modify k (gaugeTaken s k level x)).modify k (fun _ => w) = s.tanks.modify k fun _ => w :=
    Table.modify_modify ..
  have hstrapped : s.isStrapped k = true := by rw [State.isStrapped_eq, decide_eq_true hn]
  have hvalid : s.gaugeValid k level x =
      let u := (s.modTank k (gaugeTaken s k level x)).gaugeTemp k x
      let r := (u.tanks.get k).leakReading (s.cfg.tanks.get k).leakThreshold (s.cfg.tanks.get k).quietTime
        (s.gaugeRead k level x).net
      if r.2 then (u.modTank k fun _ => r.1).report (.leak k) else u.modTank k fun _ => r.1 := if_pos hstrapped
  rw [hvalid, htemp]
  dsimp only
  rw [htank, hw]
  cases found with
  | false => simp only [State.modTank, hmod, Bool.false_eq_true, if_false]
  | true => simp only [State.modTank, State.report, hmod, if_true]

theorem exec_gaugeReadingValid (hr : s.running = true) :
    exec (.gaugeReadingValid k level x) s = .next (s.gaugeValid k level x) := by
  rw [exec, execGaugeReadingValid, State.whileRunning_of hr]

end

/-- Settles O47: the level through the table (`strapGross_gauged`), the watch (`Tank.leakReading_leak`,
`Tank.leakReading_rests`) and the steps (`gaugedOrders_elsewhere`, `gaugedOrders_get`). -/
theorem validGaugeReadings : Obligations.ValidGaugeReadings := by
  intro k level x s hr
  refine ⟨fun hn => ?_, fun hg => ?_⟩
  · rw [exec_gaugeReadingValid hr, State.gaugeValid_unstrapped hn]
  · have hn : s.cfg.straps.get k ≠ [] := fun e => by simp [e, GoodStrapping] at hg
    obtain ⟨w, found, hw⟩ : ∃ w found, (gaugeTaken s k level x (s.tanks.get k)).leakReading (s.cfg.tanks.get k).leakThreshold
        (s.cfg.tanks.get k).quietTime (s.gaugeRead k level x).net = (w, found) := ⟨_, _, rfl⟩
    have hx := exec_gaugeReadingValid (k := k) (level := level) (x := x) hr
    rw [State.gaugeValid_strapped hn hw] at hx
    refine ⟨_, _, _, hx, strapGross_gauged hg, rfl, fun hl => ?_, fun hl => ?_, fun hno => gaugedOrders_elsewhere hno _,
      fun hat => gaugedOrders_get hat⟩
    · cases (Tank.leakReading_leak (y := gaugeTaken s k level x (s.tanks.get k)) hl _).symm.trans hw
      exact ⟨rfl, rfl⟩
    · cases (Tank.leakReading_rests (y := gaugeTaken s k level x (s.tanks.get k)) hl _).symm.trans hw
      exact ⟨rfl, rfl⟩

end Sys2Proof.Machine
end

section
/-! FAMILY. The small configuration requests: islands, causes and account limits (R82, R115, R149, R152). -/

namespace Sys2Proof.Machine

open Sys2Proof.Safety

section
variable {f : IslandSetFields} {i : IslandNo} {c : IslandCfg}

theorem IslandCfg.inRange_iff : c.inRange = true ↔ (5 ≤ c.arrival ∧ c.arrival ≤ 100) ∧ 5 ≤ c.leaving ∧ c.leaving ≤ 100 := by
  simp only [IslandCfg.inRange, within, Bool.and_eq_true, decide_eq_true_iff]

/-- What an ISLAND_SET names is an island below 4 and the configuration of its fields, all of them in range (R82). -/
theorem islandSetOf_holds (he : islandSetOf f = some (i, c)) :
    f.island = i.val ∧ f.enabled ≤ 1 ∧ (5 ≤ f.arrival ∧ f.arrival ≤ 100) ∧ 5 ≤ f.leaving ∧ f.leaving ≤ 100 := by
  unfold islandSetOf at he
  split at he
  · next hi hf =>
    dsimp only at he
    split at he
    · next hr =>
      cases he
      exact ⟨unitOf_eq_some.mp hi, (flagOf_eq_some.mp hf).1, IslandCfg.inRange_iff.mp hr⟩
    · cases he
  · cases he

/-- An ISLAND_SET whose fields are in range names their configuration (R82). -/
theorem islandSetOf_inRange (hi : f.island = i.val) (he : f.enabled ≤ 1) (ha : 5 ≤ f.arrival ∧ f.arrival ≤ 100)
    (hl : 5 ≤ f.leaving ∧ f.leaving ≤ 100) :
    islandSetOf f = some (i, { enabled := decide (f.enabled = 1), arrival := f.arrival, leaving := f.leaving }) := by
  have hisland : islandOf f.island = some i := unitOf_eq_some.mpr hi
  have hflag : flagOf f.enabled = some (decide (f.enabled = 1)) := flagOf_eq_some.mpr ⟨he, decide_eq_true_iff⟩
  rw [islandSetOf, hisland, hflag]
  exact if_pos (IslandCfg.inRange_iff.mpr ⟨ha, hl⟩)

theorem islandSetOf_outOfRange (hr : 3 < f.island ∨ 1 < f.enabled ∨ f.arrival < 5 ∨ 100 < f.arrival ∨ f.leaving < 5
    ∨ 100 < f.leaving) : islandSetOf f = none := by
  cases he : islandSetOf f with
  | none => rfl
  | some x =>
    have := islandSetOf_holds (i := x.1) (c := x.2) he
    omega

end

/-- The fixed causes take TRIP only, and OVERFILL takes no OFF (R149). -/
theorem actionAllowed_iff (c : Cause) (a : CauseAction) : actionAllowed c a = true
    ↔ (c ∉ [Cause.bayStop, .storeLost, .linkTrip] ∨ a = .trip) ∧ (c ≠ .overfill ∨ a ≠ .off) := by
  cases c <;> simp [actionAllowed]

theorem limitsOk_iff (jump span : Nat) :
    limitsOk jump span = true ↔ (1 ≤ jump ∧ jump ≤ 100000) ∧ 1 ≤ span ∧ span ≤ 10000 := by
  simp only [limitsOk, within, Bool.and_eq_true, decide_eq_true_iff]

/-- Settles O11: each request is refused or taken as its ranges say (`islandSetOf_inRange`, `actionAllowed_iff`,
`limitsOk_iff`). -/
theorem smallConfigurationRequests : Obligations.SmallConfigurationRequests := by
  intro l tag s
  refine ⟨fun f hA => ⟨fun hr => ⟨_, rfl, State.serve_only hA tag f islandSetRequest ?_⟩, fun i hi he ha ha' hl hl' => ?_⟩,
    fun f hA => ⟨fun hr => ⟨_, rfl, State.serve_only hA tag f causeSet ?_⟩,
      fun hfixed hover => ⟨_, rfl, State.serve_only hA tag f causeSet ?_⟩⟩,
    fun f hA => ⟨fun hr => ⟨_, rfl, State.serve_only hA tag f accountLimitsSet ?_⟩,
      fun hj hj' hm hm' => ⟨_, rfl, State.serve_only hA tag f accountLimitsSet ?_⟩⟩⟩
  · rw [islandSetRequest, islandSetOf_outOfRange hr]
    rfl
  · have hnamed := islandSetOf_inRange hi he ⟨ha, ha'⟩ ⟨hl, hl'⟩
    refine ⟨fun ho => ⟨_, rfl, State.serve_only hA tag f islandSetRequest ?_⟩,
      fun ho => ⟨_, rfl, State.serve_only hA tag f islandSetRequest ?_⟩⟩
    · rw [islandSetRequest, hnamed]
      exact if_pos (Option.isSome_iff_ne_none.mpr ho)
    · rw [islandSetRequest, hnamed]
      exact if_neg fun e => Option.isSome_iff_ne_none.mp e ho
  · refine if_neg fun e => ?_
    obtain ⟨hfixed, hover⟩ := (actionAllowed_iff f.cause f.action).mp e
    rcases hr with ⟨hc, ha⟩ | ⟨hc, ha⟩
    · exact hfixed.elim (· hc) ha
    · exact hover.elim (· hc) (· ha)
  · exact if_pos ((actionAllowed_iff f.cause f.action).mpr ⟨hfixed, hover⟩)
  · refine if_neg fun e => ?_
    have := (limitsOk_iff f.jumpLimit f.minSpan).mp e
    omega
  · exact if_pos ((limitsOk_iff f.jumpLimit f.minSpan).mpr ⟨⟨hj, hj'⟩, hm, hm'⟩)

end Sys2Proof.Machine
end

section
/-! FAMILY. The inputs of the field: sump floats, overfill probes, faulty gauge readings and the tanks' timers (R81, R97 to
R99). -/

namespace Sys2Proof.Machine

open Sys2Proof.Safety

/-! ## The sump float and the overfill probe (R81, R98) -/

/-- The float input while the part runs: a level already held changes the pin only (R81). -/
theorem exec_sumpFloatChange {s : State} (hr : s.running = true) (i : IslandNo) (level : Bool) :
    exec (.sumpFloatChange i level) s =
    .next (if (s.islands.get i).float = level then { s with pins := { s.pins with floats := s.pins.floats.put i level } }
      else State.floatLevel { s with pins := { s.pins with floats := s.pins.floats.put i level } } i level) := by
  rw [exec, execSumpFloatChange, State.whileRunning_of (by exact hr)]
  rfl

/-- The probe input while the part runs: a level already held changes the pin only (R98). -/
theorem exec_overfillProbeChange {s : State} (hr : s.running = true) (k : TankNo) (level : Bool) :
    exec (.overfillProbeChange k level) s =
    .next (if (s.tanks.get k).probe = level then { s with pins := { s.pins with probes := s.pins.probes.put k level } }
      else State.probeLevel { s with pins := { s.pins with probes := s.pins.probes.put k level } } k level) := by
  rw [exec, execOverfillProbeChange, State.whileRunning_of (by exact hr)]
  rfl

/-- A float's new level is kept, and an assertion is reported (R81). -/
theorem State.floatLevel_eq (s : State) (i : IslandNo) (level : Bool) : s.floatLevel i level =
    { s with
      islands := s.islands.modify i fun k => { k with float := level }
      reports := s.reports ++ if level then [.sumpHigh i] else [] } := by
  cases level with
  | true => rfl
  | false =>
    simp only [Bool.false_eq_true, if_false, List.append_nil]
    rfl

/-- A probe's new level is kept, and an assertion is reported (R98). -/
theorem State.probeLevel_eq (s : State) (k : TankNo) (level : Bool) : s.probeLevel k level =
    { s with
      tanks := s.tanks.modify k fun x => { x with probe := level }
      reports := s.reports ++ if level then [.overfill k] else [] } := by
  cases level with
  | true => rfl
  | false =>
    simp only [Bool.false_eq_true, if_false, List.append_nil]
    rfl

/-! ## The gauge's faults and the leak watch's quiet timer (R97, R99) -/

section
variable {s : State} {k : TankNo}

theorem exec_gaugeReadingFaulty (hr : s.running = true) : exec (.gaugeReadingFaulty k) s = .next (s.gaugeFaulty k) := by
  rw [exec, execGaugeReadingFaulty, State.whileRunning_of hr]

theorem exec_gaugeStaleExpiry (hr : s.running = true) : exec (.gaugeStaleExpiry k) s = .next (s.gaugeStale k) := by
  rw [exec, execGaugeStaleExpiry, State.whileRunning_of hr]

theorem exec_leakQuietExpiry (hr : s.running = true) : exec (.leakQuietExpiry k) s = .next (s.leakQuiet k) := by
  rw [exec, execLeakQuietExpiry, State.whileRunning_of hr]

/-- A gauge fault after a change of the tank that leaves the fault condition: the reading is no longer valid, and the fault is
reported unless the condition is set already (R97). -/
theorem State.gaugeFault_modTank {f : Tank → Tank}
    (hf : (f (s.tanks.get k)).gauge.faultCondition = (s.tanks.get k).gauge.faultCondition) :
    (s.modTank k f).gaugeFault k = { s with
      tanks := s.tanks.modify k fun y => { f y with gauge := { (f y).gauge with valid := false, faultCondition := true } }
      reports := s.reports ++ if (s.tanks.get k).gauge.faultCondition then [] else [.gaugeFault k] } := by
  rw [State.gaugeFault, State.modTank_tanks, Table.modify_self, hf, State.modTank, State.modTank, Table.modify_modify]
  cases (s.tanks.get k).gauge.faultCondition with
  | true => simp only [if_true, List.append_nil]
  | false => rfl

/-- A faulty reading counts at a strapped tank, and the third in a row is a gauge fault (R97). -/
theorem State.gaugeFaulty_eq (s : State) (k : TankNo) : s.gaugeFaulty k =
    if s.cfg.straps.get k = [] then s
    else
      let n := min 255 ((s.tanks.get k).gauge.faults + 1)
      let u := s.modTank k fun y => { y with gauge := { y.gauge with faults := n } }
      if n = 3 then u.gaugeFault k else u := by
  rw [State.gaugeFaulty, State.isStrapped_eq]
  by_cases hn : s.cfg.straps.get k = []
  · rw [if_pos hn, if_neg (by simp [hn])]
  · rw [if_neg hn, if_pos (decide_eq_true hn)]
    rfl

theorem State.gaugeStale_stopped (hn : (s.tanks.get k).staleTimer = none) : s.gaugeStale k = s :=
  if_neg (by simp [hn])

theorem State.gaugeStale_running (ht : (s.tanks.get k).staleTimer ≠ none) :
    s.gaugeStale k = (s.modTank k fun y => { y with staleTimer := none }).gaugeFault k :=
  if_pos (Option.isSome_iff_ne_none.mpr ht)

end

/-- Settles O46: a new level by `State.floatLevel_eq` and `State.probeLevel_eq`, a gauge fault by `State.gaugeFault_modTank`. -/
theorem fieldInputsReport : Obligations.FieldInputsReport := by
  refine ⟨fun s level hr => ⟨fun i => ⟨fun h => ?_, fun h => ?_⟩, fun k => ⟨fun h => ?_, fun h => ?_⟩⟩, fun k s hr => ?_⟩
  · rw [exec_sumpFloatChange hr, if_pos h]
  · rw [exec_sumpFloatChange hr, if_neg h, State.floatLevel_eq]
  · rw [exec_overfillProbeChange hr, if_pos h]
  · rw [exec_overfillProbeChange hr, if_neg h, State.probeLevel_eq]
  · intro g n reported
    refine ⟨fun hn => ?_, fun hn hc => ?_, fun hn hc => ?_, fun ht => ?_, fun ht => ?_, fun hl ht => ?_, fun h => ?_⟩
    · rw [exec_gaugeReadingFaulty hr, State.gaugeFaulty_eq, if_pos hn]
    · rw [exec_gaugeReadingFaulty hr, State.gaugeFaulty_eq, if_neg hn]
      exact congrArg _ (if_neg hc)
    · rw [exec_gaugeReadingFaulty hr, State.gaugeFaulty_eq, if_neg hn]
      exact congrArg _ ((if_pos hc).trans (State.gaugeFault_modTank rfl))
    · rw [exec_gaugeStaleExpiry hr, State.gaugeStale_stopped ht]
    · rw [exec_gaugeStaleExpiry hr, State.gaugeStale_running ht, State.gaugeFault_modTank rfl]
    · rw [exec_leakQuietExpiry hr, State.leakQuiet, if_pos ⟨hl, Option.isSome_iff_ne_none.mpr ht⟩]
      rfl
    · have hidle : ¬ ((s.tanks.get k).leak = .waiting ∧ (s.tanks.get k).quietTimer.isSome) := fun ⟨hl, ht⟩ =>
        h.elim (· hl) (Option.isSome_iff_ne_none.mp ht)
      rw [exec_leakQuietExpiry hr, State.leakQuiet, if_neg hidle]

end Sys2Proof.Machine
end

section
/-! FAMILY. The configuration of tanks, fluids and strapping tables (R85, R86, R95, R99, R107). -/

namespace Sys2Proof.Machine

open Sys2Proof.Safety

/-! ## TANK_SET (R85, R93, R107) -/

section
variable {f : TankSetFields} {k : TankNo} {c : TankCfg} {st : TankState}

theorem TankCfg.inRange_iff : c.inRange = true ↔ c.capacity ≤ 2000000000 ∧ c.lowLimit ≤ c.highLimit
    ∧ c.highLimit ≤ c.capacity ∧ c.reorder ≤ 2000000000 ∧ c.minStart ≤ 100000 ∧ c.tolerance ≤ 10000000
    ∧ (1000 ≤ c.leakThreshold ∧ c.leakThreshold ≤ 10000000) ∧ (10 ≤ c.quietTime ∧ c.quietTime ≤ 240)
    ∧ 10 ≤ c.staleTime ∧ c.staleTime ≤ 600 := by
  simp only [TankCfg.inRange, within, Bool.and_eq_true, decide_eq_true_iff, and_assoc, Nat.zero_le, true_and]
  rfl

/-- What a TANK_SET names is a tank below 10, a configuration that holds its fields, all of them in range, and its state
(R107). -/
theorem tankSetOf_holds (he : tankSetOf f = some (k, c, st)) :
    f.tank = k.val ∧ TankFieldsInRange f ∧ TankCfgHolds c f ∧ st = f.state := by
  unfold tankSetOf at he
  split at he
  · next hk hf =>
    dsimp only at he
    split at he
    · next hr =>
      cases he
      obtain ⟨hr, hst⟩ := Bool.and_eq_true_iff.mp hr
      obtain ⟨h₁, h₂, h₃, h₄, h₅, h₆, h₇, h₈, h₉⟩ := TankCfg.inRange_iff.mp hr
      have hf := unitOf_eq_some.mp hf
      exact ⟨unitOf_eq_some.mp hk, ⟨by omega, h₁, h₂, h₃, h₄, h₅, h₆, h₇, h₈, h₉, of_decide_eq_true hst⟩,
        ⟨rfl, hf.symm, rfl, rfl, rfl, rfl, rfl, rfl, rfl, rfl, rfl⟩, rfl⟩
    · cases he
  · cases he

/-- A TANK_SET whose fields are in range names a configuration of its tank, and its state (R107). -/
theorem tankSetOf_inRange (hk : f.tank = k.val) (hr : TankFieldsInRange f) : ∃ c, tankSetOf f = some (k, c, f.state) := by
  obtain ⟨hf, h₁, h₂, h₃, h₄, h₅, h₆, h₇, h₈, h₉, hst⟩ := hr
  have htank : tankOf f.tank = some k := unitOf_eq_some.mpr hk
  have hfluid : fluidOf f.fluid = some ⟨f.fluid, by omega⟩ := unitOf_eq_some.mpr rfl
  unfold tankSetOf
  rw [htank, hfluid]
  exact ⟨_, if_pos (Bool.and_eq_true_iff.mpr
    ⟨TankCfg.inRange_iff.mpr ⟨h₁, h₂, h₃, h₄, h₅, h₆, h₇, h₈, h₉⟩, decide_eq_true hst⟩)⟩

theorem tankSetOf_outOfRange (hr : 9 < f.tank ∨ ¬ TankFieldsInRange f) : tankSetOf f = none := by
  cases he : tankSetOf f with
  | none => rfl
  | some x =>
    obtain ⟨hk, hin, -⟩ := tankSetOf_holds (k := x.1) (c := x.2.1) (st := x.2.2) he
    exact absurd hin (hr.resolve_left (by omega))

end

section
variable {s : State} {k : TankNo} {c : TankCfg} {f : TankSetFields}

/-- A leak watch's restart and a new state leave what the tank holds and has promised (R87, R99). -/
theorem stockQuantity_restarted (c : TankCfg) (quiet : Nat) (st : TankState) (x : Tank) :
    stockQuantity c (watchRestarted quiet { x with state := st }) = stockQuantity c x := by
  unfold watchRestarted
  cases x.leak <;> rfl

/-- The TANK_LOW test of a TANK_SET that keeps the role (R93; log entry 20). -/
theorem State.tankSetLow_eq (s : State) (old new : TankCfg) (x : Tank) : s.tankSetLow old new x =
    if old.reorder ≤ stockQuantity old x ∧ stockQuantity new x < new.reorder ∧ stockQuantity new x ≤ stockQuantity old x then
      s.raiseKind .tankLow
    else s := by
  refine if_congr ?_ rfl rfl
  simp only [isLow, Bool.and_eq_true, Bool.not_eq_true', Bool.or_eq_false_iff, decide_eq_false_iff_not, decide_eq_true_iff,
    Nat.not_lt]
  exact and_right_comm.trans and_assoc

/-- The state with a tank's new configuration and state taken, before the TANK_LOW test (R107). -/
def tankConfigured (s : State) (k : TankNo) (c : TankCfg) (st : TankState) : State :=
  { (withConfig s { s.cfg with tanks := s.cfg.tanks.put k c }) with
    tanks := s.tanks.modify k fun x => watchRestarted c.quietTime { x with state := st } }

theorem tankSet_inUse {st : TankState} (hc : tankSetOf f = some (k, c, st)) (hu : TankInUse s k) :
    tankSet f s = (refuse .inUse, s) := by
  rw [tankSet, hc]
  exact if_pos ((s.tankInUse_iff k).mpr hu)

theorem tankSet_taken {st : TankState} (hc : tankSetOf f = some (k, c, st)) (hu : ¬ TankInUse s k) :
    tankSet f s = (accepted,
      let old := s.cfg.tanks.get k
      let x := s.tanks.get k
      if old.role = c.role ∧ old.reorder ≤ stockQuantity old x ∧ stockQuantity c x < c.reorder
          ∧ stockQuantity c x ≤ stockQuantity old x then
        (tankConfigured s k c st).raiseKind .tankLow
      else tankConfigured s k c st) := by
  have hconfigured : ((s.configure fun g => { g with tanks := g.tanks.put k c }).modTank k fun x =>
      Tank.leakRestart c.quietTime { x with state := st }) = tankConfigured s k c st :=
    congrArg (fun g => State.modTank _ k g) (funext fun x => Tank.leakRestart_eq _ _)
  have hx : (tankConfigured s k c st).tanks.get k = watchRestarted c.quietTime { s.tanks.get k with state := st } :=
    Table.modify_self ..
  rw [tankSet, hc]
  refine (if_neg fun e => hu ((s.tankInUse_iff k).mp e)).trans (congrArg (Prod.mk accepted) ?_)
  dsimp only
  rw [hconfigured, State.tankSetLow_eq, hx, stockQuantity_restarted, stockQuantity_restarted]
  exact (ite_and ..).symm

end

/-- Settles O12: a TANK_SET in range names its tank, configuration and state (`tankSetOf_inRange`, `tankSetOf_holds`), and
`tankSet_taken` says what is then done. -/
theorem tankSetReplacesConfiguration : Obligations.TankSetReplacesConfiguration := by
  intro l tag f s hA
  refine ⟨fun hr => ⟨_, rfl, State.serve_only hA tag f tankSet ?_⟩, fun hr k hk => ?_⟩
  · rw [tankSet, tankSetOf_outOfRange hr]
    rfl
  · obtain ⟨c, hc⟩ := tankSetOf_inRange hk hr
    obtain ⟨-, -, hholds, -⟩ := tankSetOf_holds hc
    refine ⟨fun hu => ⟨_, rfl, State.serve_only hA tag f tankSet (tankSet_inUse hc hu)⟩,
      fun hu => ⟨_, c, rfl, hholds, ?_⟩⟩
    have htaken := tankSet_taken hc hu
    obtain ⟨hrole, -, -, -, -, hreorder, -, -, -, hquiet, -⟩ := hholds
    rw [← hrole, ← hreorder, ← hquiet]
    intro u old before after falls
    refine ⟨fun h => State.serve_only hA tag f tankSet (htaken.trans (congrArg _ (if_pos ?_))),
      fun h => State.serve_only hA tag f tankSet (htaken.trans (congrArg _ (if_neg ?_)))⟩
    · exact ⟨h.1.symm, h.2⟩
    · exact fun e => h ⟨e.1.symm, e.2⟩

/-! ## FLUID_SET (R86, R99) -/

section
variable {f : FluidSetFields} {n : FluidNo} {e : FluidEntry}

theorem FluidEntry.inRange_iff : e.inRange = true ↔ e.beta ≤ 1500 := by
  simp [FluidEntry.inRange, within]

/-- What a FLUID_SET names is a fluid code below 16 and an entry, its flag and coefficient in range (R86). -/
theorem fluidSetOf_holds (he : fluidSetOf f = some (n, e)) : f.fluid = n.val ∧ f.isDefined ≤ 1 ∧ f.beta ≤ 1500 := by
  unfold fluidSetOf at he
  split at he
  · next hn hd =>
    dsimp only at he
    split at he
    · next hr =>
      cases he
      exact ⟨unitOf_eq_some.mp hn, (flagOf_eq_some.mp hd).1, FluidEntry.inRange_iff.mp hr⟩
    · cases he
  · cases he

/-- A FLUID_SET whose fields are in range names their entry (R86). -/
theorem fluidSetOf_inRange (hn : f.fluid = n.val) (hd : f.isDefined ≤ 1) (hb : f.beta ≤ 1500) :
    fluidSetOf f = some (n, { isDefined := decide (f.isDefined = 1), kind := f.kind, beta := f.beta }) := by
  have hfluid : fluidOf f.fluid = some n := unitOf_eq_some.mpr hn
  have hflag : flagOf f.isDefined = some (decide (f.isDefined = 1)) := flagOf_eq_some.mpr ⟨hd, decide_eq_true_iff⟩
  rw [fluidSetOf, hfluid, hflag]
  exact if_pos (FluidEntry.inRange_iff.mpr hb)

theorem fluidSetOf_outOfRange (hr : 15 < f.fluid ∨ 1 < f.isDefined ∨ 1500 < f.beta) : fluidSetOf f = none := by
  cases he : fluidSetOf f with
  | none => rfl
  | some x =>
    have := fluidSetOf_holds (n := x.1) (e := x.2) he
    omega

end

section
variable {s : State} {n : FluidNo} {e : FluidEntry} {f : FluidSetFields}

theorem State.fluidInUse_iff (s : State) (n : FluidNo) :
    s.fluidInUse n = true ↔ ∃ k, (s.cfg.tanks.get k).fluid = n ∧ TankInUse s k := by
  simp only [State.fluidInUse, List.any_eq_true, Bool.and_eq_true, decide_eq_true_iff, State.tankInUse_iff, mem_allTanks,
    true_and]

/-- The leak watch of a tank restarts when the tank holds the fluid (R99). -/
def watchRestartedFor (n : FluidNo) (s : State) (k : TankNo) : State :=
  if (s.cfg.tanks.get k).fluid = n then s.modTank k (Tank.leakRestart (s.cfg.tanks.get k).quietTime) else s

/-- Once the tanks of a list have been taken in turn, those that hold the fluid have their watch restarted, and nothing else
has changed. -/
def WatchesRestarted (n : FluidNo) (s : State) (l : List TankNo) (t : State) : Prop :=
  t = { s with tanks := t.tanks }
    ∧ ∀ k, t.tanks.get k = if k ∈ l ∧ (s.cfg.tanks.get k).fluid = n then
        watchRestarted (s.cfg.tanks.get k).quietTime (s.tanks.get k)
      else s.tanks.get k

theorem WatchesRestarted.append {l : List TankNo} {t : State} {k : TankNo} (h : WatchesRestarted n s l t) (hk : k ∉ l) :
    WatchesRestarted n s (l ++ [k]) (watchRestartedFor n t k) := by
  obtain ⟨honly, htanks⟩ := h
  have hcfg : t.cfg = s.cfg := by rw [honly]
  have hown : t.tanks.get k = s.tanks.get k := by rw [htanks, if_neg fun e => hk e.1]
  unfold watchRestartedFor
  rw [hcfg]
  by_cases hn : (s.cfg.tanks.get k).fluid = n
  · rw [if_pos hn]
    refine ⟨by rw [honly]; rfl, fun j => ?_⟩
    rw [State.modTank_tanks, Table.modify_get]
    by_cases hj : j = k
    · subst hj
      simp [hn, hown, Tank.leakRestart_eq]
    · simp [hj, htanks]
  · rw [if_neg hn]
    refine ⟨honly, fun j => ?_⟩
    by_cases hj : j = k
    · subst hj
      simp [hn, hown]
    · simp [hj, htanks]

theorem watchRestartedFor_all (n : FluidNo) (s : State) :
    WatchesRestarted n s allTanks (allTanks.foldl (watchRestartedFor n) s) := by
  refine foldl_parts (watchRestartedFor n) (WatchesRestarted n s) ⟨rfl, fun k => by simp⟩ fun p k q t hl h => h.append ?_
  have hnodup : (p ++ k :: q).Nodup := hl ▸ List.nodup_finRange 10
  exact fun hk => (List.nodup_append.mp hnodup).2.2 k hk k (List.mem_cons_self ..) rfl

theorem fluidSet_inUse (he : fluidSetOf f = some (n, e)) (hu : ∃ k, (s.cfg.tanks.get k).fluid = n ∧ TankInUse s k) :
    fluidSet f s = (refuse .inUse, s) := by
  rw [fluidSet, he]
  exact if_pos ((s.fluidInUse_iff n).mpr hu)

theorem fluidSet_taken (he : fluidSetOf f = some (n, e)) (hu : ¬ ∃ k, (s.cfg.tanks.get k).fluid = n ∧ TankInUse s k) :
    fluidSet f s = (accepted,
      let u := withConfig s { s.cfg with fluids := s.cfg.fluids.put n e }
      if (s.cfg.fluids.get n).inForce = e.inForce then u else allTanks.foldl (watchRestartedFor n) u) := by
  rw [fluidSet, he]
  exact if_neg fun e => hu ((s.fluidInUse_iff n).mp e)

/-- A changed coefficient restarts the watch of every tank of the fluid, and one in force as before restarts none (R99; log
entry 20). -/
theorem fluidSet_watches (he : fluidSetOf f = some (n, e)) (hu : ¬ ∃ k, (s.cfg.tanks.get k).fluid = n ∧ TankInUse s k) :
    ∃ u, fluidSet f s = (accepted, u)
      ∧ u = { (withConfig s { s.cfg with fluids := s.cfg.fluids.put n e }) with tanks := u.tanks }
      ∧ ∀ k, u.tanks.get k = if (s.cfg.tanks.get k).fluid = n ∧ (s.cfg.fluids.get n).inForce ≠ e.inForce then
          watchRestarted (s.cfg.tanks.get k).quietTime (s.tanks.get k)
        else s.tanks.get k := by
  refine ⟨_, fluidSet_taken he hu, ?_⟩
  dsimp only
  by_cases hforce : (s.cfg.fluids.get n).inForce = e.inForce
  · rw [if_pos hforce]
    exact ⟨rfl, fun k => (if_neg fun h => h.2 hforce).symm⟩
  · rw [if_neg hforce]
    obtain ⟨honly, htanks⟩ := watchRestartedFor_all n (withConfig s { s.cfg with fluids := s.cfg.fluids.put n e })
    refine ⟨honly, fun k => (htanks k).trans (if_congr ?_ rfl rfl)⟩
    exact ⟨fun ⟨_, h⟩ => ⟨h, hforce⟩, fun ⟨h, _⟩ => ⟨mem_allTanks k, h⟩⟩

end

/-! ## STRAP_LOAD (R95, R99) -/

/-- One point of a strapping table stands below another (R95). -/
def strapBelow (p q : StrapPoint) : Prop := p.level < q.level ∧ p.volume ≤ q.volume

theorem strapBelow_trans {p q r : StrapPoint} (h : strapBelow p q) (h' : strapBelow q r) : strapBelow p r :=
  ⟨h.1.trans h'.1, h.2.trans h'.2⟩

theorem strapPointOk_iff (p : StrapPoint) : (within 0 20000 p.level && within 0 Config.maxVolume p.volume) = true
    ↔ p.level ≤ 20000 ∧ p.volume ≤ 2000000000 := by
  simp only [within, Bool.and_eq_true, decide_eq_true_iff, Nat.zero_le, true_and]
  rfl

/-- The check of the points goes from each to the next. -/
theorem strapPointsOk_iff : ∀ points : List StrapPoint, strapPointsOk points = true
    ↔ (∀ p ∈ points, p.level ≤ 20000 ∧ p.volume ≤ 2000000000) ∧ points.IsChain strapBelow
  | [] => by simp [strapPointsOk]
  | [p] => by simpa [strapPointsOk] using strapPointOk_iff p
  | p :: q :: rest => by
    rw [strapPointsOk, Bool.and_eq_true, Bool.and_eq_true, Bool.and_eq_true, strapPointOk_iff, strapPointsOk_iff (q :: rest),
      List.forall_mem_cons (a := p), List.isChain_cons_cons, decide_eq_true_iff, decide_eq_true_iff]
    unfold strapBelow
    tauto

theorem strapTableOk_iff (points : List StrapPoint) : strapTableOk points = true ↔ GoodStrapping points := by
  have : Trans strapBelow strapBelow strapBelow := ⟨strapBelow_trans⟩
  rw [strapTableOk, Bool.and_eq_true, strapPointsOk_iff, List.isChain_iff_pairwise, within, Bool.and_eq_true,
    decide_eq_true_iff, decide_eq_true_iff, and_assoc]
  rfl

section
variable {s : State} {k : TankNo} {f : StrapFields}

theorem strapLoad_badTable (hk : f.tank = k.val) (hb : ¬ GoodStrapping f.points) :
    strapLoad f s = (refuse .badTable, s) := by
  rw [strapLoad, hk, tankOf_val]
  simp [mt (strapTableOk_iff _).mp hb]

theorem strapLoad_inUse (hk : f.tank = k.val) (hg : GoodStrapping f.points) (hr : (s.tanks.get k).receipt ≠ none) :
    strapLoad f s = (refuse .inUse, s) := by
  rw [strapLoad, hk, tankOf_val]
  simp [(strapTableOk_iff _).mpr hg, hr]

theorem watchRestarted_staleTimer (quiet : Nat) (x : Tank) :
    { watchRestarted quiet x with staleTimer := x.staleTimer } = watchRestarted quiet x := by
  unfold watchRestarted
  cases x.leak <;> rfl

/-- The table is replaced, the watch restarts, and the stale timer of a tank without a table starts (R95, R97, R99). -/
theorem strapLoad_taken (hk : f.tank = k.val) (hg : GoodStrapping f.points) (hr : (s.tanks.get k).receipt = none) :
    strapLoad f s = (accepted,
      { (withConfig s { s.cfg with straps := s.cfg.straps.put k f.points }) with
        tanks := s.tanks.modify k fun x =>
          { watchRestarted (s.cfg.tanks.get k).quietTime x with
            staleTimer := if s.cfg.straps.get k = [] then some ((s.cfg.tanks.get k).staleTime * 10) else x.staleTimer } }) := by
  have hpass : firstFail [(strapTableOk f.points, .badTable), ((s.tanks.get k).receipt.isNone, .inUse)] = none := by
    simp [(strapTableOk_iff _).mpr hg, hr]
  rw [strapLoad, hk, tankOf_val]
  dsimp only
  rw [hpass]
  refine congrArg (fun g => (accepted, State.modTank _ k g)) (funext fun x => ?_)
  rw [State.isStrapped_eq, Tank.leakRestart_eq]
  by_cases hn : s.cfg.straps.get k = []
  · rw [if_pos hn, if_neg (by simp [hn])]
    rfl
  · rw [if_neg hn, if_pos (decide_eq_true hn)]
    exact (watchRestarted_staleTimer _ x).symm

end

/-- Settles O13: a FLUID_SET in range names its entry and restarts the watches of its tanks (`fluidSet_watches`), and the table
check of STRAP_LOAD is `GoodStrapping` (`strapTableOk_iff`). -/
theorem fluidAndStrappingRequests : Obligations.FluidAndStrappingRequests := by
  intro l tag s
  refine ⟨fun f hA => ⟨fun hr => ⟨_, rfl, State.serve_only hA tag f fluidSet ?_⟩, fun n hn hd hb => ?_⟩,
    fun f hA => ⟨fun hr => ⟨_, rfl, State.serve_only hA tag f strapLoad ?_⟩, fun k hk => ⟨fun hb => ?_, fun hg hr => ?_,
      fun hg hr => ?_⟩⟩⟩
  · rw [fluidSet, fluidSetOf_outOfRange hr]
    rfl
  · have he := fluidSetOf_inRange hn hd hb
    refine ⟨fun hu => ⟨_, rfl, State.serve_only hA tag f fluidSet (fluidSet_inUse he hu)⟩, fun hu => ?_⟩
    obtain ⟨u, htaken, honly, htanks⟩ := fluidSet_watches he hu
    refine ⟨_, u, rfl, State.serve_only hA tag f fluidSet htaken, honly, fun k => (htanks k).trans ?_⟩
    simp only [FluidEntry.inForce, decide_eq_true_iff]
  · rw [strapLoad, tankOf_of_lt hr]
    rfl
  · exact ⟨_, rfl, State.serve_only hA tag f strapLoad (strapLoad_badTable hk hb)⟩
  · exact ⟨_, rfl, State.serve_only hA tag f strapLoad (strapLoad_inUse hk hg hr)⟩
  · exact ⟨_, rfl, State.serve_only hA tag f strapLoad (strapLoad_taken hk hg hr)⟩

end Sys2Proof.Machine
end

section
/-! FAMILY. Receipts and the stock set (R93, R99, R101 to R106, R138 to R143). -/

namespace Sys2Proof.Machine

open Sys2Proof.Safety

/-! ## Tanks, journal and notices together -/

/-- A state with new tanks, a new journal and notices raised in turn: what a request to the stock unit leaves. -/
def withStock (s : State) (tanks : Table Tank 10) (j : Journal) (ns : List Notice) : State :=
  { s with tanks, journal := j, ports := raised s ns }

/-- Two ways to say a choice: by what holds, or by what fails. -/
theorem ite_swap {α : Type} {p q : Prop} [Decidable p] [Decidable q] {a b b' : α} (h : ¬ p ↔ q) (hb : b = b') :
    (if p then b else a) = if q then a else b' := by
  rw [hb, ← ite_not, if_congr h rfl rfl]

section
variable {s : State} {tanks : Table Tank 10} {j : Journal} {ns : List Notice} {k : TankNo}

theorem withStock_same (s : State) : withStock s s.tanks s.journal [] = s := rfl

theorem raised_withStock (ms : List Notice) : raised (withStock s tanks j ns) ms = raised s (ns ++ ms) := by
  rw [raised_append]
  exact raised_congr ms rfl rfl

theorem withStock_modTank (f : Tank → Tank) :
    (withStock s tanks j ns).modTank k f = withStock s (tanks.modify k f) j ns := rfl

theorem withStock_raiseKind {p : Prop} [Decidable p] (n : NoticeKind) :
    (if p then (withStock s tanks j ns).raiseKind n else withStock s tanks j ns)
      = withStock s tanks j (ns ++ noticeIf p (notice n)) := by
  rw [State.ite_raiseKind, raised_withStock]
  rfl

theorem withStock_changeStock (f : Tank → Tank) :
    (withStock s tanks j ns).changeStock k f = withStock s (tanks.modify k f) j
      (ns ++ noticeIf (lowPassed (s.cfg.tanks.get k) (tanks.get k) (f (tanks.get k))) (notice .tankLow)) := by
  rw [State.changeStock_eq, raised_withStock]
  rfl

theorem withStock_journalReserve (hfree : j.records.length + j.reserved < 64) :
    (withStock s tanks j ns).journalReserve = withStock s tanks { j with reserved := j.reserved + 1 }
      (ns ++ noticeIf (j.records.length + j.reserved = 55) (notice .journalLow)) := by
  rw [State.journalReserve_eq _ hfree, raised_withStock]
  rfl

theorem withStock_writeUnreserved (hfree : j.records.length + j.reserved < 64) (c : Bool) (b : RecordBody) :
    (withStock s tanks j ns).writeUnreserved c b = (j.next, withStock s tanks (withRecord j c b 0)
      (ns ++ (noticeIf (j.records = []) (notice .journalWaiting)
        ++ noticeIf (j.records.length + j.reserved = 55) (notice .journalLow)))) := by
  rw [State.writeUnreserved_eq _ _ _ hfree, raised_withStock]
  rfl

/-- The end of a receipt writes its record into the reserved place and removes the receipt (R141). -/
theorem withStock_endReceipt (r : Receipt) (b : RecordBody) :
    (withStock s tanks j ns).endReceipt k r b = (j.next,
      withStock s (tanks.modify k fun x => { x with receipt := none })
        (withRecord j (r.clockNotSet || !s.supply.clockSet) b 1)
        (ns ++ noticeIf (j.records = []) (notice .journalWaiting))) := by
  rw [State.endReceipt, State.writeReserved_eq, raised_withStock]
  rfl

end

section
variable {s : State} {k : TankNo} {r : Receipt}

/-! ## RECEIPT_OPEN (R101, R140) -/

theorem State.tankShut_iff (s : State) (k : TankNo) :
    s.tankShut k = true ↔ s.entryAt (.tank k) ≠ none ∨ s.entryAt .bay ≠ none := by
  rw [State.tankShut, Bool.or_eq_true, State.isLatched_iff, State.isLatched_iff]

/-- The checks of a RECEIPT_OPEN after that of the tank number (R101). -/
def openChecks (s : State) (k : TankNo) : List (Bool × Code) :=
  [ (decide ((s.cfg.tanks.get k).role = .supply ∧ (s.tanks.get k).state = .inService), .state),
    ((s.tanks.get k).gauge.valid, .gaugeFault),
    (!s.tankShut k, .shut),
    (decide (1 ≤ s.journal.free), .journalFull) ]

theorem openChecks_eq (s : State) (k : TankNo) : firstFail (openChecks s k) =
    if (s.cfg.tanks.get k).role ≠ .supply ∨ (s.tanks.get k).state ≠ .inService then some .state
    else if (s.tanks.get k).gauge.valid = false then some .gaugeFault
    else if s.entryAt (.tank k) ≠ none ∨ s.entryAt .bay ≠ none then some .shut
    else if 64 ≤ s.journal.records.length + s.journal.reserved then some .journalFull
    else none := by
  simp only [openChecks, firstFail_cons, firstFail_nil]
  refine ite_swap ?_ (ite_swap ?_ (ite_swap ?_ (ite_swap ?_ rfl)))
  · simp only [decide_eq_true_iff, not_and_or, ne_eq]
  · rw [Bool.not_eq_true]
  · rw [Bool.not_eq_true', Bool.not_eq_false, State.tankShut_iff]
  · rw [Journal.free_pos_iff, Nat.not_lt]

/-- A tank with a receipt opened: it is RECEIVING and its leak watch BUSY (R99, R101). -/
def receiptOpened (s : State) (x : Tank) : Tank :=
  { x with
    state := .receiving
    receipt := some { openClock := s.supply.clock, clockNotSet := !s.supply.clockSet, gaugedAtOpen := x.gauge.net, drawn := 0 }
    leak := .busy, quietTimer := none, baseline := none }

theorem receiptOpen_refused {c : Code} (h : firstFail (openChecks s k) = some c) :
    receiptOpen k.val s = (refuse c, s) := by
  unfold openChecks at h
  rw [receiptOpen, tankOf_val]
  dsimp only
  rw [h]

theorem receiptOpen_taken (h : firstFail (openChecks s k) = none)
    (hfree : s.journal.records.length + s.journal.reserved < 64) :
    receiptOpen k.val s = ((.ok, .receiptOpened (s.tanks.get k).gauge.net),
      withStock s (s.tanks.modify k (receiptOpened s)) { s.journal with reserved := s.journal.reserved + 1 }
        (noticeIf (s.journal.records.length + s.journal.reserved = 55) (notice .journalLow))) := by
  have htanks := Table.modify_congr s.tanks k (fun x => { x.leakBusy with
    state := .receiving
    receipt := some { openClock := s.supply.clock, clockNotSet := !s.supply.clockSet,
                      gaugedAtOpen := (s.tanks.get k).gauge.net, drawn := 0 } }) (receiptOpened s) rfl
  unfold openChecks at h
  rw [receiptOpen, tankOf_val]
  dsimp only
  rw [h, ← htanks]
  exact congrArg (Prod.mk _) (withStock_journalReserve (ns := []) hfree)

/-! ## The end of a receipt (R99, R103, R104) -/

/-- A receipt's tank at rest again: the receipt is gone, so its leak watch looks at the reserved figure alone (R99). -/
theorem Tank.leakRest_ended (quiet : Nat) (x : Tank) (hr : x.receipt = none) : x.leakRest quiet = watchRested quiet x := by
  rw [Tank.leakRest_eq, watchAtRest, watchRested]
  simp only [hr, and_true]

theorem watchRested_state (quiet : Nat) (st : TankState) (x : Tank) :
    watchRested quiet { x with state := st } = { watchRested quiet x with state := st } := by
  unfold watchRested
  dsimp only
  split <;> rfl

theorem State.openReceipt_receiving (hs : (s.tanks.get k).state = .receiving) : s.openReceipt k = (s.tanks.get k).receipt :=
  if_pos hs

theorem State.openReceipt_none (hs : (s.tanks.get k).state ≠ .receiving) : s.openReceipt k = none := if_neg hs

/-! ## RECEIPT_CLOSE (R103) -/

theorem docketOk_iff (docket : Option Nat) : docketOk docket = true ↔ ∀ d, docket = some d → 1 ≤ d ∧ d ≤ 2000000000 := by
  cases docket with
  | none => simp [docketOk]
  | some d =>
    simp only [docketOk, within, Bool.and_eq_true, decide_eq_true_iff, Option.some.injEq, forall_eq']
    rfl

theorem receiptClose_outOfRange {f : CloseFields} (s : State)
    (h : 9 < f.tank ∨ f.docket = some 0 ∨ ∃ d, f.docket = some d ∧ 2000000000 < d) :
    receiptClose f s = (refuse .outOfRange, s) := by
  unfold receiptClose
  split
  · rfl
  · next k hk =>
    have hk := unitOf_eq_some.mp hk
    have hbad : ¬ docketOk f.docket = true := by
      rw [docketOk_iff]
      intro hok
      rcases h with h | h | ⟨d, h, hd⟩
      · omega
      · exact absurd (hok _ h).1 (by decide)
      · exact absurd (hok _ h).2 (by omega)
    exact if_pos (by simpa using hbad)

/-- What a docket, or the rise where none is given, makes of the book (R103). -/
def bookClosed (k : Tank) (r : Receipt) (docket : Option Nat) : Int :=
  k.book + (match docket with | some d => (d : Int) | none => receiptRise k.gauge r)

/-- How far the rise is from the docket, where one is given (R103). -/
def closeVariance (g : Gauge) (r : Receipt) (docket : Option Nat) : Option Int :=
  docket.map fun (d : Nat) => receiptRise g r - (d : Int)

/-- The RECEIPT record of a close (R138). -/
def closeRecord (s : State) (k : TankNo) (r : Receipt) (docket : Option Nat) : RecordBody :=
  receiptRecord s k r .closed (receiptRise (s.tanks.get k).gauge r) docket (closeVariance (s.tanks.get k).gauge r docket)
    (bookClosed (s.tanks.get k) r docket)

/-- The notices of a RECEIPT_CLOSE, in turn (R93, R103, R143). -/
def closeNotices (s : State) (k : TankNo) (r : Receipt) (docket : Option Nat) : List Notice :=
  noticeIf (lowPassed (s.cfg.tanks.get k) (s.tanks.get k)
      { s.tanks.get k with book := bookClosed (s.tanks.get k) r docket }) (notice .tankLow)
    ++ noticeIf (s.journal.records = []) (notice .journalWaiting)
    ++ noticeIf ((s.cfg.tanks.get k).tolerance < ((closeVariance (s.tanks.get k).gauge r docket).getD 0).natAbs)
      (notice .receiptVariance)

/-- The state after a RECEIPT_CLOSE: book, record and notices, and the tank at rest (R99, R103, R141). -/
def receiptClosed (s : State) (k : TankNo) (r : Receipt) (docket : Option Nat) : State :=
  withStock s
    (s.tanks.modify k fun x => watchRested (s.cfg.tanks.get k).quietTime
      { x with book := bookClosed (s.tanks.get k) r docket, state := .inService, receipt := none })
    (withRecord s.journal (r.clockNotSet || !s.supply.clockSet) (closeRecord s k r docket) 1) (closeNotices s k r docket)

/-- A variance is notified only where there is one: one that is absent is within every tolerance. -/
theorem ite_variance (s : State) (tolerance : Nat) (variance : Option Int) :
    (match variance with
      | some v => if tolerance < v.natAbs then s.raiseKind .receiptVariance else s
      | none => s) = if tolerance < (variance.getD 0).natAbs then s.raiseKind .receiptVariance else s := by
  cases variance with
  | some v => rfl
  | none => rfl

/-- The book's change and the end of the receipt (R93, R141). -/
theorem endReceipt_afterBook (s : State) (k : TankNo) (r : Receipt) (book : Int) (b : RecordBody) :
    (s.changeStock k fun x => { x with book }).endReceipt k r b = (s.journal.next,
      withStock s (s.tanks.modify k fun x => { x with book, receipt := none })
        (withRecord s.journal (r.clockNotSet || !s.supply.clockSet) b 1)
        (noticeIf (lowPassed (s.cfg.tanks.get k) (s.tanks.get k) { s.tanks.get k with book }) (notice .tankLow)
          ++ noticeIf (s.journal.records = []) (notice .journalWaiting))) := by
  have hbook := withStock_changeStock (s := s) (tanks := s.tanks) (j := s.journal) (ns := []) (k := k) fun x => { x with book }
  rw [withStock_same] at hbook
  rw [hbook, withStock_endReceipt, Table.modify_modify]
  rfl

/-- The notice of a variance and the return to IN_SERVICE complete a close. -/
theorem receiptClosed_eq (s : State) (k : TankNo) (r : Receipt) (docket : Option Nat) {e : Nat × State}
    (he : (s.changeStock k fun x => { x with book := bookClosed (s.tanks.get k) r docket }).endReceipt k r
      (closeRecord s k r docket) = e) :
    State.modTank (match closeVariance (s.tanks.get k).gauge r docket with
      | some v => if (s.cfg.tanks.get k).tolerance < v.natAbs then e.2.raiseKind .receiptVariance else e.2
      | none => e.2) k (fun x => Tank.leakRest (s.cfg.tanks.get k).quietTime { x with state := .inService })
      = receiptClosed s k r docket := by
  subst he
  rw [ite_variance, endReceipt_afterBook, withStock_raiseKind, withStock_modTank, Table.modify_modify]
  exact congrArg (fun tanks => withStock s tanks _ _) (Table.modify_congr _ _ _ _ (Tank.leakRest_ended _ _ rfl))

section
variable {f : CloseFields}

theorem receiptClose_state (hk : f.tank = k.val) (hd : docketOk f.docket = true) (hs : (s.tanks.get k).state ≠ .receiving) :
    receiptClose f s = (refuse .state, s) := by
  rw [receiptClose, hk, tankOf_val, hd]
  dsimp only
  rw [State.openReceipt_none hs]
  rfl

/-- A RECEIPT_CLOSE at an open receipt: the gauge, then the book's limits, then the close (R103). -/
theorem receiptClose_open (hk : f.tank = k.val) (hd : docketOk f.docket = true) (hs : (s.tanks.get k).state = .receiving)
    (hr : (s.tanks.get k).receipt = some r) :
    receiptClose f s =
      if (s.tanks.get k).gauge.valid = false then (refuse .gaugeFault, s)
      else if bookClosed (s.tanks.get k) r f.docket < -2147483648 ∨ 2147483647 < bookClosed (s.tanks.get k) r f.docket then
        (refuse .outOfRange, s)
      else
        ((.ok, .receiptClosed (receiptRise (s.tanks.get k).gauge r) (closeVariance (s.tanks.get k).gauge r f.docket)
            (bookClosed (s.tanks.get k) r f.docket) s.journal.next),
          receiptClosed s k r f.docket) := by
  have hnext := congrArg Prod.fst
    (endReceipt_afterBook s k r (bookClosed (s.tanks.get k) r f.docket) (closeRecord s k r f.docket))
  dsimp only at hnext
  rw [← receiptClosed_eq s k r f.docket rfl, ← hnext, receiptClose, hk, tankOf_val, hd]
  dsimp only
  rw [State.openReceipt_receiving hs, hr]
  exact (if_neg Bool.false_ne_true).trans (if_congr (by rw [Bool.not_eq_true']) rfl rfl)

end

/-! ## RECEIPT_CANCEL (R104) -/

theorem receiptCancel_state (hs : (s.tanks.get k).state ≠ .receiving) : receiptCancel k.val s = (refuse .state, s) := by
  rw [receiptCancel, tankOf_val]
  dsimp only
  rw [State.openReceipt_none hs]

/-- The cancel writes a record of no rise and leaves the book (R104). -/
theorem receiptCancel_open (hs : (s.tanks.get k).state = .receiving) (hr : (s.tanks.get k).receipt = some r) :
    receiptCancel k.val s = ((.ok, .written s.journal.next), withStock s
      (s.tanks.modify k fun x => watchRested (s.cfg.tanks.get k).quietTime { x with state := .inService, receipt := none })
      (withRecord s.journal (r.clockNotSet || !s.supply.clockSet)
        (receiptRecord s k r .cancelled 0 none none (s.tanks.get k).book) 1)
      (noticeIf (s.journal.records = []) (notice .journalWaiting))) := by
  have hend := withStock_endReceipt (s := s) (tanks := s.tanks) (j := s.journal) (ns := []) (k := k) r
    (receiptRecord s k r .cancelled 0 none none (s.tanks.get k).book)
  rw [withStock_same] at hend
  rw [receiptCancel, tankOf_val]
  dsimp only
  rw [State.openReceipt_receiving hs, hr]
  dsimp only
  rw [State.cancelReceipt, hend]
  dsimp only
  rw [withStock_modTank, withStock_modTank, Table.modify_modify, Table.modify_modify]
  refine congrArg (fun tanks => (_, withStock s tanks _ _)) (Table.modify_congr _ _ _ _ ?_)
  rw [Tank.leakRest_ended _ _ rfl]
  exact (watchRested_state ..).symm

/-! ## STOCK_SET (R106, R142) -/

/-- The checks of a STOCK_SET after that of the tank number (R106). -/
def stockChecks (s : State) (k : TankNo) (book : Int) : List (Bool × Code) :=
  [ (decide (Config.bookMin ≤ book) && decide (book ≤ Config.bookMax), .outOfRange),
    (!(s.tanks.get k).isWorking, .inUse),
    (decide (1 ≤ s.journal.free), .journalFull) ]

theorem Tank.isWorking_iff (x : Tank) : x.isWorking = true ↔ 0 < x.reserved ∨ x.receipt ≠ none := by
  rw [Tank.isWorking, Bool.or_eq_true, decide_eq_true_iff, Option.isSome_iff_ne_none]

theorem stockChecks_eq (s : State) (k : TankNo) (book : Int) : firstFail (stockChecks s k book) =
    if book < -2147483648 ∨ 2147483647 < book then some .outOfRange
    else if 0 < (s.tanks.get k).reserved ∨ (s.tanks.get k).receipt ≠ none then some .inUse
    else if 64 ≤ s.journal.records.length + s.journal.reserved then some .journalFull
    else none := by
  simp only [stockChecks, firstFail_cons, firstFail_nil]
  refine ite_swap ?_ (ite_swap ?_ (ite_swap ?_ rfl))
  · simp only [Bool.and_eq_true, decide_eq_true_iff, not_and_or, Int.not_le]
    rfl
  · rw [Bool.not_eq_true', Bool.not_eq_false, Tank.isWorking_iff]
  · rw [Journal.free_pos_iff, Nat.not_lt]

section
variable {f : StockSetFields}

theorem stockSet_refused {c : Code} (hk : f.tank = k.val) (h : firstFail (stockChecks s k f.book) = some c) :
    stockSet f s = (refuse c, s) := by
  unfold stockChecks at h
  rw [stockSet, hk, tankOf_val]
  dsimp only
  rw [h]

/-- The record is written first, then the book takes the value (R106, R142). -/
theorem stockSet_taken (hk : f.tank = k.val) (h : firstFail (stockChecks s k f.book) = none)
    (hfree : s.journal.records.length + s.journal.reserved < 64) :
    stockSet f s = ((.ok, .written s.journal.next), withStock s (s.tanks.modify k (Tank.afterStockSet f.book))
      (withRecord s.journal (!s.supply.clockSet)
        (.stockAdjust { tank := k, reason := f.reason, oldBook := (s.tanks.get k).book, newBook := f.book,
                        clock := s.supply.clock }) 0)
      (noticeIf (s.journal.records = []) (notice .journalWaiting)
        ++ noticeIf (s.journal.records.length + s.journal.reserved = 55) (notice .journalLow)
        ++ noticeIf (lowPassed (s.cfg.tanks.get k) (s.tanks.get k) (Tank.afterStockSet f.book (s.tanks.get k)))
            (notice .tankLow))) := by
  have hwrite := withStock_writeUnreserved (s := s) (tanks := s.tanks) (ns := []) hfree (!s.supply.clockSet)
    (.stockAdjust { tank := k, reason := f.reason, oldBook := (s.tanks.get k).book, newBook := f.book,
                    clock := s.supply.clock })
  rw [withStock_same] at hwrite
  unfold stockChecks at h
  rw [stockSet, hk, tankOf_val]
  dsimp only
  rw [h]
  dsimp only
  rw [hwrite]
  dsimp only
  rw [withStock_changeStock]
  rfl

end

end

/-- Settles O17: the checks fall in order (`openChecks_eq`), and the open takes its place (`receiptOpen_taken`). -/
theorem receiptOpenHoldsAPlace : Obligations.ReceiptOpenHoldsAPlace := by
  intro l tag n s hA c
  have hrep {code : Code} {res : Results} {u : State} (h : receiptOpen n s = ((code, res), u)) :
      Replies c s u l tag .receiptOpen code res := ⟨_, rfl, State.serve_only hA tag n receiptOpen h⟩
  refine ⟨fun hn => hrep (by rw [receiptOpen, tankOf_of_lt hn]; rfl), fun k hk => ?_⟩
  subst hk
  have hchecks := openChecks_eq s k
  refine ite_prop_iff_and.mpr ⟨fun h₁ => hrep (receiptOpen_refused (hchecks.trans (if_pos h₁))), fun h₁ => ?_⟩
  rw [if_neg h₁] at hchecks
  refine ite_prop_iff_and.mpr ⟨fun h₂ => hrep (receiptOpen_refused (hchecks.trans (if_pos h₂))), fun h₂ => ?_⟩
  rw [if_neg h₂] at hchecks
  refine ite_prop_iff_and.mpr ⟨fun h₃ => hrep (receiptOpen_refused (hchecks.trans (if_pos h₃))), fun h₃ => ?_⟩
  rw [if_neg h₃] at hchecks
  exact ite_prop_iff_and.mpr ⟨fun h₄ => hrep (receiptOpen_refused (hchecks.trans (if_pos h₄))),
    fun h₄ => hrep (receiptOpen_taken (hchecks.trans (if_neg h₄)) (Nat.lt_of_not_le h₄))⟩

/-- Settles O18: a close and a cancel at an open receipt are what `receiptClose_open` and `receiptCancel_open` say. -/
theorem receiptCloseAndCancel : Obligations.ReceiptCloseAndCancel := by
  constructor
  · intro l tag f s hA c
    have hrep {code : Code} {res : Results} {u : State} (h : receiptClose f s = ((code, res), u)) :
        Replies c s u l tag .receiptClose code res := ⟨_, rfl, State.serve_only hA tag f receiptClose h⟩
    refine ⟨fun h => hrep (receiptClose_outOfRange s h), fun k hk hdocket => ?_⟩
    have hd := (docketOk_iff f.docket).mpr hdocket
    refine ⟨fun hs => hrep (receiptClose_state hk hd hs), fun hs r hr => ?_⟩
    have hopen := receiptClose_open hk hd hs hr
    refine ite_prop_iff_and.mpr ⟨fun h₁ => hrep (hopen.trans (if_pos h₁)), fun h₁ => ?_⟩
    rw [if_neg h₁] at hopen
    exact ite_prop_iff_and.mpr ⟨fun h₂ => hrep (hopen.trans (if_pos h₂)), fun h₂ => hrep (hopen.trans (if_neg h₂))⟩
  · intro l tag n s hA c
    have hrep {code : Code} {res : Results} {u : State} (h : receiptCancel n s = ((code, res), u)) :
        Replies c s u l tag .receiptCancel code res := ⟨_, rfl, State.serve_only hA tag n receiptCancel h⟩
    refine ⟨fun hn => hrep (by rw [receiptCancel, tankOf_of_lt hn]; rfl), fun k hk => ?_⟩
    subst hk
    exact ⟨fun hs => hrep (receiptCancel_state hs), fun hs r hr => hrep (receiptCancel_open hs hr)⟩

/-- Settles O19: the checks fall in order (`stockChecks_eq`), and the record comes before the book (`stockSet_taken`). -/
theorem stockSetWritesTheBook : Obligations.StockSetWritesTheBook := by
  intro l tag f s hA c
  have hrep {code : Code} {res : Results} {u : State} (h : stockSet f s = ((code, res), u)) :
      Replies c s u l tag .stockSet code res := ⟨_, rfl, State.serve_only hA tag f stockSet h⟩
  refine ⟨fun hr => hrep ?_, fun k hk hmin hmax => ?_⟩
  · by_cases hn : 9 < f.tank
    · rw [stockSet, tankOf_of_lt hn]
      rfl
    · have hbook := hr.resolve_left hn
      exact stockSet_refused (k := ⟨f.tank, by omega⟩) rfl ((stockChecks_eq ..).trans (if_pos hbook))
  · have hchecks := stockChecks_eq s k f.book
    rw [if_neg (by omega)] at hchecks
    refine ite_prop_iff_and.mpr ⟨fun h₁ => hrep (stockSet_refused hk (hchecks.trans (if_pos h₁))), fun h₁ => ?_⟩
    rw [if_neg h₁] at hchecks
    exact ite_prop_iff_and.mpr ⟨fun h₂ => hrep (stockSet_refused hk (hchecks.trans (if_pos h₂))),
      fun h₂ => hrep (stockSet_taken hk (hchecks.trans (if_neg h₂)) (Nat.lt_of_not_le h₂))⟩

end Sys2Proof.Machine
end

section
/-! FAMILY. The workshop requests on machine accounts (R111, R112, R124 to R133). -/

namespace Sys2Proof.Machine

open Sys2Proof.Safety

/-- A request is answered as its owner answers. -/
theorem State.replies_of_owner {α : Type} {s u : State} {self : Instr} {l : Link} {k : Kind} {tag : Half} {a : α}
    {code : Code} {res : Results} (hA : Admissible s l k self) (owner : α → State → Answer × State)
    (hexec : exec self s = .next (s.serve self l tag k (.fields a) owner)) (h : owner a s = ((code, res), u)) :
    Replies self s u l tag k code res :=
  ⟨_, hexec, State.serve_only hA tag a owner h⟩

/-! ## The ranges (R112, R125) -/

theorem within_iff {lo hi x : Nat} : within lo hi x = true ↔ lo ≤ x ∧ x ≤ hi := by
  rw [within, Bool.and_eq_true, decide_eq_true_iff, decide_eq_true_iff]

theorem machineOk_iff {m : Nat} : machineOk m = true ↔ 1 ≤ m ∧ m ≤ 65534 := within_iff

theorem accountFieldsOk_iff {f : AccountFields} : AccountFieldsOk f = true ↔ AccountFieldsInRange f := by
  simp only [AccountFieldsOk, AccountFieldsInRange, Bool.and_eq_true, machineOk_iff, within_iff, Nat.zero_le, true_and,
    and_assoc]
  rfl

theorem lubeEntryOk_iff {e : LubeEntry} : LubeEntryOk e = true ↔ e.fluid ≤ 15 ∧ (1 ≤ e.interval ∧ e.interval ≤ 100000)
    ∧ (1 ≤ e.minQuantity ∧ e.minQuantity ≤ 2000000000) ∧ ∀ h, e.lastService = some h → h ≤ 9999999 := by
  have hservice : (match e.lastService with | none => true | some h => within 0 Config.maxHours h) = true
      ↔ ∀ h, e.lastService = some h → h ≤ 9999999 := by
    cases e.lastService with
    | none => simp
    | some h => simp only [within_iff, Nat.zero_le, true_and, Option.some.injEq, forall_eq', Config.maxHours]
  simp only [LubeEntryOk, Bool.and_eq_true, within_iff, Nat.zero_le, true_and, and_assoc]
  exact and_congr_right' (and_congr_right' (and_congr_right' (and_congr_right' (and_congr_right' hservice))))

theorem lubeDuplicates_iff {entries : List LubeEntry} :
    lubeDuplicates entries = true ↔ ¬ entries.Pairwise fun a b => a.fluid ≠ b.fluid := by
  induction entries with
  | nil => simp [lubeDuplicates]
  | cons e rest ih =>
    have hany : rest.any (fun d => decide (d.fluid = e.fluid)) = true ↔ ¬ ∀ d ∈ rest, e.fluid ≠ d.fluid := by
      rw [List.any_eq_true, ← not_iff_not, not_not]
      simp only [decide_eq_true_iff, not_exists, not_and, ne_comm, ne_eq]
    rw [lubeDuplicates, Bool.or_eq_true, ih, hany, List.pairwise_cons, not_and_or]

/-- The range check of a LUBE_SET (R125). -/
def lubeFieldsOk (f : LubeFields) : Bool := machineOk f.machine && within 0 4 f.entries.length && f.entries.all LubeEntryOk

theorem lubeFieldsOk_iff {f : LubeFields} : lubeFieldsOk f = true ↔
    (1 ≤ f.machine ∧ f.machine ≤ 65534) ∧ f.entries.length ≤ 4 ∧ ∀ e ∈ f.entries,
      e.fluid ≤ 15 ∧ (1 ≤ e.interval ∧ e.interval ≤ 100000) ∧ (1 ≤ e.minQuantity ∧ e.minQuantity ≤ 2000000000)
        ∧ ∀ h, e.lastService = some h → h ≤ 9999999 := by
  simp only [lubeFieldsOk, Bool.and_eq_true, machineOk_iff, within_iff, List.all_eq_true, lubeEntryOk_iff, Nat.zero_le,
    true_and, and_assoc]

/-! ## Accounts by machine number (R111) -/

theorem State.findAccount_eq_none {s : State} {m : Nat} : s.findAccount m = none ↔ ∀ a ∈ s.accounts, a.machine ≠ m := by
  simp [State.findAccount]

/-- An account of a new number is put before the first of a larger number (R126). -/
theorem insertAccount_split (a : Account) (l : List Account) (hnew : ∀ b ∈ l, b.machine ≠ a.machine) :
    ∃ below above, l = below ++ above ∧ (∀ b ∈ below, b.machine < a.machine)
      ∧ (∀ b ∈ above.head?, a.machine < b.machine) ∧ insertAccount a l = (below ++ [a]) ++ above := by
  induction l with
  | nil => exact ⟨[], [], rfl, by simp, by simp, rfl⟩
  | cons b rest ih =>
    obtain ⟨hb, hrest⟩ := List.forall_mem_cons.mp hnew
    by_cases hlt : a.machine < b.machine
    · exact ⟨[], b :: rest, rfl, by simp, by simpa using hlt, if_pos hlt⟩
    · obtain ⟨below, above, hsplit, hbelow, habove, hins⟩ := ih hrest
      refine ⟨b :: below, above, by rw [hsplit]; rfl, List.forall_mem_cons.mpr ⟨by omega, hbelow⟩, habove, ?_⟩
      rw [insertAccount, if_neg hlt, hins]
      rfl

/-- The state after an ACCOUNT_DELETE (R129). -/
def withoutAccount (s : State) (m : Nat) : State := { s with accounts := s.accounts.filter fun a => decide (a.machine ≠ m) }

theorem mem_withoutAccount {s : State} {m : Nat} {x : Account} :
    x ∈ (withoutAccount s m).accounts ↔ x ∈ s.accounts ∧ x.machine ≠ m := by
  rw [withoutAccount, List.mem_filter, decide_eq_true_iff]

theorem withoutAccount_findAccount_self (s : State) (m : Nat) : (withoutAccount s m).findAccount m = none :=
  State.findAccount_eq_none.mpr fun _ ha => (mem_withoutAccount.mp ha).2

theorem withoutAccount_findAccount_of_ne (s : State) {m n : Nat} (h : n ≠ m) :
    (withoutAccount s m).findAccount n = s.findAccount n := by
  rw [State.findAccount, State.findAccount, withoutAccount, List.find?_filter]
  congr 1
  funext a
  by_cases ha : a.machine = n <;> simp [ha, h]

/-! ## The checks of a request that names an account (R124) -/

section
variable {s : State} {m : Nat} {ok idle : Bool} {act : Account → Answer × State} {a : Account}

theorem withAccount_outOfRange (hok : ¬ ok = true) : withAccount s m ok idle act = (refuse .outOfRange, s) :=
  if_pos (by rwa [Bool.not_eq_true', ← Bool.not_eq_true])

theorem withAccount_noAccount (hok : ok = true) (hn : s.findAccount m = none) :
    withAccount s m ok idle act = (refuse .noAccount, s) := by
  rw [withAccount, hok, hn]
  rfl

theorem withAccount_inUse (hok : ok = true) (ha : s.findAccount m = some a) (hu : a.inUse ≠ none) :
    withAccount s m ok true act = (refuse .accountInUse, s) := by
  rw [withAccount, hok, ha]
  exact if_pos (Option.isSome_iff_ne_none.mpr hu)

theorem withAccount_idle (hok : ok = true) (ha : s.findAccount m = some a) (hu : a.inUse = none) :
    withAccount s m ok true act = act a := by
  rw [withAccount, hok, ha]
  exact if_neg fun h => Option.isSome_iff_ne_none.mp h hu

theorem withAccount_anyUse (hok : ok = true) (ha : s.findAccount m = some a) : withAccount s m ok false act = act a := by
  rw [withAccount, hok, ha]
  rfl

/-- A request that carries a machine number only is refused OUT_OF_RANGE or NO_ACCOUNT, or finds an account (R124). -/
theorem replies_machine {c : Instr} {l : Link} {tag : Half} {k : Kind} {found : Account → Prop}
    (hrep : ∀ {code : Code} {res : Results} {u : State},
      withAccount s m (machineOk m) idle act = ((code, res), u) → Replies c s u l tag k code res)
    (hfound : machineOk m = true → ∀ a, s.findAccount m = some a → found a) :
    ((m = 0 ∨ 65534 < m) → Replies c s s l tag k .outOfRange .nothing)
    ∧ (1 ≤ m → m ≤ 65534 → (s.findAccount m = none → Replies c s s l tag k .noAccount .nothing)
      ∧ ∀ a, s.findAccount m = some a → found a) := by
  refine ⟨fun hm => hrep (withAccount_outOfRange (mt machineOk_iff.mp (by omega))), fun hlo hhi => ?_⟩
  have hok := machineOk_iff.mpr ⟨hlo, hhi⟩
  exact ⟨fun hn => hrep (withAccount_noAccount hok hn), hfound hok⟩

end

/-! ## ACCOUNT_CREATE, ACCOUNT_UNBLOCK, LUBE_SET (R126, R128, R132) -/

theorem accountCreate_eq (f : AccountFields) (s : State) : accountCreate f s =
    if AccountFieldsOk f then
      if s.findAccount f.machine = none then
        if s.accounts.length < Config.accountPlaces then
          (accepted, { s with accounts := insertAccount (newAccount f) s.accounts })
        else (refuse .tableFull, s)
      else (refuse .duplicate, s)
    else (refuse .outOfRange, s) := by
  simp only [accountCreate, firstFail_cons, firstFail_nil, Option.isNone_iff_eq_none, decide_eq_true_iff]
  split_ifs <;> rfl

theorem unblocked_eq (a : Account) : unblocked a = if a.reviewHours = none then .active else .review :=
  ite_swap (by rw [Option.not_isSome_iff_eq_none]) rfl

theorem lubeSet_eq (f : LubeFields) (s : State) : lubeSet f s =
    if lubeFieldsOk f && lubeDuplicates f.entries then (refuse .duplicate, s)
    else withAccount s f.machine (lubeFieldsOk f) true fun _ =>
      (accepted, s.modAccount f.machine fun a => { a with lube := f.entries }) := rfl

/-! ## HOURS_REBASE (R131) -/

theorem shiftedHours_eq (old new x : Nat) :
    (shiftedHours old new x : Int) = min 9999999 (max 0 ((x : Int) + new - old)) := by
  rw [shiftedHours, Config.maxHours]
  omega

/-- Each lube entry's hours at last service are shifted, and nothing else of it changes, where a last reading was present. -/
theorem rebased_lube {r old : Nat} {a : Account} (h : a.lastHours = some old) : (a.rebased r).lube
    = a.lube.map fun e => { e with lastService := e.lastService.map (shiftedHours old r) } := by
  rw [Account.rebased, h]

theorem rebased_lube_of_none {r : Nat} {a : Account} (h : a.lastHours = none) : (a.rebased r).lube = a.lube := by
  rw [Account.rebased, h]

/-- A reading that is absent or above the ceiling, or a machine number no account may hold, is refused (R131, log entry 16). -/
theorem hoursRebase_outOfRange {f : RebaseFields} (s : State)
    (h : f.machine = 0 ∨ 65534 < f.machine ∨ f.reading = none ∨ ∃ r, f.reading = some r ∧ 9999999 < r) :
    hoursRebase f s = (refuse .outOfRange, s) := by
  unfold hoursRebase
  split
  · rfl
  · next r hr =>
    refine withAccount_outOfRange fun hok => ?_
    rw [Bool.and_eq_true, machineOk_iff, within_iff, Config.maxHours] at hok
    rcases h with h | h | h | ⟨r', h, hlt⟩
    · omega
    · omega
    · cases hr.symm.trans h
    · cases hr.symm.trans h
      omega

theorem hoursRebase_inRange {f : RebaseFields} {r : Nat} (s : State) (hr : f.reading = some r) : hoursRebase f s =
    withAccount s f.machine (machineOk f.machine && within 0 Config.maxHours r) true fun _ =>
      ((.ok, .hours r), s.modAccount f.machine (Account.rebased r)) := by
  rw [hoursRebase, hr]

/-! ## ACCOUNT_READ and ACCOUNT_NEXT (R133) -/

theorem accountRead_outOfRange {m : Nat} (s : State) (h : ¬ machineOk m = true) : accountRead m s = refuse .outOfRange :=
  if_neg h

theorem accountRead_noAccount {m : Nat} {s : State} (hok : machineOk m = true) (hn : s.findAccount m = none) :
    accountRead m s = refuse .noAccount := by
  rw [accountRead, if_pos hok, hn]

theorem accountRead_found {m : Nat} {s : State} {a : Account} (hok : machineOk m = true) (ha : s.findAccount m = some a) :
    accountRead m s = (.ok, .account (accountView a)) := by
  rw [accountRead, if_pos hok, ha]

theorem accountView_due {a : Account} {k : Nat} {e : LubeEntry} (he : a.lube[k]? = some e) :
    (accountView a).due[k]? = some (lubeReadItem a e) := by
  rw [accountView, List.getElem?_map, he]
  rfl

/-- An entry is due in an ACTIVE account whose last reading has come to its due hours. -/
theorem lubeReadItem_flag (a : Account) (e : LubeEntry) : (lubeReadItem a e).2 = true
    ↔ a.state = .active ∧ ∃ d h, lubeDueHours e = some d ∧ a.lastHours = some h ∧ d ≤ h := by
  rw [lubeReadItem, Bool.and_eq_true, decide_eq_true_iff]
  refine and_congr_right' ?_
  cases lubeDueHours e <;> cases a.lastHours <;> simp

theorem inClass_iff {cls : Option AccountClass} {a : Account} : inClass cls a = true ↔ ∀ x, cls = some x → a.cls = x := by
  cases cls <;> simp [inClass]

/-- What ACCOUNT_NEXT asks of an account (R133). -/
def nextFits (f : NextFields) (a : Account) : Bool :=
  decide (f.above < a.machine) && meets f.selection a && inClass f.cls a

theorem nextFits_iff {f : NextFields} {a : Account} : nextFits f a = true
    ↔ f.above < a.machine ∧ (∀ x, f.cls = some x → a.cls = x) ∧ meets f.selection a = true := by
  rw [nextFits, Bool.and_eq_true, Bool.and_eq_true, decide_eq_true_iff, inClass_iff, and_assoc, and_comm (a := _ = true)]

/-- The first account that fits, of a table in ascending order, is the one of the least number. -/
theorem find?_least {l : List Account} {p : Account → Bool} {a : Account}
    (hasc : l.Pairwise fun x y => x.machine < y.machine) (h : l.find? p = some a) :
    ∀ b ∈ l, p b = true → a.machine ≤ b.machine := by
  obtain ⟨-, before, after, rfl, hbefore⟩ := List.find?_eq_some_iff_append.mp h
  intro b hb hp
  rcases List.mem_append.mp hb with hb | hb
  · exact absurd hp (by simpa using hbefore b hb)
  · rcases List.mem_cons.mp hb with rfl | hb
    · exact le_rfl
    · exact ((List.pairwise_cons.mp (List.pairwise_append.mp hasc).2.1).1 b hb).le

theorem accountNext_outOfRange {f : NextFields} (s : State) (h : 65534 < f.above) :
    accountNext f s = refuse .outOfRange :=
  if_neg fun hok => absurd (within_iff.mp hok).2 (by omega)

section
variable {f : NextFields} {s : State} (h : f.above ≤ 65534)
include h

theorem accountNext_noAccount (hn : s.accounts.find? (nextFits f) = none) : accountNext f s = refuse .noAccount := by
  unfold nextFits at hn
  rw [accountNext, if_pos (within_iff.mpr ⟨Nat.zero_le _, h⟩), hn]

theorem accountNext_found {a : Account} (ha : s.accounts.find? (nextFits f) = some a) :
    accountNext f s = (.ok, .account (accountView a)) := by
  unfold nextFits at ha
  rw [accountNext, if_pos (within_iff.mpr ⟨Nat.zero_le _, h⟩), ha]

end

/-! ## The obligations -/

/-- Settles O22: the new account takes its place (`insertAccount_split`), and an edit meets the checks of R124. -/
theorem accountCreateAndEdit : Obligations.AccountCreateAndEdit := by
  intro l tag f s
  rw [← accountFieldsOk_iff]
  constructor
  · intro hA c
    have hrep {code : Code} {res : Results} {u : State} (h : accountCreate f s = ((code, res), u)) :
        Replies c s u l tag .accountCreate code res := State.replies_of_owner hA accountCreate rfl h
    have hcreate := accountCreate_eq f s
    refine ⟨fun hr => hrep (hcreate.trans (if_neg hr)),
      fun hr hd => hrep (hcreate.trans ((if_pos hr).trans (if_neg hd))), fun hr hn hfull => hrep (hcreate.trans
        ((if_pos hr).trans ((if_pos hn).trans (if_neg (Nat.not_lt.mpr hfull))))), fun hr hn hroom => ?_⟩
    obtain ⟨below, above, hsplit, hbelow, habove, hins⟩ :=
      insertAccount_split (newAccount f) s.accounts (State.findAccount_eq_none.mp hn)
    refine ⟨below, above, hsplit, hbelow, habove, hrep (hcreate.trans ((if_pos hr).trans ((if_pos hn).trans
      ((if_pos hroom).trans ?_))))⟩
    rw [hins]
    rfl
  · intro hA c
    have hrep {code : Code} {res : Results} {u : State} (h : accountEdit f s = ((code, res), u)) :
        Replies c s u l tag .accountEdit code res := State.replies_of_owner hA accountEdit rfl h
    exact ⟨fun hr => hrep (withAccount_outOfRange hr), fun hr hn => hrep (withAccount_noAccount hr hn),
      fun a hr ha hu => hrep (withAccount_inUse hr ha hu), fun a hr ha hu => hrep (withAccount_idle hr ha hu)⟩

/-- Settles O23: both requests pass the account whether or not it is in use (`withAccount_anyUse`). -/
theorem accountBlockAndUnblock : Obligations.AccountBlockAndUnblock := by
  intro l tag m s
  constructor
  · intro hA c
    have hrep {code : Code} {res : Results} {u : State} (h : accountBlock m s = ((code, res), u)) :
        Replies c s u l tag .accountBlock code res := State.replies_of_owner hA accountBlock rfl h
    refine replies_machine hrep fun hok a ha => ?_
    exact ⟨fun hb => hrep ((withAccount_anyUse hok ha).trans (if_pos hb)),
      fun hb => hrep ((withAccount_anyUse hok ha).trans (if_neg hb))⟩
  · intro hA c
    have hrep {code : Code} {res : Results} {u : State} (h : accountUnblock m s = ((code, res), u)) :
        Replies c s u l tag .accountUnblock code res := State.replies_of_owner hA accountUnblock rfl h
    refine replies_machine hrep fun hok a ha => ?_
    refine ⟨fun hb => hrep ((withAccount_anyUse hok ha).trans (if_neg hb)), fun hb => ?_⟩
    simp only [← unblocked_eq]
    exact hrep ((withAccount_anyUse hok ha).trans (if_pos hb))

/-- Settles O24: the number is found no more (`withoutAccount_findAccount_self`), and the list of a LUBE_SET is tested for its
ranges and then for a fluid named twice (`lubeFieldsOk_iff`, `lubeDuplicates_iff`). -/
theorem accountDeleteAndLubeSet : Obligations.AccountDeleteAndLubeSet := by
  intro l tag s
  refine ⟨fun m hA => ?_, fun f hA => ?_⟩
  · intro c
    have hrep {code : Code} {res : Results} {u : State} (h : accountDelete m s = ((code, res), u)) :
        Replies c s u l tag .accountDelete code res := State.replies_of_owner hA accountDelete rfl h
    refine replies_machine hrep fun hok a ha => ⟨fun hu => hrep (withAccount_inUse hok ha hu), fun hu => ?_⟩
    exact ⟨withoutAccount s m, hrep (withAccount_idle hok ha hu), rfl, withoutAccount_findAccount_self s m,
      fun n hn => withoutAccount_findAccount_of_ne s hn, fun x => mem_withoutAccount⟩
  · intro c inRange twice
    have hrep {code : Code} {res : Results} {u : State} (h : lubeSet f s = ((code, res), u)) :
        Replies c s u l tag .lubeSet code res := State.replies_of_owner hA lubeSet rfl h
    have hrange : lubeFieldsOk f = true ↔ inRange := lubeFieldsOk_iff
    have htwice : lubeDuplicates f.entries = true ↔ twice := lubeDuplicates_iff
    have hchecked (h : ¬ (inRange ∧ twice)) := (lubeSet_eq f s).trans (if_neg (by rwa [Bool.and_eq_true, hrange, htwice]))
    exact ⟨fun hr => hrep ((hchecked fun h => hr h.1).trans (withAccount_outOfRange (mt hrange.mp hr))),
      fun hr ht => hrep ((lubeSet_eq f s).trans (if_pos (by rw [hrange.mpr hr, htwice.mpr ht]; rfl))),
      fun hr ht hn => hrep ((hchecked fun h => ht h.2).trans (withAccount_noAccount (hrange.mpr hr) hn)),
      fun a hr ht ha => ⟨fun hu => hrep ((hchecked fun h => ht h.2).trans (withAccount_inUse (hrange.mpr hr) ha hu)),
        fun hu => hrep ((hchecked fun h => ht h.2).trans (withAccount_idle (hrange.mpr hr) ha hu))⟩⟩

/-- Settles O25: past the checks of R124 the account's state decides, and the reply reads what `Account.confirmed` takes. -/
theorem hoursConfirmTakesTheReviewReading : Obligations.HoursConfirmTakesTheReviewReading := by
  intro l tag m s hA c
  have hrep {code : Code} {res : Results} {u : State} (h : hoursConfirm m s = ((code, res), u)) :
      Replies c s u l tag .hoursConfirm code res := State.replies_of_owner hA hoursConfirm rfl h
  refine replies_machine hrep fun hok a ha => ⟨fun hu => hrep (withAccount_inUse hok ha hu),
    fun hu hs => hrep ((withAccount_idle hok ha hu).trans (if_neg hs)), fun h hu hs hh => hrep ?_⟩
  refine (withAccount_idle hok ha hu).trans ((if_pos hs).trans ?_)
  rw [hh]
  rfl

/-- Settles O26: the account becomes `Account.rebased`, whose services are shifted as `rebased_lube` and `shiftedHours_eq`
say. -/
theorem hoursRebaseShiftsServices : Obligations.HoursRebaseShiftsServices := by
  intro l tag f s hA c
  have hrep {code : Code} {res : Results} {u : State} (h : hoursRebase f s = ((code, res), u)) :
      Replies c s u l tag .hoursRebase code res := State.replies_of_owner hA hoursRebase rfl h
  refine ⟨fun h => hrep (hoursRebase_outOfRange s h), fun r hlo hhi hr hmax => ?_⟩
  have hact := hoursRebase_inRange s hr
  have hok : (machineOk f.machine && within 0 Config.maxHours r) = true :=
    Bool.and_eq_true_iff.mpr ⟨machineOk_iff.mpr ⟨hlo, hhi⟩, within_iff.mpr ⟨Nat.zero_le r, hmax⟩⟩
  refine ⟨fun hn => hrep (hact.trans (withAccount_noAccount hok hn)), fun a ha =>
    ⟨fun hu => hrep (hact.trans (withAccount_inUse hok ha hu)), fun hu =>
      ⟨Account.rebased r, hrep (hact.trans (withAccount_idle hok ha hu)), fun b =>
        ⟨rfl, rfl, rebased_lube_of_none, fun old hold => ?_⟩⟩⟩⟩
  rw [rebased_lube hold]
  refine ⟨List.length_map .., fun k e d he hd => ?_⟩
  obtain rfl : { e with lastService := e.lastService.map (shiftedHours old r) } = d := by
    simpa [he] using hd
  exact ⟨rfl, fun hn => by rw [hn]; rfl, fun x hx => ⟨shiftedHours old r x, by rw [hx]; rfl, shiftedHours_eq old r x⟩⟩

/-- Settles O27: a read carries the account's view, and ACCOUNT_NEXT the first account that fits, which is the least
(`find?_least`). -/
theorem accountReadsFindAccounts : Obligations.AccountReadsFindAccounts := by
  intro l tag s
  refine ⟨fun m hA => ?_, fun f hA => ?_⟩
  · intro c
    have hrep {code : Code} {res : Results} (h : accountRead m s = (code, res)) :
        Replies c s s l tag .accountRead code res := State.replies_of_owner hA (reading accountRead) rfl (congrArg (·, s) h)
    refine ⟨fun hm => hrep (accountRead_outOfRange s (mt machineOk_iff.mp (by omega))),
      fun hlo hhi hn => hrep (accountRead_noAccount (machineOk_iff.mpr ⟨hlo, hhi⟩) hn), fun a hlo hhi ha =>
      ⟨accountView a, hrep (accountRead_found (machineOk_iff.mpr ⟨hlo, hhi⟩) ha), rfl, List.length_map ..,
        fun k e he => ⟨_, _, accountView_due he, rfl, lubeReadItem_flag a e⟩⟩⟩
  · intro c fits
    have hrep {code : Code} {res : Results} (h : accountNext f s = (code, res)) :
        Replies c s s l tag .accountNext code res := State.replies_of_owner hA (reading accountNext) rfl (congrArg (·, s) h)
    have hfits (a : Account) : nextFits f a = true ↔ fits a := by
      refine nextFits_iff.trans (and_congr_right' (and_congr_right' ?_))
      cases f.selection <;> simp [meets, Option.isSome_iff_ne_none]
    refine ⟨fun h => hrep (accountNext_outOfRange s h), fun h hnone => hrep (accountNext_noAccount h
      (List.find?_eq_none.mpr fun a ha => mt (hfits a).mp (hnone a ha))), fun h ⟨_, hasc, _⟩ ⟨a, ha, hfit⟩ => ?_⟩
    obtain ⟨b, hb⟩ := Option.isSome_iff_exists.mp (List.find?_isSome.mpr ⟨a, ha, (hfits a).mpr hfit⟩)
    exact ⟨accountView b, hrep (accountNext_found h hb), List.mem_of_find?_eq_some hb, (hfits b).mp (List.find?_some hb),
      fun x hx hfit => find?_least hasc hb x hx ((hfits x).mpr hfit)⟩

end Sys2Proof.Machine
end

section
/-! SUPPORT. The ledger of places: what law 4 speaks of, and the moves by which places are promised, filled and given up
(R135, R140 to R142). -/

namespace Sys2Proof.Machine

open Sys2Proof.Safety

/-- How many of `n` units have a mark. -/
def marked {n : Nat} (p : Fin n → Bool) : Nat := ((List.finRange n).filter p).length

theorem marked_update_true {n : Nat} {p : Fin n → Bool} {i : Fin n} (hi : p i = false) :
    marked (Function.update p i true) = marked p + 1 := by
  have hnodup := List.nodup_finRange n
  have hperm : ((List.finRange n).filter (Function.update p i true)).Perm (i :: (List.finRange n).filter p) := by
    have hcons : (i :: (List.finRange n).filter p).Nodup := List.nodup_cons.mpr ⟨by simp [hi], hnodup.filter p⟩
    refine (List.perm_ext_iff_of_nodup (hnodup.filter _) hcons).mpr fun j => ?_
    by_cases h : j = i <;> simp [h]
  exact hperm.length_eq

theorem marked_update_false {n : Nat} {p : Fin n → Bool} {i : Fin n} (hi : p i = true) :
    marked p = marked (Function.update p i false) + 1 := by
  rw [← marked_update_true (Function.update_self i false p), Function.update_idem, ← hi, Function.update_eq_self]

/-- How a tank stands in the ledger: its state, and whether a receipt is open. -/
def Tank.standing (k : Tank) : TankState × Bool := (k.state, k.receipt.isSome)

/-- The occupied island slots, the standing of the tanks, and the journal's two counts. -/
structure Ledger where
  orders : IslandNo → Bool
  tanks : TankNo → TankState × Bool
  count : Nat
  reserved : Nat

def State.ledger (s : State) : Ledger where
  orders i := (s.orders.get i).isSome
  tanks k := (s.tanks.get k).standing
  count := s.journal.records.length
  reserved := s.journal.reserved

/-- A tank is RECEIVING. -/
def isReceiving (x : TankState × Bool) : Bool := decide (x.1 = .receiving)

/-- Law 4 in the ledger (R140). -/
def Ledger.Lawful (g : Ledger) : Prop :=
  (∀ k, (g.tanks k).2 = true ↔ (g.tanks k).1 = .receiving)
    ∧ g.reserved = marked g.orders + marked (fun k => isReceiving (g.tanks k))
    ∧ g.count + g.reserved ≤ 64

theorem journalLaw_iff (s : State) : JournalLaw s ↔ s.ledger.Lawful := Iff.rfl

/-! ## The moves -/

namespace Ledger.Lawful

variable {g : Ledger} {i : IslandNo} {k : TankNo}

theorem receiving_update (g : Ledger) (k : TankNo) (x : TankState × Bool) :
    (fun j => isReceiving (Function.update g.tanks k x j))
      = Function.update (fun j => isReceiving (g.tanks j)) k (isReceiving x) :=
  funext fun j => Function.apply_update (fun _ => isReceiving) g.tanks k x j

/-- A tank takes a standing that agrees with itself. -/
theorem standings_update (h : g.Lawful) {x : TankState × Bool} (hx : x.2 = true ↔ x.1 = .receiving) (j : TankNo) :
    (Function.update g.tanks k x j).2 = true ↔ (Function.update g.tanks k x j).1 = .receiving := by
  rw [Function.update_apply]
  split
  · exact hx
  · exact h.1 j

/-- An order takes a free slot and a place (R141). -/
theorem orderAdmitted (h : g.Lawful) (hi : g.orders i = false) (hfree : g.count + g.reserved < 64) :
    Lawful { g with orders := Function.update g.orders i true, reserved := g.reserved + 1 } := by
  obtain ⟨htanks, hsum, hmax⟩ := h
  refine ⟨htanks, ?_, ?_⟩ <;> dsimp only
  · rw [marked_update_true hi]; omega
  · omega

/-- An order gives up its slot and its record fills its place (R25, R141). -/
theorem handOff (h : g.Lawful) (hi : g.orders i = true) :
    Lawful { g with orders := Function.update g.orders i false, count := g.count + 1, reserved := g.reserved - 1 } := by
  obtain ⟨htanks, hsum, hmax⟩ := h
  have := marked_update_false hi
  refine ⟨htanks, ?_, ?_⟩ <;> dsimp only <;> omega

/-- One tank more is RECEIVING. -/
theorem receiving_opened (hk : (g.tanks k).1 ≠ .receiving) :
    marked (fun j => isReceiving (Function.update g.tanks k (.receiving, true) j))
      = marked (fun j => isReceiving (g.tanks j)) + 1 := by
  rw [receiving_update]
  exact marked_update_true (decide_eq_false hk)

/-- One tank less is RECEIVING. -/
theorem receiving_ended (hk : (g.tanks k).1 = .receiving) {x : TankState} (hx : x ≠ .receiving) :
    marked (fun j => isReceiving (g.tanks j)) = marked (fun j => isReceiving (Function.update g.tanks k (x, false) j)) + 1 := by
  rw [receiving_update, show isReceiving (x, false) = false from decide_eq_false hx]
  exact marked_update_false (decide_eq_true hk)

/-- A receipt is opened and takes a place (R101, R141). -/
theorem openReceipt (h : g.Lawful) (hk : (g.tanks k).1 ≠ .receiving) (hfree : g.count + g.reserved < 64) :
    Lawful { g with tanks := Function.update g.tanks k (.receiving, true), reserved := g.reserved + 1 } := by
  obtain ⟨-, hsum, hmax⟩ := id h
  refine ⟨h.standings_update (by decide), ?_, ?_⟩ <;> dsimp only
  · rw [receiving_opened hk]; omega
  · omega

/-- A receipt ends and its record fills its place (R103, R104, R141). -/
theorem endReceipt (h : g.Lawful) (hk : (g.tanks k).1 = .receiving) {x : TankState} (hx : x ≠ .receiving) :
    Lawful { g with tanks := Function.update g.tanks k (x, false), count := g.count + 1, reserved := g.reserved - 1 } := by
  obtain ⟨-, hsum, hmax⟩ := id h
  have := receiving_ended hk hx
  refine ⟨h.standings_update (by simpa using hx), ?_, ?_⟩ <;> dsimp only <;> omega

/-- A tank without a receipt changes its state (R106, R107, R110). -/
theorem setState (h : g.Lawful) (hk : (g.tanks k).1 ≠ .receiving) {x : TankState} (hx : x ≠ .receiving) :
    Lawful { g with tanks := Function.update g.tanks k (x, false) } := by
  obtain ⟨-, hsum, hmax⟩ := id h
  refine ⟨h.standings_update (by simpa using hx), ?_, hmax⟩
  have hsame : isReceiving (x, false) = isReceiving (g.tanks k) := by simp [isReceiving, hk, hx]
  dsimp only
  rw [receiving_update, hsame, Function.update_eq_self k fun j => isReceiving (g.tanks j)]
  exact hsum

/-- A record is written without a promise (R142). -/
theorem write (h : g.Lawful) (hfree : g.count + g.reserved < 64) : Lawful { g with count := g.count + 1 } := by
  obtain ⟨htanks, hsum, -⟩ := h
  exact ⟨htanks, hsum, by dsimp only; omega⟩

/-- Records are released (R145). -/
theorem release (h : g.Lawful) {n : Nat} (hn : n ≤ g.count) : Lawful { g with count := n } := by
  obtain ⟨htanks, hsum, hmax⟩ := h
  exact ⟨htanks, hsum, by dsimp only; omega⟩

/-- The ledger after the loss of what is retained (R193). -/
theorem lost : Lawful { orders := fun _ => false, tanks := fun _ => (.outOfService, false), count := 0, reserved := 0 } := by
  exact ⟨fun _ => by simp, by decide, by decide⟩

end Ledger.Lawful

end Sys2Proof.Machine
end

section
/-! SUPPORT. What each operation does to the ledger of places: a change of one record, the journal, the stock unit, and the work
of the hose channels, which leaves the ledger as it is. One equation for each operation. -/

namespace Sys2Proof.Machine

open Sys2Proof.Safety

section
variable (s : State)

/-- The ledger of a choice of two states. -/
@[simp] theorem State.ite_ledger {p : Prop} [Decidable p] (t u : State) :
    (if p then t else u).ledger = if p then t.ledger else u.ledger := apply_ite State.ledger p t u

/-! ## Changes of one record -/

@[simp] theorem State.modPort_ledger (l f) : (s.modPort l f).ledger = s.ledger := rfl
@[simp] theorem State.modHose_ledger (h f) : (s.modHose h f).ledger = s.ledger := rfl
@[simp] theorem State.modIsland_ledger (i f) : (s.modIsland i f).ledger = s.ledger := rfl
@[simp] theorem State.modShut_ledger (f) : (s.modShut f).ledger = s.ledger := rfl
@[simp] theorem State.setEntry_ledger (o e) : (s.setEntry o e).ledger = s.ledger := rfl
@[simp] theorem State.modSupply_ledger (f) : (s.modSupply f).ledger = s.ledger := rfl
@[simp] theorem State.modPins_ledger (f) : (s.modPins f).ledger = s.ledger := rfl
@[simp] theorem State.modAccount_ledger (m f) : (s.modAccount m f).ledger = s.ledger := rfl
@[simp] theorem State.configure_ledger (f) : (s.configure f).ledger = s.ledger := rfl
@[simp] theorem State.report_ledger (r) : (s.report r).ledger = s.ledger := rfl
@[simp] theorem State.alignOutputs_ledger : s.alignOutputs.ledger = s.ledger := rfl
@[simp] theorem State.answer_ledger (l tag kind a) : (s.answer l tag kind a).ledger = s.ledger := rfl
@[simp] theorem State.setEnds_ledger (l : List EndReport) : State.ledger { s with ends := l } = s.ledger := rfl

@[simp] theorem State.raise_ledger (n) : (s.raise n).ledger = s.ledger := by simp [State.ledger]
@[simp] theorem State.raiseKind_ledger (k) : (s.raiseKind k).ledger = s.ledger := s.raise_ledger _
@[simp] theorem State.raiseAt_ledger (k i) : (s.raiseAt k i).ledger = s.ledger := s.raise_ledger _

@[simp] theorem State.setOrder_ledger (i o) :
    (s.setOrder i o).ledger = { s.ledger with orders := Function.update s.ledger.orders i o.isSome } := by
  unfold State.ledger
  congr 1
  funext j
  rw [State.setOrder_orders, Table.put_get, Function.update_apply]
  split <;> rfl

/-- A change of an order keeps its slot. -/
@[simp] theorem State.modOrder_ledger (i f) : (s.modOrder i f).ledger = s.ledger := by
  have hslot : ((s.orders.get i).map f).isSome = s.ledger.orders i := Option.isSome_map ..
  rw [State.modOrder, State.setOrder_ledger, hslot, Function.update_eq_self]

@[simp] theorem State.modStep_ledger (r f) : (s.modStep r f).ledger = s.ledger := s.modOrder_ledger _ _

/-! ## Tanks -/

/-- The standings of a table of tanks with one tank changed. -/
theorem standing_modify (tanks : Table Tank 10) (k : TankNo) (f : Tank → Tank) :
    (fun j => ((tanks.modify k f).get j).standing)
      = Function.update (fun j => (tanks.get j).standing) k (f (tanks.get k)).standing := by
  funext j
  rw [Table.modify_get, Function.update_apply]
  split <;> rfl

theorem State.modTank_ledger (k f) : (s.modTank k f).ledger
    = { s.ledger with tanks := Function.update s.ledger.tanks k (f (s.tanks.get k)).standing } :=
  congrArg (fun x => ({ s.ledger with tanks := x } : Ledger)) (standing_modify s.tanks k f)

/-- A change of a tank that keeps its standing. -/
theorem State.modTank_ledger_same (k : TankNo) {f : Tank → Tank}
    (hf : (f (s.tanks.get k)).standing = (s.tanks.get k).standing) : (s.modTank k f).ledger = s.ledger := by
  rw [State.modTank_ledger, hf]
  exact congrArg (fun x => ({ s.ledger with tanks := x } : Ledger)) (Function.update_eq_self k s.ledger.tanks)

theorem Tank.leakRest_standing (quiet : Nat) (k : Tank) : (k.leakRest quiet).standing = k.standing := by
  unfold Tank.leakRest; split <;> rfl

theorem Tank.leakRestart_standing (quiet : Nat) (k : Tank) : (k.leakRestart quiet).standing = k.standing := by
  unfold Tank.leakRestart; split <;> rfl

theorem Tank.addToBook_standing (x : Int) (k : Tank) : (k.addToBook x).standing = k.standing := by
  unfold Tank.addToBook; split
  · rfl
  · split <;> rfl

theorem Tank.addDrawn_standing (x : Nat) (k : Tank) : (k.addDrawn x).standing = k.standing :=
  congrArg (Prod.mk k.state) Option.isSome_map

theorem Tank.afterEnd_standing (kind : StepKind) (target net quiet : Nat) (k : Tank) :
    (k.afterEnd kind target net quiet).standing = k.standing := by
  have hbook (x : Int) : (({ k with reserved := k.reserved - target } : Tank).addToBook x).standing = k.standing :=
    Tank.addToBook_standing _ _
  refine (Tank.leakRest_standing _ _).trans ?_
  split
  · exact (Tank.addDrawn_standing _ _).trans (hbook _)
  · exact hbook _

theorem Tank.afterStray_standing (charge quiet : Nat) (k : Tank) : (k.afterStray charge quiet).standing = k.standing :=
  (Tank.leakRestart_standing _ _).trans ((Tank.addDrawn_standing _ _).trans (Tank.addToBook_standing _ k))

theorem Tank.leakReading_standing (threshold quiet net : Nat) (k : Tank) :
    (k.leakReading threshold quiet net).1.standing = k.standing := by
  unfold Tank.leakReading
  split
  · split
    · rfl
    · split <;> rfl
  · rfl

theorem Tank.restarted_standing (strapped : Bool) (c : TankCfg) (k : Tank) :
    (k.restarted strapped c).standing = k.standing := by
  unfold Tank.restarted
  dsimp only
  split <;> split <;> rfl

/-! ## The journal, the stock unit and the account unit -/

@[simp] theorem State.journalLowTest_ledger (n) : (s.journalLowTest n).ledger = s.ledger := by simp [State.journalLowTest]
@[simp] theorem State.journalWaitingTest_ledger (n) : (s.journalWaitingTest n).ledger = s.ledger := by
  simp [State.journalWaitingTest]
@[simp] theorem State.lowTest_ledger (a b) : (s.lowTest a b).ledger = s.ledger := by simp [State.lowTest]

/-- A place is promised (R140). -/
theorem State.journalReserve_ledger : s.journalReserve.ledger = { s.ledger with reserved := s.ledger.reserved + 1 } :=
  State.journalLowTest_ledger _ _

/-- A record fills a promised place (R141). -/
theorem State.writeReserved_ledger (c b) : (s.writeReserved c b).2.ledger
    = { s.ledger with count := s.ledger.count + 1, reserved := s.ledger.reserved - 1 } := by
  refine (State.journalWaitingTest_ledger _ _).trans ?_
  simp [State.ledger, Journal.append]

theorem State.changeStock_ledger (k f) : (s.changeStock k f).ledger = (s.modTank k f).ledger := State.lowTest_ledger ..

@[simp] theorem State.grant_ledger (k q) : (s.grant k q).ledger = s.ledger := by
  refine (s.changeStock_ledger _ _).trans (s.modTank_ledger_same k ?_)
  dsimp only
  split <;> rfl

@[simp] theorem State.chargeEnd_ledger (st x n) : (s.chargeEnd st x n).ledger = s.ledger :=
  (s.changeStock_ledger _ _).trans (s.modTank_ledger_same _ (Tank.afterEnd_standing ..))

@[simp] theorem State.chargeStray_ledger (k n) : (s.chargeStray k n).ledger = s.ledger :=
  (s.changeStock_ledger _ _).trans (s.modTank_ledger_same _ (Tank.afterStray_standing ..))

@[simp] theorem State.openAccount_ledger (i m h) : (s.openAccount i m h).ledger = s.ledger := by simp [State.openAccount]
@[simp] theorem State.takeSummary_ledger (m) : (s.takeSummary m).ledger = s.ledger := by simp [State.takeSummary]

/-- The end of a receipt (R103, R104). -/
theorem State.endReceipt_ledger (k r b) : (s.endReceipt k r b).2.ledger
    = { s.ledger with
        tanks := Function.update s.ledger.tanks k ((s.tanks.get k).state, false)
        count := s.ledger.count + 1
        reserved := s.ledger.reserved - 1 } := by
  have htanks : (s.writeReserved (s.receiptClockNotSet r) b).2.tanks = s.tanks := by rw [State.writeReserved_eq]
  refine (State.modTank_ledger _ _ _).trans ?_
  rw [State.writeReserved_ledger, htanks]
  rfl

/-! ## Metering and gauging -/

@[simp] theorem State.gaugeTemp_ledger (k x) : (s.gaugeTemp k x).ledger = s.ledger := by
  refine foldl_keeps _ State.ledger (fun s h => ?_) _ s
  unfold State.gaugeTempAt
  split <;> simp

@[simp] theorem State.probe_ledger (h r) : (s.probe h r).ledger = s.ledger := by
  unfold State.probe
  cases r <;> dsimp only <;> split <;> simp

@[simp] theorem State.gaugeFault_ledger (k) : (s.gaugeFault k).ledger = s.ledger := by
  have hmod := s.modTank_ledger_same k
    (f := fun k => { k with gauge := { k.gauge with valid := false, faultCondition := true } }) rfl
  simp [State.gaugeFault, hmod]

@[simp] theorem State.gaugeFaulty_ledger (k) : (s.gaugeFaulty k).ledger = s.ledger := by
  have hmod (n : Nat) := s.modTank_ledger_same k (f := fun k => { k with gauge := { k.gauge with faults := n } }) rfl
  simp [State.gaugeFaulty, hmod]

@[simp] theorem State.gaugeStale_ledger (k) : (s.gaugeStale k).ledger = s.ledger := by
  have hmod := s.modTank_ledger_same k (f := fun k => { k with staleTimer := none }) rfl
  simp [State.gaugeStale, hmod]

@[simp] theorem State.gaugeValid_ledger (k l x) : (s.gaugeValid k l x).ledger = s.ledger := by
  have hread (u : State) (a b c : Nat) : (u.modTank k fun _ => ((u.tanks.get k).leakReading a b c).1).ledger = u.ledger :=
    u.modTank_ledger_same k (Tank.leakReading_standing ..)
  have hgauge (g : Gauge) (n : Timer) := s.modTank_ledger_same k (f := fun k => { k with gauge := g, staleTimer := n }) rfl
  simp [State.gaugeValid, hread, hgauge]

@[simp] theorem State.probeLevel_ledger (k b) : (s.probeLevel k b).ledger = s.ledger := by
  have hmod := s.modTank_ledger_same k (f := fun k => { k with probe := b }) rfl
  simp [State.probeLevel, hmod]

@[simp] theorem State.leakQuiet_ledger (k) : (s.leakQuiet k).ledger = s.ledger := by
  have hmod := s.modTank_ledger_same k (f := fun k => { k with leak := .quiet, quietTimer := none, baseline := none }) rfl
  simp [State.leakQuiet, hmod]

/-! ## Hose channels -/

@[simp] theorem State.sendEnd_ledger (st rep) : (s.sendEnd st rep).ledger = s.ledger :=
  s.chargeEnd_ledger st rep.target rep.figures.net
@[simp] theorem State.endWaiting_ledger (r st e c) : (s.endWaiting r st e c).ledger = s.ledger := s.sendEnd_ledger _ _
@[simp] theorem State.resetStep_ledger (r st) : (s.resetStep r st).ledger = s.ledger := s.sendEnd_ledger _ _

@[simp] theorem State.runOnCheck_ledger (r) : (s.runOnCheck r).ledger = s.ledger := by
  unfold State.runOnCheck
  split <;> simp

@[simp] theorem State.settle_ledger (r st e c) : (s.settle r st e c).ledger = s.ledger := by simp [State.settle]
@[simp] theorem State.enterRunning_ledger (r st) : (s.enterRunning r st).ledger = s.ledger := by simp [State.enterRunning]

@[simp] theorem State.applyClaim_ledger (r st d w a) : (s.applyClaim r st d w a).ledger = s.ledger := by
  cases a <;> simp [State.applyClaim]

@[simp] theorem State.claim_ledger (r st) : (s.claim r st).ledger = s.ledger := by
  unfold State.claim
  split <;> simp

@[simp] theorem State.tryClaim_ledger (h) : (s.tryClaim h).ledger = s.ledger := by
  unfold State.tryClaim
  split <;> simp

@[simp] theorem State.startStep_ledger (r st) : (s.startStep r st).ledger = s.ledger := by simp [State.startStep]

@[simp] theorem State.coupleWait_ledger (h) : (s.coupleWait h).ledger = s.ledger := by
  unfold State.coupleWait
  split <;> simp

@[simp] theorem State.couple_ledger (h) : (s.couple h).ledger = s.ledger := by simp [State.couple]

@[simp] theorem State.uncouple_ledger (h) : (s.uncouple h).ledger = s.ledger := by
  unfold State.uncouple
  dsimp only
  split <;> simp

@[simp] theorem State.runningPulse_ledger (r st) : (s.runningPulse r st).ledger = s.ledger := by simp [State.runningPulse]
@[simp] theorem State.meteredPulse_ledger (r st) : (s.meteredPulse r st).ledger = s.ledger := by simp [State.meteredPulse]

@[simp] theorem State.priceStray_ledger (h) : (s.priceStray h).ledger = s.ledger := by
  unfold State.priceStray
  dsimp only
  split <;> simp

@[simp] theorem State.strayPulse_ledger (h) : (s.strayPulse h).ledger = s.ledger := by simp [State.strayPulse]

@[simp] theorem State.pulse_ledger (h) : (s.pulse h).ledger = s.ledger := by
  unfold State.pulse
  split <;> simp

@[simp] theorem State.stall_ledger (h) : (s.stall h).ledger = s.ledger := by
  unfold State.stall
  split <;> simp

@[simp] theorem State.rateWindow_ledger (h) : (s.rateWindow h).ledger = s.ledger := by
  unfold State.rateWindow
  split <;> simp

@[simp] theorem State.settleEnd_ledger (h) : (s.settleEnd h).ledger = s.ledger := by
  unfold State.settleEnd
  split <;> simp

@[simp] theorem State.strayQuiet_ledger (h) : (s.strayQuiet h).ledger = s.ledger := by simp [State.strayQuiet]
@[simp] theorem State.suspend_ledger (r st x) : (s.suspend r st x).ledger = s.ledger := by simp [State.suspend]

theorem State.leavingAt_ledger (h) : (s.leavingAt h).ledger = s.ledger := by
  unfold State.leavingAt
  split <;> simp

theorem State.presentAt_ledger (h) : (s.presentAt h).ledger = s.ledger := by
  unfold State.presentAt
  split
  · rfl
  · split
    · simp
    · split
      · split <;> simp
      · rfl

theorem State.warnedAt_ledger (h) : (s.warnedAt h).ledger = s.ledger := by
  unfold State.warnedAt
  split <;> simp

@[simp] theorem State.rewait_ledger (r st) : (s.rewait r st).ledger = s.ledger := by simp [State.rewait]

@[simp] theorem State.resumeStep_ledger (r st) : (s.resumeStep r st).ledger = s.ledger := by
  unfold State.resumeStep
  split
  · simp
  · split <;> simp

@[simp] theorem State.closeStep_ledger (r st e) : (s.closeStep r st e).ledger = s.ledger := by simp [State.closeStep]
@[simp] theorem State.tripStep_ledger (r st c) : (s.tripStep r st c).ledger = s.ledger := by simp [State.tripStep]

theorem State.resetAt_ledger (r) : (s.resetAt r).ledger = s.ledger := by
  unfold State.resetAt
  split
  · rfl
  · simp [State.resetOne]

/-! ## What the order unit, the presence monitor and the shutdown unit tell the channels to do -/

@[simp] theorem State.startOne_ledger (p) : (s.startOne p).ledger = s.ledger := by
  unfold State.startOne
  split <;> simp

@[simp] theorem State.resumeOrder_ledger (i) : (s.resumeOrder i).ledger = s.ledger :=
  foldl_keeps _ State.ledger (fun _ _ => by simp) _ s
@[simp] theorem State.closeSteps_ledger (i f) : (s.closeSteps i f).ledger = s.ledger :=
  foldl_keeps _ State.ledger (fun _ _ => by simp) _ s

theorem State.warnOrder_ledger (i) : (s.warnOrder i).ledger = s.ledger := by
  unfold State.warnOrder
  split <;> simp

theorem State.tripOrders_ledger (o) : (s.tripOrders o).ledger = s.ledger := by
  cases o with
  | bay => exact foldl_keeps _ State.ledger (fun s i => s.modOrder_ledger i _) _ s
  | island i => exact s.modOrder_ledger i _
  | tank | hose => rfl

theorem State.tripHoseAt_ledger (o c h) : (State.tripHoseAt o c s h).ledger = s.ledger := by
  unfold State.tripHoseAt
  split <;> simp

@[simp] theorem State.setPresence_ledger (i p n) : (s.setPresence i p n).ledger = s.ledger := rfl

@[simp] theorem State.enterLeaving_ledger (i) : (s.enterLeaving i).ledger = s.ledger :=
  foldl_keeps _ State.ledger State.leavingAt_ledger _ _

@[simp] theorem State.detectorOff_ledger (i) : (s.detectorOff i).ledger = s.ledger := by
  unfold State.detectorOff
  dsimp only
  split <;> simp

@[simp] theorem State.floatLevel_ledger (i b) : (s.floatLevel i b).ledger = s.ledger := by simp [State.floatLevel]

end

end Sys2Proof.Machine
end

section
/-! SUPPORT. Work in which an order or a receipt may end keeps law 4: the order unit, the shutdown unit and the presence monitor
(R25, R140). -/

namespace Sys2Proof.Machine

open Sys2Proof.Safety

/-- Law 4 passes from `s` to `t`. -/
def JournalKept (s t : State) : Prop := JournalLaw s → JournalLaw t

section
variable {s t u : State}

/-- What leaves the ledger as it is keeps law 4. -/
theorem JournalKept.same (h : t.ledger = s.ledger) : JournalKept s t := by
  rw [JournalKept, journalLaw_iff, journalLaw_iff, h]
  exact id

/-- What takes the ledger to a lawful one keeps law 4. -/
theorem JournalKept.of_ledger {g : Ledger} (h : t.ledger = g) (hg : s.ledger.Lawful → g.Lawful) : JournalKept s t := by
  rw [JournalKept, journalLaw_iff, journalLaw_iff, h]
  exact hg

theorem JournalKept.refl (s : State) : JournalKept s s := id

theorem JournalKept.trans (h : JournalKept s t) (k : JournalKept t u) : JournalKept s u := k ∘ h

/-- Work after which the ledger is as another state has it. -/
theorem JournalKept.thenSame (h : JournalKept s t) (hu : u.ledger = t.ledger) : JournalKept s u := h.trans (.same hu)

/-- Work before which the ledger is as another state has it. -/
theorem JournalKept.afterSame (ht : t.ledger = s.ledger) (h : JournalKept t u) : JournalKept s u := (JournalKept.same ht).trans h

theorem JournalKept.ite {p : Prop} [Decidable p] (h : JournalKept s t) (k : JournalKept s u) :
    JournalKept s (if p then t else u) := by
  split <;> assumption

theorem JournalKept.iteAfter {p : Prop} [Decidable p] (h : JournalKept s t) : JournalKept s (if p then t else s) :=
  h.ite (.refl s)

theorem JournalKept.foldl {α : Type} {f : State → α → State} (h : ∀ s a, JournalKept s (f s a)) (l : List α) :
    ∀ s, JournalKept s (l.foldl f s) := by
  induction l with
  | nil => exact fun s => .refl s
  | cons a l ih => exact fun s => (h s a).trans (ih _)

end

section
variable (s : State)

/-! ## The end of an order (R24, R25) -/

theorem State.handOff_ledger (i o e) : (s.handOff i o e).ledger
    = { s.ledger with
        orders := Function.update s.ledger.orders i false
        count := s.ledger.count + 1
        reserved := s.ledger.reserved - 1 } := by
  simp [State.handOff, State.writeReserved_ledger]

theorem State.handOff_journalKept {i : IslandNo} {o : Order} (ho : s.orders.get i = some o) (p e) :
    JournalKept s (s.handOff i p e) :=
  .of_ledger (s.handOff_ledger i p e) fun h => h.handOff (Option.isSome_of_eq_some ho)

theorem State.endOrder_journalKept (i) : JournalKept s (s.endOrder i) := by
  unfold State.endOrder
  split
  · exact .refl s
  · next ho => exact s.handOff_journalKept ho _ _

theorem State.endIfDone_journalKept (i) : JournalKept s (s.endIfDone i) := by
  unfold State.endIfDone
  split
  · exact .refl s
  · exact (s.endOrder_journalKept i).iteAfter

theorem State.resetHandOff_journalKept (i) : JournalKept s (s.resetHandOff i) := by
  refine .afterSame (s.modOrder_ledger i Order.dropPending) ?_
  unfold State.resetHandOff
  dsimp only
  split
  · exact .refl _
  · next ho => exact State.handOff_journalKept _ ho _ _

/-! ## Groups and the course of an order (R9 to R13, R16) -/

theorem State.stopOnError_journalKept (i) : JournalKept s (s.stopOnError i) :=
  .afterSame (s.modOrder_ledger i _) (State.endIfDone_journalKept _ i)

theorem State.startGroup_journalKept (i g m) : JournalKept s (s.startGroup i g m).1 := by
  have hstart : JournalKept s (m.foldl State.startOne (s.modOrder i fun o => { o with group := g })) :=
    .same ((foldl_keeps _ State.ledger State.startOne_ledger m _).trans (s.modOrder_ledger i _))
  dsimp only [State.startGroup]
  split
  · exact hstart.trans (State.stopOnError_journalKept _ i)
  · exact hstart

theorem State.tryStart_journalKept (n : Nat) : ∀ (s : State) (i), JournalKept s (State.tryStart n s i) := by
  induction n with
  | zero => exact fun s _ => .refl s
  | succ n ih =>
    intro s i
    unfold State.tryStart
    split
    · exact .refl s
    · split
      · exact .refl s
      · refine JournalKept.iteAfter (JournalKept.ite (.same (by simp)) ?_)
        refine (s.startGroup_journalKept _ _ _).trans (JournalKept.iteAfter ?_)
        split
        · exact .refl _
        · exact JournalKept.ite (ih _ _) (State.endOrder_journalKept _ _)

theorem State.nextGroup_journalKept (i) : JournalKept s (s.nextGroup i) := State.tryStart_journalKept 8 s i

theorem State.startIfIdle_journalKept (i) : JournalKept s (s.startIfIdle i) := by
  unfold State.startIfIdle
  split
  · exact .refl s
  · exact JournalKept.ite (.refl s) (s.nextGroup_journalKept i)

theorem State.completeHold_journalKept (i) : JournalKept s (s.completeHold i) := by
  unfold State.completeHold
  split
  · exact .refl s
  · exact JournalKept.ite (.same (by simp)) (.afterSame (s.modOrder_ledger i _) (State.endOrder_journalKept _ i))

theorem State.course_journalKept (i b) : JournalKept s (s.course i b) := by
  unfold State.course
  split
  · exact .refl s
  · exact (s.stopOnError_journalKept i).ite ((s.completeHold_journalKept i).ite ((s.endIfDone_journalKept i).ite
      (JournalKept.iteAfter ((s.nextGroup_journalKept i).ite (s.endOrder_journalKept i)))))

/-! ## The step end reports (R12, R49) -/

theorem State.takeEnd_journalKept (e) : JournalKept s (s.takeEnd e) := by
  unfold State.takeEnd
  split
  · exact .refl s
  · exact .afterSame (by simp) (State.course_journalKept _ _ _)

theorem State.takeEnds_journalKept (n : Nat) : ∀ s : State, JournalKept s (State.takeEnds n s) := by
  induction n with
  | zero => exact fun s => .same (s.setEnds_ledger [])
  | succ n ih =>
    intro s
    unfold State.takeEnds
    split
    · exact .refl s
    · exact .afterSame (s.setEnds_ledger _) ((State.takeEnd_journalKept _ _).trans (ih _))

theorem State.drain_journalKept : JournalKept s s.drain := State.takeEnds_journalKept 64 s

/-- A command that can move valves ends (R49, R159). -/
theorem JournalKept.settleAll {s t : State} (h : JournalKept s t) : JournalKept s t.settleAll :=
  (h.trans t.drain_journalKept).thenSame (State.alignOutputs_ledger _)

/-- A command ends with an order's end when nothing keeps it alive (R18, R24). -/
theorem JournalKept.endIfDone {s t : State} (h : JournalKept s t) (i : IslandNo) :
    JournalKept s (t.drain.endIfDone i).alignOutputs :=
  ((h.trans t.drain_journalKept).trans (State.endIfDone_journalKept _ i)).thenSame (State.alignOutputs_ledger _)

/-! ## Departures, trips and the presence monitor (R22, R23, R75 to R79, R155) -/

theorem State.departure_journalKept (i) : JournalKept s (s.departure i) := by
  unfold State.departure
  split
  · exact .refl s
  · exact .afterSame (by simp) ((State.drain_journalKept _).trans (State.endIfDone_journalKept _ i))

theorem State.endDone_journalKept : JournalKept s s.endDone := JournalKept.foldl State.endIfDone_journalKept _ s

theorem State.tripClosed_ledger (r) : (s.tripClosed r).ledger = s.ledger := by
  refine (State.raiseKind_ledger _ _).trans ((State.alignOutputs_ledger _).trans ?_)
  exact (foldl_keeps _ State.ledger (fun s h => s.tripHoseAt_ledger _ _ h) _ _).trans
    ((State.tripOrders_ledger _ _).trans (s.setEntry_ledger _ _))

theorem State.trip_journalKept (r) : JournalKept s (s.trip r) :=
  .afterSame (s.tripClosed_ledger r) (((State.drain_journalKept _).trans (State.endDone_journalKept _)).thenSame
    (State.alignOutputs_ledger _))

theorem State.applyReport_journalKept (r) : JournalKept s (s.applyReport r) := by
  unfold State.applyReport
  dsimp only
  split
  · exact .refl s
  · exact .same (by simp)
  · split
    · exact .same (s.setEntry_ledger _ _)
    · exact s.trip_journalKept r

theorem State.enterPresent_journalKept (i) : JournalKept s (s.enterPresent i) := by
  refine .afterSame (t := (s.islandHoses i).foldl State.presentAt (s.setPresence i .present none)) ?_
    ((State.drain_journalKept _).trans (State.nextGroup_journalKept _ i))
  exact foldl_keeps _ State.ledger State.presentAt_ledger _ _

theorem State.detectorOn_journalKept (i) : JournalKept s (s.detectorOn i) := by
  refine .afterSame (s.modIsland_ledger i fun k => { k with level := true }) ?_
  unfold State.detectorOn
  dsimp only
  split
  · exact .same (State.setPresence_ledger _ _ _ _)
  · exact State.enterPresent_journalKept _ i
  · exact .refl _
  · exact .refl _

theorem State.arrivalExpiry_journalKept (i) : JournalKept s (s.arrivalExpiry i) := by
  unfold State.arrivalExpiry
  exact (s.enterPresent_journalKept i).iteAfter

theorem State.leavingExpiry_journalKept (i) : JournalKept s (s.leavingExpiry i) := by
  unfold State.leavingExpiry
  exact JournalKept.iteAfter (.afterSame (s.setPresence_ledger i .absent none) (State.departure_journalKept _ i))

theorem State.stopLevel_journalKept (b) : JournalKept s (s.stopLevel b) :=
  .afterSame (s.modShut_ledger _) (State.applyReport_journalKept _ _).iteAfter

end

end Sys2Proof.Machine
end

section
/-! SUPPORT. The owners of the requests and law 4: those that leave the ledger of places as it is, and those by which a place is
promised, filled or given up (R101 to R107, R140 to R145, R176). -/

namespace Sys2Proof.Machine

open Sys2Proof.Safety

section
variable {s : State}

/-! ## Owners that leave the ledger as it is -/

theorem withOrder_ledger (n : Nat) {act : IslandNo → Order → Answer × State} (h : ∀ i o, (act i o).2.ledger = s.ledger) :
    (withOrder s n act).2.ledger = s.ledger := by
  unfold withOrder
  split
  · rfl
  · split
    · rfl
    · exact h _ _

theorem orderHold_ledger (n) (s : State) : (orderHold n s).2.ledger = s.ledger := by
  refine withOrder_ledger n fun i o => ?_
  split
  · split
    · exact s.modOrder_ledger i _
    · exact (State.raiseAt_ledger _ _ _).trans (s.modOrder_ledger i _)
  · rfl

theorem shutdownClear_ledger (o) (s : State) : (shutdownClear o s).2.ledger = s.ledger := by
  unfold shutdownClear
  split
  · rfl
  · split <;> rfl

theorem hoseSet_ledger (f) (s : State) : (hoseSet f s).2.ledger = s.ledger := by
  unfold hoseSet
  split
  · rfl
  · split <;> rfl

theorem islandSetRequest_ledger (f) (s : State) : (islandSetRequest f s).2.ledger = s.ledger := by
  unfold islandSetRequest
  split
  · rfl
  · split <;> rfl

theorem fluidSet_ledger (f) (s : State) : (fluidSet f s).2.ledger = s.ledger := by
  unfold fluidSet
  split
  · rfl
  · split
    · rfl
    · dsimp only
      split
      · rfl
      · refine (foldl_keeps _ State.ledger (fun u k => ?_) allTanks _).trans (s.configure_ledger _)
        simp [State.modTank_ledger_same u k (Tank.leakRestart_standing _ _)]

theorem strapLoad_ledger (f) (s : State) : (strapLoad f s).2.ledger = s.ledger := by
  unfold strapLoad
  split
  · rfl
  · split
    · rfl
    · refine (State.modTank_ledger_same _ _ ?_).trans (s.configure_ledger _)
      dsimp only
      split
      · exact Tank.leakRestart_standing _ _
      · exact Tank.leakRestart_standing _ _

theorem causeSet_ledger (f) (s : State) : (causeSet f s).2.ledger = s.ledger := by
  unfold causeSet
  split <;> rfl

theorem accountLimitsSet_ledger (f) (s : State) : (accountLimitsSet f s).2.ledger = s.ledger := by
  unfold accountLimitsSet
  split <;> rfl

theorem clockSet_ledger (n) (s : State) : (clockSet n s).2.ledger = s.ledger := by
  unfold clockSet
  split <;> rfl

theorem settingsSave_ledger (u) (s : State) : (settingsSave u s).2.ledger = s.ledger := by
  unfold settingsSave
  split <;> rfl

theorem linkSet_ledger (f) (s : State) : (linkSet f s).2.ledger = s.ledger := by
  unfold linkSet
  split
  · rfl
  · dsimp only
    split <;> rfl

theorem noticeMaskSet_ledger (l f) (s : State) : (noticeMaskSet l f s).2.ledger = s.ledger := by
  unfold noticeMaskSet
  split <;> rfl

theorem withAccount_ledger (m : Nat) (ok idle : Bool) {act : Account → Answer × State}
    (h : ∀ a, (act a).2.ledger = s.ledger) : (withAccount s m ok idle act).2.ledger = s.ledger := by
  unfold withAccount
  split
  · rfl
  · split
    · rfl
    · split
      · rfl
      · exact h _

theorem accountCreate_ledger (f) (s : State) : (accountCreate f s).2.ledger = s.ledger := by
  unfold accountCreate
  split <;> rfl

theorem accountEdit_ledger (f) (s : State) : (accountEdit f s).2.ledger = s.ledger := withAccount_ledger _ _ _ fun _ => rfl
theorem accountDelete_ledger (m) (s : State) : (accountDelete m s).2.ledger = s.ledger := withAccount_ledger _ _ _ fun _ => rfl

theorem accountBlock_ledger (m) (s : State) : (accountBlock m s).2.ledger = s.ledger :=
  withAccount_ledger _ _ _ fun _ => by split <;> rfl

theorem accountUnblock_ledger (m) (s : State) : (accountUnblock m s).2.ledger = s.ledger :=
  withAccount_ledger _ _ _ fun _ => by split <;> rfl

theorem hoursConfirm_ledger (m) (s : State) : (hoursConfirm m s).2.ledger = s.ledger :=
  withAccount_ledger _ _ _ fun _ => by split <;> rfl

theorem hoursRebase_ledger (f) (s : State) : (hoursRebase f s).2.ledger = s.ledger := by
  unfold hoursRebase
  split
  · rfl
  · exact withAccount_ledger _ _ _ fun _ => rfl

theorem lubeSet_ledger (f) (s : State) : (lubeSet f s).2.ledger = s.ledger := by
  rw [lubeSet_eq]
  split
  · rfl
  · exact withAccount_ledger _ _ _ fun _ => rfl

/-! ## Orders (R6, R14 to R19) -/

theorem withOrder_journalKept (n : Nat) {act : IslandNo → Order → Answer × State} (h : ∀ i o, JournalKept s (act i o).2) :
    JournalKept s (withOrder s n act).2 := by
  unfold withOrder
  split
  · exact .refl s
  · split
    · exact .refl s
    · exact h _ _

/-- What the checks of R3 have found of the slot and the places when they accept. -/
theorem admissionChecks_room {f : AdmitFields} {i : IslandNo} {steps : List Step} (h : admissionChecks f s = .ok (i, steps)) :
    (s.orders.get i).isNone = true ∧ s.journal.records.length + s.journal.reserved < 64 := by
  unfold admissionChecks at h
  split at h
  · cases h
  split at h
  · cases h
  next hisland =>
  split at h
  · cases h
  split at h
  · cases h
  split at h
  · cases h
  split at h
  · cases h
  next hlast =>
  obtain ⟨rfl, rfl⟩ := Prod.mk.inj (Except.ok.inj h)
  simp only [firstFail_eq_none, List.forall_mem_cons] at hisland hlast
  obtain ⟨-, -, -, hslot, -⟩ := hisland
  obtain ⟨-, -, hfree, -⟩ := hlast
  exact ⟨hslot, (Journal.free_pos_iff _).mp hfree⟩

/-- An admission takes the slot and a place (R6, R141). -/
theorem State.createOrder_journalKept {f : AdmitFields} {i : IslandNo} {steps : List Step}
    (h : admissionChecks f s = .ok (i, steps)) : JournalKept s (s.createOrder f i steps) := by
  obtain ⟨hslot, hfree⟩ := admissionChecks_room h
  have hledger : (s.createOrder f i steps).ledger = { s.ledger with
      orders := Function.update s.ledger.orders i true
      reserved := s.ledger.reserved + 1 } := by
    refine (State.journalReserve_ledger _).trans ?_
    rw [State.openAccount_ledger, State.setOrder_ledger]
    rfl
  exact .of_ledger hledger fun hg => hg.orderAdmitted (Option.isSome_eq_false_iff.mpr hslot) hfree

theorem orderAdmit_journalKept (f) (s : State) : JournalKept s (orderAdmit f s).2 := by
  unfold orderAdmit
  split
  · exact .refl s
  · next h => exact ((State.createOrder_journalKept h).trans (State.nextGroup_journalKept _ _)).settleAll

theorem orderContinue_journalKept (n) (s : State) : JournalKept s (orderContinue n s).2 := by
  refine withOrder_journalKept n fun i o => ?_
  have hcontinued : ((s.modOrder i Order.continued).resumeOrder i).ledger = s.ledger := by simp
  dsimp only
  split
  · split
    · exact (JournalKept.afterSame hcontinued (State.startIfIdle_journalKept _ i)).endIfDone i
    · exact .refl s
  · exact (JournalKept.afterSame (s.modOrder_ledger i _) (State.nextGroup_journalKept _ i)).settleAll
  · exact .refl s
  · exact .same (s.modOrder_ledger i _)
  · split
    · split
      · exact (JournalKept.same (s.resumeOrder_ledger i)).settleAll
      · exact .refl s
    · exact .refl s
  · exact .refl s

theorem orderCancel_journalKept (n) (s : State) : JournalKept s (orderCancel n s).2 := by
  refine withOrder_journalKept n fun i o => ?_
  split
  · exact .refl s
  · exact (JournalKept.same (by simp)).endIfDone i

theorem stepStop_journalKept (f) (s : State) : JournalKept s (stepStop f s).2 := by
  unfold stepStop
  split
  · exact .refl s
  · split
    · exact .refl s
    · split
      · exact .refl s
      · dsimp only
        split
        · exact .refl s
        · split
          · exact (JournalKept.same (s.closeStep_ledger _ _ _)).settleAll
          · exact .refl s

/-! ## Trips (R163, R164) -/

theorem tripRequest_journalKept (r) (s : State) : JournalKept s (tripRequest r s).2 := by
  unfold tripRequest
  dsimp only
  split <;> exact s.applyReport_journalKept r

theorem tripIsland_journalKept (l n) (s : State) : JournalKept s (tripIsland l n s).2 := by
  unfold tripIsland
  split
  · exact .refl s
  · exact tripRequest_journalKept _ s

theorem tripTank_journalKept (l n) (s : State) : JournalKept s (tripTank l n s).2 := by
  unfold tripTank
  split
  · exact .refl s
  · exact tripRequest_journalKept _ s

theorem tripHose_journalKept (l n) (s : State) : JournalKept s (tripHose l n s).2 := by
  unfold tripHose
  split
  · exact .refl s
  · exact tripRequest_journalKept _ s

/-! ## Receipts (R101, R103, R104) -/

theorem withStock_ledger (tanks : Table Tank 10) (j : Journal) (ns : List Notice) : (withStock s tanks j ns).ledger
    = { s.ledger with
        tanks := fun k => (tanks.get k).standing
        count := j.records.length
        reserved := j.reserved } := rfl

theorem withRecord_length (j : Journal) (c : Bool) (b : RecordBody) (n : Nat) :
    (withRecord j c b n).records.length = j.records.length + 1 := List.length_append

theorem watchRested_standing (quiet : Nat) (k : Tank) : (watchRested quiet k).standing = k.standing := by
  unfold watchRested
  split <;> rfl

/-- A record in the place of an open receipt, whose tank is RECEIVING no more (R141). -/
theorem JournalKept.receiptEnded {k : TankNo} (hk : (s.tanks.get k).state = .receiving) {f : Tank → Tank}
    (hf : (f (s.tanks.get k)).standing = (.inService, false)) (c : Bool) (b : RecordBody) (ns : List Notice) :
    JournalKept s (withStock s (s.tanks.modify k f) (withRecord s.journal c b 1) ns) := by
  refine .of_ledger ?_ fun hg => hg.endReceipt (k := k) hk (x := .inService) (by decide)
  rw [withStock_ledger, standing_modify, hf, withRecord_length]
  rfl

theorem receiptOpen_journalKept (n) (s : State) : JournalKept s (receiptOpen n s).2 := by
  cases hn : tankOf n with
  | none => rw [receiptOpen, hn]; exact .refl s
  | some k =>
    obtain rfl := unitOf_eq_some.mp hn
    cases hchecks : firstFail (openChecks s k) with
    | some c => rw [receiptOpen_refused hchecks]; exact .refl s
    | none =>
      have hpassed := (firstFail_eq_none _).mp hchecks
      simp only [openChecks, List.forall_mem_cons, Journal.free_pos_iff] at hpassed
      obtain ⟨hready, -, -, hfree, -⟩ := hpassed
      obtain ⟨-, hidle⟩ := of_decide_eq_true hready
      rw [receiptOpen_taken hchecks hfree]
      refine .of_ledger ?_ fun hg => hg.openReceipt (k := k) (fun hr => nomatch hidle.symm.trans hr) hfree
      rw [withStock_ledger, standing_modify]
      rfl

theorem receiptClose_journalKept (f) (s : State) : JournalKept s (receiptClose f s).2 := by
  cases hk : tankOf f.tank with
  | none => rw [receiptClose, hk]; exact .refl s
  | some k =>
    have hk := unitOf_eq_some.mp hk
    by_cases hd : docketOk f.docket = true
    · by_cases hs : (s.tanks.get k).state = .receiving
      · intro hlaw
        obtain ⟨r, hr⟩ := Option.isSome_iff_exists.mp ((hlaw.1 k).mpr hs)
        rw [receiptClose_open hk hd hs hr]
        split
        · exact hlaw
        · split
          · exact hlaw
          · exact JournalKept.receiptEnded hs (watchRested_standing _ _) _ _ _ hlaw
      · rw [receiptClose_state hk hd hs]; exact .refl s
    · have hbad : f.docket = some 0 ∨ ∃ d, f.docket = some d ∧ 2000000000 < d := by
        rw [docketOk_iff] at hd
        push Not at hd
        obtain ⟨d, hd, hlt⟩ := hd
        rcases Nat.eq_zero_or_pos d with rfl | hpos
        · exact .inl hd
        · exact .inr ⟨d, hd, hlt hpos⟩
      rw [receiptClose_outOfRange s (.inr hbad)]
      exact .refl s

theorem receiptCancel_journalKept (n) (s : State) : JournalKept s (receiptCancel n s).2 := by
  cases hn : tankOf n with
  | none => rw [receiptCancel, hn]; exact .refl s
  | some k =>
    obtain rfl := unitOf_eq_some.mp hn
    by_cases hs : (s.tanks.get k).state = .receiving
    · intro hlaw
      obtain ⟨r, hr⟩ := Option.isSome_iff_exists.mp ((hlaw.1 k).mpr hs)
      rw [receiptCancel_open hs hr]
      exact JournalKept.receiptEnded hs (watchRested_standing _ _) _ _ _ hlaw
    · rw [receiptCancel_state hs]; exact .refl s

/-! ## Stock set, TANK_SET and JOURNAL_RELEASE (R106, R107, R145) -/

/-- A tank without a receipt is not RECEIVING, in the ledger of a lawful state. -/
theorem not_receiving_of_none {k : TankNo} (hlaw : JournalLaw s) (hk : (s.tanks.get k).receipt = none) :
    (s.tanks.get k).state ≠ .receiving := fun hs => by
  have hopen := (hlaw.1 k).mpr hs
  rw [hk] at hopen
  cases hopen

theorem stockSet_journalKept (f) (s : State) : JournalKept s (stockSet f s).2 := by
  cases hk : tankOf f.tank with
  | none => rw [stockSet, hk]; exact .refl s
  | some k =>
    have hk := unitOf_eq_some.mp hk
    cases hchecks : firstFail (stockChecks s k f.book) with
    | some c => rw [stockSet_refused hk hchecks]; exact .refl s
    | none =>
      intro hlaw
      have hpassed := (firstFail_eq_none _).mp hchecks
      simp only [stockChecks, List.forall_mem_cons, Journal.free_pos_iff] at hpassed
      obtain ⟨-, hidle, hfree, -⟩ := hpassed
      rw [Bool.not_eq_true', ← Bool.not_eq_true, Tank.isWorking_iff, not_or, not_not] at hidle
      obtain ⟨-, hnone⟩ := hidle
      have hstate := not_receiving_of_none hlaw hnone
      have hafter : (Tank.afterStockSet f.book (s.tanks.get k)).state ≠ .receiving := by
        dsimp only [Tank.afterStockSet]
        split
        · decide
        · exact hstate
      rw [stockSet_taken hk hchecks hfree, journalLaw_iff, withStock_ledger, standing_modify, withRecord_length, Tank.standing]
      rw [show (Tank.afterStockSet f.book (s.tanks.get k)).receipt.isSome = false by rw [Tank.afterStockSet, hnone]; rfl]
      exact (((journalLaw_iff s).mp hlaw).write hfree).setState hstate hafter

theorem tankSet_journalKept (f) (s : State) : JournalKept s (tankSet f s).2 := by
  cases hf : tankSetOf f with
  | none => rw [tankSet, hf]; exact .refl s
  | some x =>
    obtain ⟨k, c, st⟩ := x
    by_cases hu : TankInUse s k
    · rw [tankSet_inUse hf hu]; exact .refl s
    · intro hlaw
      have hnone : (s.tanks.get k).receipt = none := by
        by_contra h
        exact hu (.inr (.inl (Option.isSome_iff_ne_none.mpr h)))
      have hst : st ≠ .receiving := by
        obtain ⟨-, ⟨-, -, -, -, -, -, -, -, -, -, hst⟩, -, rfl⟩ := tankSetOf_holds hf
        exact hst
      have hledger : (tankConfigured s k c st).ledger
          = { s.ledger with tanks := Function.update s.ledger.tanks k (st, false) } := by
        have hstanding : (watchRestarted c.quietTime { s.tanks.get k with state := st }).standing = (st, false) := by
          rw [← Tank.leakRestart_eq, Tank.leakRestart_standing, Tank.standing, hnone]
          rfl
        rw [← hstanding]
        exact congrArg (fun x => ({ s.ledger with tanks := x } : Ledger)) (standing_modify s.tanks k _)
      have hconfigured : JournalLaw (tankConfigured s k c st) := by
        rw [journalLaw_iff, hledger]
        exact ((journalLaw_iff s).mp hlaw).setState (not_receiving_of_none hlaw hnone) hst
      rw [tankSet_taken hf hu]
      exact JournalKept.ite (.same (State.raiseKind_ledger _ _)) (.refl _) hconfigured

theorem journalRelease_journalKept (n) (s : State) : JournalKept s (journalRelease n s).2 := by
  unfold journalRelease
  split
  · exact .refl s
  · split
    · exact .refl s
    · next r rest hrecords =>
      split
      · refine .of_ledger rfl fun hg => hg.release (n := rest.length) ?_
        rw [State.ledger, hrecords]
        exact Nat.le_succ _
      · exact .refl s

end

end Sys2Proof.Machine
end

section
/-! SUPPORT. Stops, start-ups and the passing of time keep law 4 (R110, R193, R195 to R199). -/

namespace Sys2Proof.Machine

open Sys2Proof.Safety

/-- A change of every tank that keeps its standing. -/
theorem State.ledger_of_standings {s t : State} (ho : t.orders = s.orders) (hj : t.journal = s.journal)
    (ht : ∀ k, (t.tanks.get k).standing = (s.tanks.get k).standing) : t.ledger = s.ledger := by
  rw [State.ledger, State.ledger, ho, hj, funext ht]

section
variable (s : State)

theorem State.endSave_ledger (e) : (s.endSave e).ledger = s.ledger := by
  unfold State.endSave
  split
  · rfl
  · exact State.raise_ledger _ _

theorem State.warnOn_ledger : s.warnOn.ledger = s.ledger :=
  (foldl_keeps _ State.ledger State.warnOrder_ledger _ _).trans (foldl_keeps _ State.ledger State.warnedAt_ledger _ _)

theorem State.stop_ledger (cut) : (s.stop cut).ledger = s.ledger :=
  State.ledger_of_standings rfl rfl fun k => by rw [State.stop, Table.get_map]; rfl

theorem State.loadSettings_ledger (answers) : (s.loadSettings answers).ledger = s.ledger := by
  simp only [State.ledger, State.loadSettings]

theorem State.sampleCouplings_ledger : s.sampleCouplings.ledger = s.ledger := by
  simp only [State.ledger, State.sampleCouplings]

theorem State.stageSeven_ledger : s.stageSeven.ledger = s.ledger :=
  State.ledger_of_standings rfl rfl fun k => by rw [State.stageSeven, Table.get_ofFn, Tank.restarted_standing]

theorem State.idle_ledger : s.idle.ledger = s.ledger := by
  rcases s.whileRunning_cases _ with ⟨-, e⟩ | ⟨-, e⟩ <;> rw [State.idle, e]
  exact State.ledger_of_standings rfl rfl fun k => by rw [Table.get_map]; rfl

theorem State.adoptStep_ledger (p) : (s.adoptStep p).ledger = s.ledger := by simp [State.adoptStep]

/-- The orders restored are the orders that were active (R27). -/
theorem State.restoreOrders_ledger : s.restoreOrders.ledger = s.ledger := by
  refine (foldl_keeps _ State.ledger State.adoptStep_ledger _ _).trans ?_
  have horders (i : IslandNo) : ((s.orders.map (Option.map Order.restored)).get i).isSome = (s.orders.get i).isSome := by
    rw [Table.get_map, Option.isSome_map]
  exact congrArg (fun x => ({ s.ledger with orders := x } : Ledger)) (funext horders)

/-- What retention lost takes leaves no order, no receipt and no record (R148, R193). -/
theorem State.loseRetained_journalKept : JournalKept s s.loseRetained := by
  refine .of_ledger ?_ fun _ => Ledger.Lawful.lost
  have htanks (k : TankNo) : (s.loseRetained.tanks.get k).standing = (.outOfService, false) := by
    rw [State.loseRetained, Table.get_map]
    rfl
  have horders (i : IslandNo) : (s.loseRetained.orders.get i).isSome = false := by
    rw [State.loseRetained, Vector.get_replicate]
    rfl
  rw [State.ledger, funext htanks, funext horders]
  rfl

theorem State.cancelReceipt_ledger (k r) : (s.cancelReceipt k r).2.ledger
    = { s.ledger with
        tanks := Function.update s.ledger.tanks k ((s.tanks.get k).state, false)
        count := s.ledger.count + 1
        reserved := s.ledger.reserved - 1 } :=
  (State.modTank_ledger_same _ k (Tank.leakRest_standing _ _)).trans (s.endReceipt_ledger _ _ _)

/-- A tank whose open receipt is cancelled, if it has one, goes OUT_OF_SERVICE (R110). -/
theorem State.defaultTank_journalKept (k) : JournalKept s (s.defaultTank k) := by
  refine JournalKept.iteAfter ?_
  cases hr : (s.tanks.get k).receipt with
  | none =>
    intro hlaw
    rw [journalLaw_iff, State.modTank_ledger, Tank.standing]
    dsimp only
    rw [hr]
    exact ((journalLaw_iff s).mp hlaw).setState (not_receiving_of_none hlaw hr) (by decide)
  | some r =>
    intro hlaw
    have hstate := (hlaw.1 k).mp (Option.isSome_of_eq_some hr)
    have hcancel := s.cancelReceipt_ledger k r
    have hnone : ((s.cancelReceipt k r).2.tanks.get k).receipt.isSome = false :=
      (congrArg (fun g => (g.tanks k).2) hcancel).trans (congrArg Prod.snd (Function.update_self k (_, false) s.ledger.tanks))
    rw [journalLaw_iff, State.modTank_ledger, Tank.standing]
    dsimp only
    rw [hnone, hcancel, Function.update_idem]
    exact ((journalLaw_iff s).mp hlaw).endReceipt hstate (by decide)

theorem State.startUpReport_journalKept (b r) : JournalKept s (s.startUpReport b r) := (s.applyReport_journalKept r).iteAfter

theorem State.sampleIsland_journalKept (i) : JournalKept s (s.sampleIsland i) :=
  (s.detectorOn_journalKept i).iteAfter.trans (.afterSame (State.modIsland_ledger _ i _) (State.startUpReport_journalKept _ _ _))

theorem State.sampleTank_journalKept (k) : JournalKept s (s.sampleTank k) :=
  .afterSame (s.modTank_ledger_same k (f := fun k' => { k' with probe := s.pins.probes.get k }) rfl)
    (State.startUpReport_journalKept _ _ _)

theorem State.sampleStop_journalKept : JournalKept s s.sampleStop :=
  .afterSame (s.modShut_ledger _) (State.startUpReport_journalKept _ _ _)

theorem State.sampleWarning_ledger : s.sampleWarning.ledger = s.ledger := by
  unfold State.sampleWarning
  split
  · exact s.warnOn_ledger
  · rfl

theorem State.emptyNotices_ledger : s.emptyNotices.ledger = s.ledger :=
  foldl_keeps _ State.ledger (fun s l => s.modPort_ledger l _) _ s

theorem State.finishStartUp_journalKept (reason) : JournalKept s (s.finishStartUp reason) := by
  refine s.drain_journalKept.thenSame ?_
  unfold State.finishStartUp
  dsimp only
  rw [State.raise_ledger, State.modSupply_ledger, State.alignOutputs_ledger, State.emptyNotices_ledger]

/-- An action of a start-up is taken (R196). -/
theorem State.startAction_journalKept (a : StartAction) : JournalKept s (s.startAction a) := by
  cases a with
  | endStep r => exact .same (s.resetAt_ledger r)
  | endOrder i => exact s.resetHandOff_journalKept i
  | load answers => exact .same (s.loadSettings_ledger answers)
  | restore => exact .same s.restoreOrders_ledger
  | lose => exact s.loseRetained_journalKept
  | defaultTank k => exact s.defaultTank_journalKept k
  | reportLost => exact s.applyReport_journalKept .storeLost
  | fieldState => exact .same s.stageSeven_ledger
  | sampleCouplings => exact .same s.sampleCouplings_ledger
  | sampleIsland i => exact s.sampleIsland_journalKept i
  | sampleTank k => exact s.sampleTank_journalKept k
  | sampleStop => exact s.sampleStop_journalKept
  | sampleWarning => exact .same s.sampleWarning_ledger
  | finish reason => exact s.finishStartUp_journalKept reason

/-- A start-up, to its end or as far as it goes. -/
theorem State.startUp_journalKept (plan reach) : JournalKept s (s.startUp plan reach) := by
  cases reach with
  | whole => exact JournalKept.foldl State.startAction_journalKept plan s
  | actions n => exact (JournalKept.foldl State.startAction_journalKept (plan.dropLast.take n) s).thenSame rfl

theorem State.lose_ledger (cut) : (s.lose cut).ledger = s.ledger := by
  unfold State.lose
  split
  · exact s.stop_ledger cut
  · rfl

theorem State.power_journalKept (r answers reach) : JournalKept s (s.power r answers reach) := by
  have hstage (u : State) : (u.stageOne.modSupply fun x => { x with retention := r }).ledger = u.ledger :=
    u.stop_ledger .beforeMark
  refine .afterSame (t := { s.lose .beforeMark with powered := true }) (s.lose_ledger _) (JournalKept.ite ?_ ?_)
  · cases r with
    | kept => exact .same (hstage _)
    | lost => exact .afterSame (hstage _) ((State.loseRetained_journalKept _).thenSame (State.setEntry_ledger _ _ _))
  · exact .afterSame (hstage _) (State.startUp_journalKept _ _ _)

theorem State.resetOn_ledger (cut) : (s.resetOn cut).ledger = s.ledger := by
  unfold State.resetOn
  dsimp only
  split
  · exact State.stop_ledger _ cut
  · rfl

theorem State.resetOff_journalKept (answers reach) : JournalKept s (s.resetOff answers reach) := by
  refine JournalKept.afterSame (s.modPins_ledger fun p => { p with reset := false }) ?_
  exact JournalKept.iteAfter (.afterSame (State.stop_ledger _ .beforeMark) (State.startUp_journalKept _ _ _))

end

end Sys2Proof.Machine
end

section
/-! FAMILY. The journal: what its requests answer, and law 4 as every step keeps it (R140 to R146). -/

namespace Sys2Proof.Machine

open Sys2Proof.Safety

/-! ## Commands and law 4 -/

/-- A request keeps law 4 when its owner does (R176). -/
theorem State.serve_journalKept {α : Type} (self : Instr) (l : Link) (tag : Half) (k : Kind) (b : Sent α)
    {owner : α → State → Answer × State} (h : ∀ a s, JournalKept s (owner a s).2) (s : State) :
    JournalKept s (s.serve self l tag k b owner) := by
  rcases s.serve_cases self l tag k b owner with ⟨-, e⟩ | ⟨-, r, -, e⟩ | ⟨-, -, -, e⟩ | ⟨-, -, a, -, e⟩ <;> rw [e]
  · exact .refl s
  · exact .same (s.answer_ledger _ _ _ _)
  · exact .same (s.answer_ledger _ _ _ _)
  · exact (h a s).thenSame (State.answer_ledger _ _ _ _ _)

/-- A request keeps law 4 when its owner leaves the ledger as it is. -/
theorem State.serve_sameLedger {α : Type} (self : Instr) (l : Link) (tag : Half) (k : Kind) (b : Sent α)
    {owner : α → State → Answer × State} (h : ∀ a s, (owner a s).2.ledger = s.ledger) (s : State) :
    JournalKept s (s.serve self l tag k b owner) := s.serve_journalKept self l tag k b fun a s => .same (h a s)

/-- An event keeps law 4 when what a running part does with it does. -/
theorem State.whileRunning_journalKept {s : State} {f : State → State} (h : JournalKept s (f s)) :
    JournalKept s (s.whileRunning f) := by
  rcases s.whileRunning_cases f with ⟨-, e⟩ | ⟨-, e⟩ <;> rw [e]
  · exact h
  · exact .refl s

/-- A change of an input keeps law 4 when its block does, which takes it as an event or is at that level already (R75). -/
theorem State.input_journalKept {s : State} (p : Pins → Pins) {f : State → State} (h : ∀ s, JournalKept s (f s)) :
    JournalKept s ((s.modPins p).whileRunning f) :=
  .afterSame (s.modPins_ledger p) (State.whileRunning_journalKept (h _))

theorem State.arriveReset_ledger (s : State) (l tag b) : (s.arriveReset l tag b).ledger = s.ledger := by
  cases b <;> rfl

theorem State.receive_ledger (s : State) (l b) : (s.receive l b).ledger = s.ledger := by
  unfold State.receive
  split
  · split
    · rfl
    · split <;> rfl
  · split
    · rfl
    · rfl
    · rfl
    · unfold State.arrive
      split
      · exact State.arriveReset_ledger _ _ _ _
      · rfl

theorem State.frameExpiry_ledger (s : State) (l) : (s.frameExpiry l).ledger = s.ledger := by simp [State.frameExpiry]

/-- A report that is taken is no longer on its way (R151). -/
theorem State.takenReport_journalKept (s : State) (r : Report) :
    JournalKept s (State.applyReport { s with reports := s.reports.erase r } r) :=
  .afterSame (t := { s with reports := s.reports.erase r }) rfl (State.applyReport_journalKept _ r)

/-- Every command keeps law 4. -/
theorem exec_journalKept (c : Instr) (s : State) : ∃ t, exec c s = .next t ∧ JournalKept s t := by
  cases c with
  | orderRead l tag b | islandRead l tag b | tankRead l tag b | hoseRead l tag b | shutdownRead l tag b | warnRead l tag b
  | journalRead l tag b | journalStatus l tag b | accountRead l tag b | accountNext l tag b | clockRead l tag b
  | supplyRead l tag b | identify l tag b | linkStatus l tag b =>
    exact ⟨_, rfl, s.serve_sameLedger _ l tag _ b (owner := reading _) fun _ _ => rfl⟩
  | orderAdmit l tag b => exact ⟨_, rfl, s.serve_journalKept _ l tag _ b orderAdmit_journalKept⟩
  | orderHold l tag b => exact ⟨_, rfl, s.serve_sameLedger _ l tag _ b orderHold_ledger⟩
  | orderContinue l tag b => exact ⟨_, rfl, s.serve_journalKept _ l tag _ b orderContinue_journalKept⟩
  | orderCancel l tag b => exact ⟨_, rfl, s.serve_journalKept _ l tag _ b orderCancel_journalKept⟩
  | stepStop l tag b => exact ⟨_, rfl, s.serve_journalKept _ l tag _ b stepStop_journalKept⟩
  | hoseSet l tag b => exact ⟨_, rfl, s.serve_sameLedger _ l tag _ b hoseSet_ledger⟩
  | islandSet l tag b => exact ⟨_, rfl, s.serve_sameLedger _ l tag _ b islandSetRequest_ledger⟩
  | tankSet l tag b => exact ⟨_, rfl, s.serve_journalKept _ l tag _ b tankSet_journalKept⟩
  | fluidSet l tag b => exact ⟨_, rfl, s.serve_sameLedger _ l tag _ b fluidSet_ledger⟩
  | strapLoad l tag b => exact ⟨_, rfl, s.serve_sameLedger _ l tag _ b strapLoad_ledger⟩
  | causeSet l tag b => exact ⟨_, rfl, s.serve_sameLedger _ l tag _ b causeSet_ledger⟩
  | accountLimitsSet l tag b => exact ⟨_, rfl, s.serve_sameLedger _ l tag _ b accountLimitsSet_ledger⟩
  | linkSet l tag b => exact ⟨_, rfl, s.serve_sameLedger _ l tag _ b linkSet_ledger⟩
  | clockSet l tag b => exact ⟨_, rfl, s.serve_sameLedger _ l tag _ b clockSet_ledger⟩
  | settingsSave l tag b => exact ⟨_, rfl, s.serve_sameLedger _ l tag _ b settingsSave_ledger⟩
  | receiptOpen l tag b => exact ⟨_, rfl, s.serve_journalKept _ l tag _ b receiptOpen_journalKept⟩
  | receiptClose l tag b => exact ⟨_, rfl, s.serve_journalKept _ l tag _ b receiptClose_journalKept⟩
  | receiptCancel l tag b => exact ⟨_, rfl, s.serve_journalKept _ l tag _ b receiptCancel_journalKept⟩
  | stockSet l tag b => exact ⟨_, rfl, s.serve_journalKept _ l tag _ b stockSet_journalKept⟩
  | accountCreate l tag b => exact ⟨_, rfl, s.serve_sameLedger _ l tag _ b accountCreate_ledger⟩
  | accountEdit l tag b => exact ⟨_, rfl, s.serve_sameLedger _ l tag _ b accountEdit_ledger⟩
  | accountBlock l tag b => exact ⟨_, rfl, s.serve_sameLedger _ l tag _ b accountBlock_ledger⟩
  | accountUnblock l tag b => exact ⟨_, rfl, s.serve_sameLedger _ l tag _ b accountUnblock_ledger⟩
  | accountDelete l tag b => exact ⟨_, rfl, s.serve_sameLedger _ l tag _ b accountDelete_ledger⟩
  | hoursConfirm l tag b => exact ⟨_, rfl, s.serve_sameLedger _ l tag _ b hoursConfirm_ledger⟩
  | hoursRebase l tag b => exact ⟨_, rfl, s.serve_sameLedger _ l tag _ b hoursRebase_ledger⟩
  | lubeSet l tag b => exact ⟨_, rfl, s.serve_sameLedger _ l tag _ b lubeSet_ledger⟩
  | journalRelease l tag b => exact ⟨_, rfl, s.serve_journalKept _ l tag _ b journalRelease_journalKept⟩
  | shutdownClear l tag b => exact ⟨_, rfl, s.serve_sameLedger _ l tag _ b shutdownClear_ledger⟩
  | tripBay l tag b => exact ⟨_, rfl, s.serve_journalKept _ l tag _ b fun _ => tripRequest_journalKept _⟩
  | tripIsland l tag b => exact ⟨_, rfl, s.serve_journalKept _ l tag _ b (tripIsland_journalKept l)⟩
  | tripTank l tag b => exact ⟨_, rfl, s.serve_journalKept _ l tag _ b (tripTank_journalKept l)⟩
  | tripHose l tag b => exact ⟨_, rfl, s.serve_journalKept _ l tag _ b (tripHose_journalKept l)⟩
  | noticeFetch l tag b => exact ⟨_, rfl, s.serve_sameLedger _ l tag _ b fun _ s => s.modPort_ledger l _⟩
  | noticeMaskSet l tag b => exact ⟨_, rfl, s.serve_sameLedger _ l tag _ b (noticeMaskSet_ledger l)⟩
  | linkReset l tag b => exact ⟨_, rfl, State.whileRunning_journalKept (.same (s.arriveReset_ledger l tag b))⟩
  | unknownKindRequest l tag kind => exact ⟨_, rfl, JournalKept.iteAfter (.same (s.answer_ledger _ _ _ _))⟩
  | linkByteReceived l b => exact ⟨_, rfl, State.whileRunning_journalKept (.same (s.receive_ledger l b))⟩
  | frameTimerExpiry l => exact ⟨_, rfl, State.whileRunning_journalKept (.same (s.frameExpiry_ledger l))⟩
  | replySent l => exact ⟨_, rfl, State.whileRunning_journalKept (.same (s.modPort_ledger l _))⟩
  | meterPulse h => exact ⟨_, rfl, State.whileRunning_journalKept (JournalKept.same (s.pulse_ledger h)).settleAll⟩
  | probeReading h r => exact ⟨_, rfl, State.whileRunning_journalKept (.same (s.probe_ledger h r))⟩
  | hoseCoupled h =>
    exact ⟨_, rfl, State.input_journalKept _ fun s =>
      (JournalKept.refl s).ite (JournalKept.same (s.couple_ledger h)).settleAll⟩
  | hoseUncoupled h =>
    exact ⟨_, rfl, State.input_journalKept _ fun s => (JournalKept.same (s.uncouple_ledger h)).settleAll.iteAfter⟩
  | detectorAsserted i =>
    exact ⟨_, rfl, State.input_journalKept _ fun s => (JournalKept.refl s).ite (s.detectorOn_journalKept i).settleAll⟩
  | detectorNegated i =>
    exact ⟨_, rfl, State.input_journalKept _ fun s => (JournalKept.same (s.detectorOff_ledger i)).settleAll.iteAfter⟩
  | arrivalDebounceExpiry i => exact ⟨_, rfl, State.whileRunning_journalKept (s.arrivalExpiry_journalKept i).settleAll⟩
  | leavingDebounceExpiry i => exact ⟨_, rfl, State.whileRunning_journalKept (s.leavingExpiry_journalKept i).settleAll⟩
  | sumpFloatChange i level =>
    exact ⟨_, rfl, State.input_journalKept _ fun s => (JournalKept.refl s).ite (.same (s.floatLevel_ledger i level))⟩
  | gaugeReadingValid k level tenths =>
    exact ⟨_, rfl, State.whileRunning_journalKept (.same (s.gaugeValid_ledger k level tenths))⟩
  | gaugeReadingFaulty k => exact ⟨_, rfl, State.whileRunning_journalKept (.same (s.gaugeFaulty_ledger k))⟩
  | gaugeStaleExpiry k => exact ⟨_, rfl, State.whileRunning_journalKept (.same (s.gaugeStale_ledger k))⟩
  | overfillProbeChange k level =>
    exact ⟨_, rfl, State.input_journalKept _ fun s => (JournalKept.refl s).ite (.same (s.probeLevel_ledger k level))⟩
  | leakQuietExpiry k => exact ⟨_, rfl, State.whileRunning_journalKept (.same (s.leakQuiet_ledger k))⟩
  | emergencyStopChange level =>
    exact ⟨_, rfl, State.input_journalKept _ fun s => (JournalKept.refl s).ite (s.stopLevel_journalKept level)⟩
  | coupleWaitExpiry h => exact ⟨_, rfl, State.whileRunning_journalKept (JournalKept.same (s.coupleWait_ledger h)).settleAll⟩
  | stallTimerExpiry h => exact ⟨_, rfl, State.whileRunning_journalKept (JournalKept.same (s.stall_ledger h)).settleAll⟩
  | rateWindowExpiry h => exact ⟨_, rfl, State.whileRunning_journalKept (.same (s.rateWindow_ledger h))⟩
  | settleTimerExpiry h => exact ⟨_, rfl, State.whileRunning_journalKept (JournalKept.same (s.settleEnd_ledger h)).settleAll⟩
  | strayQuietExpiry h => exact ⟨_, rfl, State.whileRunning_journalKept (.same (s.strayQuiet_ledger h))⟩
  | shutdownReport r => exact ⟨_, rfl, State.whileRunning_journalKept (s.takenReport_journalKept r)⟩
  | saveCompletion e => exact ⟨_, rfl, State.whileRunning_journalKept (.same (s.endSave_ledger e))⟩
  | powerFailWarningAsserted =>
    exact ⟨_, rfl, State.input_journalKept _ fun s => (JournalKept.refl s).ite (JournalKept.same s.warnOn_ledger).settleAll⟩
  | powerFailWarningNegated =>
    exact ⟨_, rfl, State.input_journalKept _ fun s => (JournalKept.same (s.modSupply_ledger _)).iteAfter⟩
  | supplyLoss cut => exact ⟨_, rfl, .same (s.lose_ledger cut)⟩
  | powerOn r run => exact ⟨_, rfl, s.power_journalKept r run.answers run.reach⟩
  | externalResetAsserted cut => exact ⟨_, rfl, .same (s.resetOn_ledger cut)⟩
  | externalResetNegated run => exact ⟨_, rfl, s.resetOff_journalKept run.answers run.reach⟩
  | bayClockTick => exact ⟨_, rfl, .same (s.modSupply_ledger _)⟩

/-- Settles O57: the queue is no part of the ledger, and neither a tenth of a second (`State.idle_ledger`) nor a command
(`exec_journalKept`) breaks law 4. -/
theorem journalLawIsKept : Obligations.JournalLawIsKept := by
  intro s t hlaw h
  unfold step at h
  split at h
  · cases h
    exact JournalKept.same s.idle_ledger hlaw
  · next c rest _ =>
    obtain ⟨u, hu, hkept⟩ := exec_journalKept c { s with pending := rest }
    cases hu.symm.trans h
    exact hkept hlaw

/-! ## JOURNAL_RELEASE (R145) -/

section
variable {s : State} {n : Nat} {r : Record} {rest : List Record}

theorem journalRelease_zero (s : State) : journalRelease 0 s = (refuse .outOfRange, s) := rfl

theorem journalRelease_empty (hn : n ≠ 0) (he : s.journal.records = []) : journalRelease n s = (refuse .empty, s) := by
  rw [journalRelease, if_neg hn, he]

theorem journalRelease_records (hn : n ≠ 0) (hr : s.journal.records = r :: rest) : journalRelease n s =
    if r.seq = n then
      ((.ok, .released rest.length (rest.head?.map (·.seq))), { s with journal := { s.journal with records := rest } })
    else ((.seqMismatch, .oldest r.seq), s) := by
  rw [journalRelease, if_neg hn, hr]
  rfl

end

/-- Settles O20: the rows of R145 by the number and by the oldest record (`journalRelease_records`). -/
theorem journalReleaseTakesTheOldest : Obligations.JournalReleaseTakesTheOldest := by
  intro l tag n s hA c
  have hrep {code : Code} {res : Results} {u : State} (h : journalRelease n s = ((code, res), u)) :
      Replies c s u l tag .journalRelease code res := State.replies_of_owner hA journalRelease rfl h
  refine ⟨?_, fun hn he => hrep (journalRelease_empty hn he), fun r rest hn hr => ⟨fun hne => ?_, fun heq => ?_⟩⟩
  · rintro rfl
    exact hrep (journalRelease_zero s)
  · exact hrep ((journalRelease_records hn hr).trans (if_neg (Ne.symm hne)))
  · exact hrep ((journalRelease_records hn hr).trans (if_pos heq.symm))

/-! ## JOURNAL_READ and JOURNAL_STATUS (R144, R146) -/

/-- A journal that holds a record has a newest one. -/
theorem Journal.newest_of_mem {j : Journal} {r : Record} (hr : r ∈ j.records) : ∃ newest, j.newest = some newest :=
  ⟨_, by rw [Journal.newest, List.getLast?_eq_some_getLast (List.ne_nil_of_mem hr)]; rfl⟩

theorem Journal.find_eq_some {j : Journal} {n : Nat} {r : Record} (h : j.find n = some r) : r ∈ j.records ∧ r.seq = n := by
  unfold Journal.find at h
  have hfits := List.find?_some h
  exact ⟨List.mem_of_find?_eq_some h, of_decide_eq_true hfits⟩

section
variable {s : State} {n newest : Nat} {r : Record} {rest : List Record}

theorem journalRead_empty (he : s.journal.records = []) : journalRead .oldest s = refuse .empty := by
  rw [journalRead, he]

theorem journalRead_oldest (hr : s.journal.records = r :: rest) (hnew : s.journal.newest = some newest) :
    journalRead .oldest s = (.ok, .journal s.journal.records.length newest r) := by
  simp only [journalRead, hr, hnew, Option.getD_some, Journal.count]

theorem journalRead_zero (s : State) : journalRead (.byNumber 0) s = refuse .outOfRange := rfl

theorem journalRead_notFound (hn : n ≠ 0) (hf : s.journal.find n = none) :
    journalRead (.byNumber n) s = refuse .notFound := by
  simp only [journalRead, if_neg hn, hf]

theorem journalRead_found (hn : n ≠ 0) (hf : s.journal.find n = some r) (hnew : s.journal.newest = some newest) :
    journalRead (.byNumber n) s = (.ok, .journal s.journal.records.length newest r) := by
  simp only [journalRead, if_neg hn, hf, hnew, Option.getD_some, Journal.count]

end

/-- Settles O21: a read by number carries the record that `Journal.find` gives, and the status is the journal's figures. -/
theorem journalReadsCarryRecords : Obligations.JournalReadsCarryRecords := by
  intro l tag s
  refine ⟨fun sel hA => ?_, fun hA => ?_⟩
  · intro c
    have hrep {code : Code} {res : Results} (h : journalRead sel s = (code, res)) :
        Replies c s s l tag .journalRead code res := State.replies_of_owner hA (reading journalRead) rfl (congrArg (·, s) h)
    refine ⟨?_, fun r rest hsel hr => ?_, ?_, fun n hn hsel hnone => ?_, fun n hn hsel hsome => ?_⟩
    · rintro rfl he
      exact hrep (journalRead_empty he)
    · subst hsel
      obtain ⟨newest, hnew⟩ := Journal.newest_of_mem (hr ▸ List.mem_cons_self : r ∈ s.journal.records)
      exact ⟨newest, hnew, hrep (journalRead_oldest hr hnew)⟩
    · rintro rfl
      exact hrep (journalRead_zero s)
    · subst hsel
      exact hrep (journalRead_notFound hn (List.find?_eq_none.mpr fun r hr => by simpa using hnone r hr))
    · subst hsel
      obtain ⟨x, hx, hxn⟩ := hsome
      have hfound : (s.journal.find n).isSome = true := List.find?_isSome.mpr ⟨x, hx, decide_eq_true hxn⟩
      obtain ⟨r, hf⟩ := Option.isSome_iff_exists.mp hfound
      obtain ⟨newest, hnew⟩ := Journal.newest_of_mem hx
      obtain ⟨hr, hrn⟩ := Journal.find_eq_some hf
      exact ⟨r, newest, hr, hrn, hnew, hrep (journalRead_found hn hf hnew)⟩
  · exact ⟨_, State.replies_of_owner hA (reading fun _ => journalStatus) rfl rfl, rfl, rfl, rfl, rfl, rfl, rfl⟩

end Sys2Proof.Machine
end

section
/-! SUPPORT. The wiring of the outputs: what the law of the outputs speaks of, and the operations that leave it as it is (R159,
R160). -/

namespace Sys2Proof.Machine

open Sys2Proof.Safety

/-- What the outputs rest on, and the outputs: whether the part runs, the latched objects, the hoses that draw on each tank, the
relay and the pump enables. -/
structure Wiring where
  running : Bool
  latched : Scope → Bool
  drives : TankNo → HoseNo → Bool
  relay : Bool
  pumps : Table Bool 10

def State.wiring (s : State) : Wiring where
  running := s.running
  latched := s.isLatched
  drives := s.drives
  relay := s.shut.relay
  pumps := s.shut.pumps

/-- The law of the outputs in the wiring. -/
def Wiring.Lawful (w : Wiring) : Prop :=
  (w.running = true →
      (w.relay = true ↔ w.latched .bay = false)
      ∧ ∀ k : TankNo, w.pumps.get k = true
          ↔ (∃ h : HoseNo, w.drives k h = true) ∧ w.latched (.tank k) = false ∧ w.latched .bay = false)
    ∧ (w.running = false → w.relay = false ∧ ∀ k : TankNo, w.pumps.get k = false)

theorem State.isLatched_eq_false (s : State) (o : Scope) : s.isLatched o = false ↔ s.entryAt o = none :=
  Option.isSome_eq_false_iff.trans Option.isNone_iff_eq_none

theorem outputsLaw_iff (s : State) : OutputsLaw s ↔ s.wiring.Lawful := by
  simp only [OutputsLaw, Wiring.Lawful, State.wiring, State.isLatched_eq_false]

section
variable (s : State)

/-- The wiring of a choice of two states. -/
@[simp] theorem State.ite_wiring {p : Prop} [Decidable p] (t u : State) :
    (if p then t else u).wiring = if p then t.wiring else u.wiring := apply_ite State.wiring p t u

/-! ## Changes of records that hold no part of it -/

@[simp] theorem State.modPort_wiring (l f) : (s.modPort l f).wiring = s.wiring := rfl
@[simp] theorem State.modIsland_wiring (i f) : (s.modIsland i f).wiring = s.wiring := rfl
@[simp] theorem State.modTank_wiring (k f) : (s.modTank k f).wiring = s.wiring := rfl
@[simp] theorem State.modAccount_wiring (m f) : (s.modAccount m f).wiring = s.wiring := rfl
@[simp] theorem State.configure_wiring (f) : (s.configure f).wiring = s.wiring := rfl
@[simp] theorem State.report_wiring (r) : (s.report r).wiring = s.wiring := rfl
@[simp] theorem State.answer_wiring (l tag kind a) : (s.answer l tag kind a).wiring = s.wiring := rfl
@[simp] theorem State.setJournal_wiring (j : Journal) : State.wiring { s with journal := j } = s.wiring := rfl

@[simp] theorem State.raise_wiring (n) : (s.raise n).wiring = s.wiring := by rw [State.raise_eq_ports]; rfl
@[simp] theorem State.raiseKind_wiring (k) : (s.raiseKind k).wiring = s.wiring := s.raise_wiring _
@[simp] theorem State.raiseAt_wiring (k i) : (s.raiseAt k i).wiring = s.wiring := s.raise_wiring _

/-- A change of the supply block that is no start-up. -/
theorem State.modSupply_wiring (f : Supply → Supply) (hf : (f s.supply).starting = s.supply.starting) :
    (s.modSupply f).wiring = s.wiring := by
  have hrun : (s.modSupply f).running = s.running := congrArg (fun b => s.powered && !s.pins.reset && !b) hf
  exact congrArg (fun b => ({ s.wiring with running := b } : Wiring)) hrun

/-- A change of an input other than the external reset. -/
theorem State.modPins_wiring (f : Pins → Pins) (hf : (f s.pins).reset = s.pins.reset) : (s.modPins f).wiring = s.wiring := by
  have hrun : (s.modPins f).running = s.running := congrArg (fun b => s.powered && !b && !s.supply.starting) hf
  exact congrArg (fun b => ({ s.wiring with running := b } : Wiring)) hrun

/-! ## Hoses and steps: the valve of a hose and the captured tank of its step -/

/-- The captured tank of the step that a reference names. -/
def State.tankAt (r : StepRef) : Option TankNo := (s.stepAt r).map (·.ctx.tank)

theorem State.drives_eq (k : TankNo) (h : HoseNo) : s.drives k h
    = (decide ((s.hoses.get h).valve ≠ .closed) && decide ((s.hoses.get h).step.bind s.tankAt = some k)) := by
  unfold State.drives State.hoseStep State.tankAt
  congr 1
  cases (s.hoses.get h).step with
  | none => rfl
  | some r =>
    rw [Option.bind_some, Option.bind_some]
    rcases Option.eq_none_or_eq_some (s.stepAt r) with hst | ⟨st, hst⟩
    · simp [hst]
    · simp [hst]

variable {s} {t : State}

theorem State.drives_congr (hv : ∀ h, (t.hoses.get h).valve = (s.hoses.get h).valve)
    (hs : ∀ h, (t.hoses.get h).step = (s.hoses.get h).step) (ht : t.tankAt = s.tankAt) : t.drives = s.drives := by
  funext k h
  rw [State.drives_eq, State.drives_eq, hv, hs, ht]

/-- A change of the hoses that keeps their valves and their steps. -/
theorem State.wiring_of_hoses (hw : t.wiring = { s.wiring with drives := t.drives }) (ho : t.orders = s.orders)
    (hh : ∀ h, (t.hoses.get h).valve = (s.hoses.get h).valve ∧ (t.hoses.get h).step = (s.hoses.get h).step) :
    t.wiring = s.wiring := by
  have htank : t.tankAt = s.tankAt := by funext r; rw [State.tankAt, State.tankAt, State.stepAt, State.stepAt, ho]
  rw [hw, State.drives_congr (fun h => (hh h).1) (fun h => (hh h).2) htank]
  rfl

variable (s)

/-- A change of a channel that keeps its valve and its step. -/
theorem State.modHose_wiring (h : HoseNo) (f : Channel → Channel) (hv : ∀ c, (f c).valve = c.valve := by exact fun _ => rfl)
    (hs : ∀ c, (f c).step = c.step := by exact fun _ => rfl) : (s.modHose h f).wiring = s.wiring := by
  refine State.wiring_of_hoses rfl rfl fun x => ?_
  rw [State.modHose_hoses, Table.modify_get]
  split
  · next e => rw [e]; exact ⟨hv _, hs _⟩
  · exact ⟨rfl, rfl⟩

/-- A change of an order that keeps the captured tanks of its steps. -/
theorem State.modOrder_wiring (i : IslandNo) (f : Order → Order)
    (hf : ∀ o : Order, (f o).steps.map (·.ctx.tank) = o.steps.map (·.ctx.tank)) : (s.modOrder i f).wiring = s.wiring := by
  have htank : (s.modOrder i f).tankAt = s.tankAt := by
    funext r
    unfold State.tankAt State.stepAt
    rw [State.modOrder_orders, Table.put_get]
    split
    · next e =>
      rw [e]
      cases s.orders.get i with
      | none => rfl
      | some o =>
        dsimp only [Option.map_some, Option.bind_some]
        rw [← List.getElem?_map, ← List.getElem?_map, hf]
    · rfl
  exact congrArg (fun d => ({ s.wiring with drives := d } : Wiring))
    (State.drives_congr (s := s) (t := s.modOrder i f) (fun _ => rfl) (fun _ => rfl) htank)

/-- A change of a step record that keeps its captured tank. -/
theorem State.modStep_wiring (r : StepRef) (f : Step → Step) (hf : ∀ st, (f st).ctx = st.ctx) :
    (s.modStep r f).wiring = s.wiring := by
  refine s.modOrder_wiring r.island _ fun o => List.ext_getElem? fun n => ?_
  rw [List.getElem?_map, List.getElem?_map, List.getElem?_modify]
  split
  · cases o.steps[n]? with
    | none => rfl
    | some st => simp [hf]
  · simp

end

end Sys2Proof.Machine
end

section
/-! SUPPORT. Operations that leave the wiring as it is, and work after which the outputs are brought into line (R159, R160). -/

namespace Sys2Proof.Machine

open Sys2Proof.Safety

/-- The law of the outputs passes from `s`, where the part runs, to `t`. -/
def OutputsKept (s t : State) : Prop := s.running = true → OutputsLaw s → OutputsLaw t

section
variable {s t u : State}

/-- What leaves the wiring as it is keeps the law. -/
theorem outputsLaw_of_wiring (h : t.wiring = s.wiring) (hlaw : OutputsLaw s) : OutputsLaw t := by
  rw [outputsLaw_iff] at hlaw ⊢
  rwa [h]

theorem running_of_wiring (h : t.wiring = s.wiring) : t.running = s.running := congrArg Wiring.running h

theorem OutputsKept.same (h : t.wiring = s.wiring) : OutputsKept s t := fun _ => outputsLaw_of_wiring h

theorem OutputsKept.refl (s : State) : OutputsKept s s := .same rfl

/-- Work after which the wiring is as another state has it. -/
theorem OutputsKept.thenSame (h : OutputsKept s t) (hu : u.wiring = t.wiring) : OutputsKept s u := fun hr hlaw =>
  outputsLaw_of_wiring hu (h hr hlaw)

/-- Work before which the wiring is as another state has it. -/
theorem OutputsKept.afterSame (ht : t.wiring = s.wiring) (h : OutputsKept t u) : OutputsKept s u := fun hr hlaw =>
  h ((running_of_wiring ht).trans hr) (outputsLaw_of_wiring ht hlaw)

theorem OutputsKept.ite {p : Prop} [Decidable p] (h : OutputsKept s t) (k : OutputsKept s u) :
    OutputsKept s (if p then t else u) := by
  split <;> assumption

theorem OutputsKept.iteAfter {p : Prop} [Decidable p] (h : OutputsKept s t) : OutputsKept s (if p then t else s) :=
  h.ite (.refl s)

/-- The outputs of a running part, brought into line, obey the law (R159, R160). -/
theorem State.alignOutputs_lawful (hr : s.running = true) : OutputsLaw s.alignOutputs := by
  obtain ⟨-, hrelay, hpumps⟩ := State.alignOutputs_follow (s := s) rfl
  exact ⟨fun _ => ⟨hrelay, hpumps⟩, fun hoff => absurd (hr.symm.trans hoff) nofun⟩

/-- The work of the bay does not stop the part. -/
theorem Work.running_eq (h : Work s t) : t.running = s.running := by
  rw [State.running, State.running, h.powered, h.pins, h.supply]

/-- Work of the bay, with the outputs brought into line after it. -/
theorem Work.aligned (h : Work s t) : OutputsKept s t.alignOutputs := fun hr _ =>
  State.alignOutputs_lawful (h.running_eq.trans hr)

/-- A command that can move valves (R49, R159). -/
theorem Work.settled (h : Work s t) : OutputsKept s t.settleAll := (h.trans t.drain_work).aligned

end

section
variable (s : State)

/-! ## The journal, the stock unit and the account unit -/

@[simp] theorem State.journalLowTest_wiring (n) : (s.journalLowTest n).wiring = s.wiring := by simp [State.journalLowTest]
@[simp] theorem State.journalWaitingTest_wiring (n) : (s.journalWaitingTest n).wiring = s.wiring := by
  simp [State.journalWaitingTest]
@[simp] theorem State.lowTest_wiring (a b) : (s.lowTest a b).wiring = s.wiring := by simp [State.lowTest]
@[simp] theorem State.journalReserve_wiring : s.journalReserve.wiring = s.wiring := by simp [State.journalReserve]
@[simp] theorem State.writeReserved_wiring (c b) : (s.writeReserved c b).2.wiring = s.wiring := by simp [State.writeReserved]
@[simp] theorem State.writeUnreserved_wiring (c b) : (s.writeUnreserved c b).2.wiring = s.wiring := by
  simp [State.writeUnreserved]
@[simp] theorem State.changeStock_wiring (k f) : (s.changeStock k f).wiring = s.wiring := by simp [State.changeStock]
@[simp] theorem State.chargeStray_wiring (k n) : (s.chargeStray k n).wiring = s.wiring := s.changeStock_wiring _ _
@[simp] theorem State.endReceipt_wiring (k r b) : (s.endReceipt k r b).2.wiring = s.wiring := by simp [State.endReceipt]
@[simp] theorem State.cancelReceipt_wiring (k r) : (s.cancelReceipt k r).2.wiring = s.wiring := by simp [State.cancelReceipt]

/-! ## Metering and gauging -/

@[simp] theorem State.gaugeTemp_wiring (k x) : (s.gaugeTemp k x).wiring = s.wiring := by
  refine foldl_keeps _ State.wiring (fun s h => ?_) _ s
  unfold State.gaugeTempAt
  split
  · simp [State.modStep_wiring, Step.withTemp]
  · rfl

theorem Step.probed_ctx (st : Step) (r : ProbeReading) : (st.probed r).ctx = st.ctx := by
  cases r with
  | valid x => rfl
  | faulty => dsimp only [Step.probed]; split <;> rfl

theorem State.probe_wiring (h r) : (s.probe h r).wiring = s.wiring := by
  have htemp (x : Option Int) : (s.modHose h fun c => { c with temp := x }).wiring = s.wiring := s.modHose_wiring h _
  have hstep (u : State) (ref : StepRef) : (u.modStep ref fun st => st.probed r).wiring = u.wiring :=
    u.modStep_wiring ref _ fun st => st.probed_ctx r
  unfold State.probe
  cases r <;> dsimp only <;> split <;> simp [htemp, hstep]

@[simp] theorem State.gaugeFault_wiring (k) : (s.gaugeFault k).wiring = s.wiring := by simp [State.gaugeFault]
theorem State.gaugeFaulty_wiring (k) : (s.gaugeFaulty k).wiring = s.wiring := by simp [State.gaugeFaulty]
theorem State.gaugeStale_wiring (k) : (s.gaugeStale k).wiring = s.wiring := by simp [State.gaugeStale]
theorem State.gaugeValid_wiring (k l x) : (s.gaugeValid k l x).wiring = s.wiring := by simp [State.gaugeValid]
theorem State.probeLevel_wiring (k b) : (s.probeLevel k b).wiring = s.wiring := by simp [State.probeLevel]
theorem State.leakQuiet_wiring (k) : (s.leakQuiet k).wiring = s.wiring := by simp [State.leakQuiet]

/-! ## Events that move no valve -/

theorem State.floatLevel_wiring (i b) : (s.floatLevel i b).wiring = s.wiring := by simp [State.floatLevel]

theorem State.rateWindow_wiring (h) : (s.rateWindow h).wiring = s.wiring := by
  unfold State.rateWindow
  split
  · rfl
  · have hrate (u : State) (n : Nat) : (u.modHose h fun c =>
        { c with
          flow := flowReading c.windowCount n
          windowCount := 0
          rateTimer := Timer.startTenths Config.rateWindow }).wiring = u.wiring := u.modHose_wiring h _
    simp [hrate]

theorem State.strayQuiet_wiring (h) : (s.strayQuiet h).wiring = s.wiring := by
  simp [State.strayQuiet, s.modHose_wiring h Channel.strayReset]

theorem State.warnOff_wiring : s.warnOff.wiring = s.wiring := s.modSupply_wiring _ rfl

theorem State.endSave_wiring (e) : (s.endSave e).wiring = s.wiring := by
  unfold State.endSave
  split
  · rfl
  · exact (State.raise_wiring _ _).trans (s.modSupply_wiring _ (by cases e <;> rfl))

/-- A tenth of a second moves no valve. -/
theorem State.idle_wiring : s.idle.wiring = s.wiring := by
  rcases s.whileRunning_cases _ with ⟨-, e⟩ | ⟨-, e⟩ <;> rw [State.idle, e]
  refine State.wiring_of_hoses rfl rfl fun h => ?_
  rw [Table.get_map]
  exact ⟨rfl, rfl⟩

theorem State.arriveReset_wiring (l tag b) : (s.arriveReset l tag b).wiring = s.wiring := by
  cases b <;> rfl

theorem State.receive_wiring (l b) : (s.receive l b).wiring = s.wiring := by
  unfold State.receive
  split
  · simp
  · split
    · rfl
    · rfl
    · rfl
    · simp [State.arrive, State.arriveReset_wiring]

theorem State.frameExpiry_wiring (l) : (s.frameExpiry l).wiring = s.wiring := by simp [State.frameExpiry]

/-! ## Reports and trips (R150, R155) -/

/-- A repeat leaves the object latched (R150). -/
theorem State.repeated_wiring {o : Scope} {e : Entry} (he : s.entryAt o = some e) :
    (s.setEntry o (some e.repeated)).wiring = s.wiring := by
  refine congrArg (fun l => ({ s.wiring with latched := l } : Wiring)) (funext fun x => ?_)
  change ((s.shut.map.put o.code (some e.repeated)).get x.code).isSome = (s.entryAt x).isSome
  rw [Table.put_get]
  split
  · next hx => rw [Scope.code_injective hx, he]; rfl
  · rfl

theorem State.trip_outputsKept (r) : OutputsKept s (s.trip r) :=
  (((s.setEntry_work _ _).trans ((State.tripOrders_work _ _).trans
    ((Work.foldl _ (fun s h => State.tripHoseAt_work _ _ s h) _ _).trans ((State.alignOutputs_work _).trans
      (State.raiseKind_work _ _))))).trans ((State.drain_work _).trans (State.endDone_work _))).aligned

theorem State.applyReport_outputsKept (r) : OutputsKept s (s.applyReport r) := by
  cases ha : s.actionOf (reportCause r) with
  | off => rw [State.applyReport_off ha]; exact .refl s
  | warn =>
    rw [State.applyReport, ha]
    exact .same (State.raiseKind_wiring _ _)
  | trip =>
    cases he : s.entryAt (reportObject r) with
    | some e =>
      rw [State.applyReport_again ha he]
      exact .same (s.repeated_wiring he)
    | none =>
      rw [State.applyReport_trips ha he]
      exact s.trip_outputsKept r

/-- The shutdown unit's copy of the emergency stop level is no part of the wiring (R161). -/
theorem State.stopLevel_outputsKept (b) : OutputsKept s (s.stopLevel b) := by
  have hlevel : (s.modShut fun u => { u with stop := b }).wiring = s.wiring := rfl
  exact OutputsKept.ite (.afterSame hlevel (State.applyReport_outputsKept _ _)) (.same hlevel)

/-- The power-fail warning at the channels and the orders is work of the bay in the supply state HOLD (R194). -/
theorem State.warnOn_work : Work (s.modSupply fun u => { u with state := .hold, warning := true }) s.warnOn :=
  (Work.foldl _ State.warnedAt_work _ _).trans (Work.foldl _ State.warnOrder_work _ _)

theorem State.warnOn_outputsKept : OutputsKept s s.warnOn.settleAll :=
  .afterSame (s.modSupply_wiring _ rfl) s.warnOn_work.settled

end

end Sys2Proof.Machine
end

section
/-! SUPPORT. The owners of the requests keep the law of the outputs (R176): they leave the wiring as it is, or bring the outputs
into line. -/

namespace Sys2Proof.Machine

open Sys2Proof.Safety

section
variable {s : State}

/-! ## Configuration, clock, settings and links -/

theorem hoseSet_wiring (f) (s : State) : (hoseSet f s).2.wiring = s.wiring := by
  unfold hoseSet
  split
  · rfl
  · split
    · rfl
    · exact (State.modHose_wiring _ _ _).trans (s.configure_wiring _)

theorem islandSetRequest_wiring (f) (s : State) : (islandSetRequest f s).2.wiring = s.wiring := by
  unfold islandSetRequest
  split
  · rfl
  · split <;> rfl

theorem tankSet_wiring (f) (s : State) : (tankSet f s).2.wiring = s.wiring := by
  unfold tankSet
  split
  · rfl
  · split
    · rfl
    · simp [State.tankSetLow]

theorem fluidSet_wiring (f) (s : State) : (fluidSet f s).2.wiring = s.wiring := by
  unfold fluidSet
  split
  · rfl
  · split
    · rfl
    · dsimp only
      split
      · rfl
      · exact (foldl_keeps _ State.wiring (fun u k => by simp) allTanks _).trans (s.configure_wiring _)

theorem strapLoad_wiring (f) (s : State) : (strapLoad f s).2.wiring = s.wiring := by
  unfold strapLoad
  split
  · rfl
  · split <;> rfl

theorem causeSet_wiring (f) (s : State) : (causeSet f s).2.wiring = s.wiring := by
  unfold causeSet
  split <;> rfl

theorem accountLimitsSet_wiring (f) (s : State) : (accountLimitsSet f s).2.wiring = s.wiring := by
  unfold accountLimitsSet
  split <;> rfl

theorem clockSet_wiring (n) (s : State) : (clockSet n s).2.wiring = s.wiring := by
  unfold clockSet
  split <;> rfl

theorem settingsSave_wiring (u) (s : State) : (settingsSave u s).2.wiring = s.wiring := by
  unfold settingsSave
  split <;> rfl

theorem linkSet_wiring (f) (s : State) : (linkSet f s).2.wiring = s.wiring := by
  unfold linkSet
  split
  · rfl
  · dsimp only
    split <;> rfl

theorem noticeMaskSet_wiring (l f) (s : State) : (noticeMaskSet l f s).2.wiring = s.wiring := by
  unfold noticeMaskSet
  split <;> rfl

/-! ## Receipts, stock and the journal -/

theorem receiptOpen_wiring (n) (s : State) : (receiptOpen n s).2.wiring = s.wiring := by
  unfold receiptOpen
  split
  · rfl
  · dsimp only
    split
    · rfl
    · simp

theorem receiptClose_wiring (f) (s : State) : (receiptClose f s).2.wiring = s.wiring := by
  unfold receiptClose
  split
  · rfl
  · split
    · rfl
    · split
      · rfl
      · dsimp only
        split
        · rfl
        · cases f.docket with
          | none => dsimp only [Option.map_none]; split <;> simp
          | some d => dsimp only [Option.map_some]; split <;> simp

theorem receiptCancel_wiring (n) (s : State) : (receiptCancel n s).2.wiring = s.wiring := by
  unfold receiptCancel
  split
  · rfl
  · split
    · rfl
    · simp

theorem stockSet_wiring (f) (s : State) : (stockSet f s).2.wiring = s.wiring := by
  unfold stockSet
  split
  · rfl
  · dsimp only
    split
    · rfl
    · simp

theorem journalRelease_wiring (n) (s : State) : (journalRelease n s).2.wiring = s.wiring := by
  unfold journalRelease
  split
  · rfl
  · split
    · rfl
    · split <;> rfl

/-! ## Accounts -/

theorem withAccount_wiring (m : Nat) (ok idle : Bool) {act : Account → Answer × State}
    (h : ∀ a, (act a).2.wiring = s.wiring) : (withAccount s m ok idle act).2.wiring = s.wiring := by
  unfold withAccount
  split
  · rfl
  · split
    · rfl
    · split
      · rfl
      · exact h _

theorem accountCreate_wiring (f) (s : State) : (accountCreate f s).2.wiring = s.wiring := by
  unfold accountCreate
  split <;> rfl

theorem accountEdit_wiring (f) (s : State) : (accountEdit f s).2.wiring = s.wiring := withAccount_wiring _ _ _ fun _ => rfl
theorem accountDelete_wiring (m) (s : State) : (accountDelete m s).2.wiring = s.wiring := withAccount_wiring _ _ _ fun _ => rfl

theorem accountBlock_wiring (m) (s : State) : (accountBlock m s).2.wiring = s.wiring :=
  withAccount_wiring _ _ _ fun _ => by split <;> rfl

theorem accountUnblock_wiring (m) (s : State) : (accountUnblock m s).2.wiring = s.wiring :=
  withAccount_wiring _ _ _ fun _ => by split <;> rfl

theorem hoursConfirm_wiring (m) (s : State) : (hoursConfirm m s).2.wiring = s.wiring :=
  withAccount_wiring _ _ _ fun _ => by split <;> rfl

theorem hoursRebase_wiring (f) (s : State) : (hoursRebase f s).2.wiring = s.wiring := by
  unfold hoursRebase
  split
  · rfl
  · exact withAccount_wiring _ _ _ fun _ => rfl

theorem lubeSet_wiring (f) (s : State) : (lubeSet f s).2.wiring = s.wiring := by
  rw [lubeSet_eq]
  split
  · rfl
  · exact withAccount_wiring _ _ _ fun _ => rfl

/-! ## Orders (R6, R14 to R19) -/

theorem withOrder_outputsKept (n : Nat) {act : IslandNo → Order → Answer × State} (h : ∀ i o, OutputsKept s (act i o).2) :
    OutputsKept s (withOrder s n act).2 := by
  unfold withOrder
  split
  · exact .refl s
  · split
    · exact .refl s
    · exact h _ _

theorem orderAdmit_outputsKept (f) (s : State) : OutputsKept s (orderAdmit f s).2 := by
  unfold orderAdmit
  split
  · exact .refl s
  · exact ((s.createOrder_work _ _ _).trans (State.nextGroup_work _ _)).settled

theorem orderHold_outputsKept (n) (s : State) : OutputsKept s (orderHold n s).2 := by
  refine withOrder_outputsKept n fun i o => ?_
  split
  · split
    · exact .same (s.modOrder_wiring i _ fun _ => rfl)
    · exact .same ((State.raiseAt_wiring _ _ _).trans (s.modOrder_wiring i _ fun _ => rfl))
  · exact .refl s

/-- Work that ends with an order's end when nothing keeps it alive (R24). -/
theorem Work.orderClosed {s t : State} (h : Work s t) (i : IslandNo) : OutputsKept s (t.drain.endIfDone i).alignOutputs :=
  (h.trans (t.drain_work.trans (State.endIfDone_work _ i))).aligned

theorem orderContinue_outputsKept (n) (s : State) : OutputsKept s (orderContinue n s).2 := by
  refine withOrder_outputsKept n fun i o => ?_
  dsimp only
  split
  · split
    · exact ((s.modOrder_work _ _).trans ((State.resumeOrder_work _ _).trans (State.startIfIdle_work _ _))).orderClosed i
    · exact .refl s
  · exact ((s.modOrder_work _ _).trans (State.nextGroup_work _ _)).settled
  · exact .refl s
  · exact .same (s.modOrder_wiring i _ fun _ => rfl)
  · split
    · split
      · exact (s.resumeOrder_work i).settled
      · exact .refl s
    · exact .refl s
  · exact .refl s

theorem orderCancel_outputsKept (n) (s : State) : OutputsKept s (orderCancel n s).2 := by
  refine withOrder_outputsKept n fun i o => ?_
  split
  · exact .refl s
  · exact ((s.modOrder_work _ _).trans (State.closeSteps_work _ _ _)).orderClosed i

theorem stepStop_outputsKept (f) (s : State) : OutputsKept s (stepStop f s).2 := by
  unfold stepStop
  split
  · exact .refl s
  · split
    · exact .refl s
    · split
      · exact .refl s
      · dsimp only
        split
        · exact .refl s
        · split
          · exact (s.closeStep_work _ _ _).settled
          · exact .refl s

/-! ## Trips and clears (R163 to R166) -/

theorem tripRequest_outputsKept (r) (s : State) : OutputsKept s (tripRequest r s).2 := by
  unfold tripRequest
  dsimp only
  split <;> exact s.applyReport_outputsKept r

theorem tripIsland_outputsKept (l n) (s : State) : OutputsKept s (tripIsland l n s).2 := by
  unfold tripIsland
  split
  · exact .refl s
  · exact tripRequest_outputsKept _ s

theorem tripTank_outputsKept (l n) (s : State) : OutputsKept s (tripTank l n s).2 := by
  unfold tripTank
  split
  · exact .refl s
  · exact tripRequest_outputsKept _ s

theorem tripHose_outputsKept (l n) (s : State) : OutputsKept s (tripHose l n s).2 := by
  unfold tripHose
  split
  · exact .refl s
  · exact tripRequest_outputsKept _ s

theorem shutdownClear_outputsKept (o) (s : State) : OutputsKept s (shutdownClear o s).2 := by
  unfold shutdownClear
  split
  · exact .refl s
  · split
    · exact .refl s
    · exact (s.setEntry_work o none).aligned

end

end Sys2Proof.Machine
end

section
/-! SUPPORT. Stops and start-ups end with the outputs off, or with the outputs in line (R160, R195, R196, R199). -/

namespace Sys2Proof.Machine

open Sys2Proof.Safety

section
variable (s : State)

/-- The relay and the pump enables are off, as they are while the part does not run (R160). -/
def OutputsOff (s : State) : Prop := s.shut.relay = false ∧ ∀ k : TankNo, s.shut.pumps.get k = false

theorem outputsLaw_of_stopped {s : State} (hr : s.running = false) (hoff : OutputsOff s) : OutputsLaw s :=
  ⟨fun hrun => absurd (hr.symm.trans hrun) nofun, fun _ => hoff⟩

theorem State.stop_outputsOff (cut) : OutputsOff (s.stop cut) := ⟨rfl, fun _ => Table.get_replicate ..⟩

/-- A part that is off or held in its external reset does not run. -/
theorem State.running_eq_false (h : s.powered = false ∨ s.pins.reset = true) : s.running = false := by
  rcases h with h | h <;> simp [State.running, h]

theorem State.lose_lawful (cut) (h : OutputsLaw s) : OutputsLaw (s.lose cut) := by
  unfold State.lose
  split
  · exact outputsLaw_of_stopped (State.running_eq_false _ (.inl rfl)) (s.stop_outputsOff cut)
  · exact h

/-- A part that was off or held in its external reset already does not run, so that its outputs are off. -/
theorem State.resetOn_lawful (cut) (h : OutputsLaw s) : OutputsLaw (s.resetOn cut) := by
  unfold State.resetOn
  dsimp only
  split
  · exact outputsLaw_of_stopped (State.running_eq_false _ (.inr rfl)) (State.stop_outputsOff _ cut)
  · next hidle =>
    have hoff : s.running = false := by
      rw [Bool.not_eq_true] at hidle
      rw [State.running, hidle, Bool.false_and]
    exact outputsLaw_of_stopped (State.running_eq_false _ (.inr rfl)) (h.2 hoff)

/-! ## Start-ups -/

theorem State.adoptStep_wiring (p) : (s.adoptStep p).wiring = s.wiring := by simp [State.adoptStep]

theorem State.restoreOrders_running : s.restoreOrders.running = s.running :=
  foldl_keeps _ State.running (fun u p => running_of_wiring (u.adoptStep_wiring p)) _ _

theorem State.defaultTank_running (k) : (s.defaultTank k).running = s.running := by
  unfold State.defaultTank
  split
  · cases (s.tanks.get k).receipt with
    | none => rfl
    | some r => exact (s.cancelReceipt_work k r).running_eq
  · rfl

theorem State.sampleIsland_work (i) : Work s (s.sampleIsland i) :=
  (s.detectorOn_work i).iteAfter.trans ((State.modIsland_work _ _ _).trans (State.applyReport_work _ _).iteAfter)

theorem State.sampleTank_work (k) : Work s (s.sampleTank k) :=
  (s.modTank_work _ _).trans (State.applyReport_work _ _).iteAfter

theorem State.sampleStop_work : Work s s.sampleStop := (s.modShut_work _).trans (State.applyReport_work _ _).iteAfter

theorem State.sampleWarning_running : s.sampleWarning.running = s.running := by
  unfold State.sampleWarning
  split
  · exact s.warnOn_work.running_eq.trans (running_of_wiring (s.modSupply_wiring _ rfl))
  · exact running_of_wiring s.warnOff_wiring

theorem State.emptyNotices_running : s.emptyNotices.running = s.running :=
  foldl_keeps _ State.running (fun u l => running_of_wiring (u.modPort_wiring l _)) _ _

/-- The last action of a start-up but the notice RESTART brings the outputs into line (R196, R198). -/
theorem State.finishStartUp_wiring (reason) :
    (s.finishStartUp reason).wiring = s.drain.emptyNotices.alignOutputs.wiring :=
  (State.raise_wiring _ _).trans (State.modSupply_wiring _ _ rfl)

theorem State.finishStartUp_running (reason) : (s.finishStartUp reason).running = s.running :=
  (running_of_wiring (s.finishStartUp_wiring reason)).trans
    ((s.drain.emptyNotices_running).trans s.drain_work.running_eq)

/-- No action of a start-up stops the part. -/
theorem State.startAction_running (a : StartAction) : (s.startAction a).running = s.running := by
  cases a with
  | endStep r => exact (s.resetAt_work r).running_eq
  | endOrder i => exact (s.resetHandOff_work i).running_eq
  | load answers => rfl
  | restore => exact s.restoreOrders_running
  | lose => rfl
  | defaultTank k => exact s.defaultTank_running k
  | reportLost => exact (s.applyReport_work .storeLost).running_eq
  | fieldState => rfl
  | sampleCouplings => simp only [State.running, State.startAction, State.sampleCouplings]
  | sampleIsland i => exact (s.sampleIsland_work i).running_eq
  | sampleTank k => exact (s.sampleTank_work k).running_eq
  | sampleStop => exact s.sampleStop_work.running_eq
  | sampleWarning => exact s.sampleWarning_running
  | finish reason => exact s.finishStartUp_running reason

theorem State.finishStartUp_lawful {s : State} (hr : s.running = true) (reason) : OutputsLaw (s.finishStartUp reason) :=
  outputsLaw_of_wiring (s.finishStartUp_wiring reason)
    (State.alignOutputs_lawful ((s.drain.emptyNotices_running.trans s.drain_work.running_eq).trans hr))

/-- A start-up that goes no further has its outputs off, and the part does not run. -/
theorem State.stopsThere_lawful : OutputsLaw s.stopsThere := by
  refine outputsLaw_of_stopped ?_ ⟨rfl, fun _ => Table.get_replicate ..⟩
  exact Bool.and_false _

/-- A start-up of a part that can run, to its end or as far as it goes. -/
theorem State.startUp_lawful {s : State} (hr : s.running = true) (l : List StartAction) (reason : RestartReason) (reach) :
    OutputsLaw (s.startUp (l ++ laterActions reason) reach) := by
  cases reach with
  | actions n =>
    rw [State.startUp]
    exact State.stopsThere_lawful _
  | whole =>
    have hready := (foldl_keeps _ State.running State.startAction_running (l ++ lateActions reason) s).trans hr
    rw [laterActions_eq, ← List.append_assoc, State.startUp, List.foldl_concat]
    exact State.finishStartUp_lawful hready reason

theorem State.startPower_lawful (hp : s.powered = true) (hreset : s.pins.reset = false) (r answers reach) :
    OutputsLaw (s.startPower r answers reach) := by
  have hrun : (s.stageOne.modSupply fun u => { u with retention := r }).running = true := by
    change (s.powered && !s.pins.reset && !false) = true
    rw [hp, hreset]
    rfl
  cases r with
  | kept => exact State.startUp_lawful hrun _ .powerOnKept reach
  | lost => exact State.startUp_lawful hrun _ .powerOnLost reach

/-- A part held in its external reset stays off at a power-on (R199). -/
theorem State.power_lawful (r answers reach) : OutputsLaw (s.power r answers reach) := by
  unfold State.power
  dsimp only
  split
  · next hreset =>
    have hoff := State.stop_outputsOff { s.lose .beforeMark with powered := true } .beforeMark
    cases r with
    | kept => exact outputsLaw_of_stopped (State.running_eq_false _ (.inr hreset)) hoff
    | lost => exact outputsLaw_of_stopped (State.running_eq_false _ (.inr hreset)) hoff
  · next hreset =>
    exact State.startPower_lawful { s.lose .beforeMark with powered := true } rfl (Bool.eq_false_iff.mpr hreset) r answers reach

/-- The external reset input is negated: a powered part that was held starts up; any other runs or not as before (R199). -/
theorem State.resetOff_lawful (answers reach) (h : OutputsLaw s) : OutputsLaw (s.resetOff answers reach) := by
  unfold State.resetOff
  dsimp only
  split
  · next hheld =>
    obtain ⟨-, hp⟩ := Bool.and_eq_true_iff.mp hheld
    refine State.startUp_lawful ?_ _ .externalReset reach
    change (s.powered && !false && !false) = true
    rw [hp]
    rfl
  · next hheld =>
    cases hreset : s.pins.reset with
    | false => exact outputsLaw_of_wiring (s.modPins_wiring _ hreset.symm) h
    | true =>
      have hp : s.powered = false := by simpa [hreset] using hheld
      exact outputsLaw_of_stopped (State.running_eq_false _ (.inl hp)) (h.2 (s.running_eq_false (.inl hp)))

end

end Sys2Proof.Machine
end

section
/-! FAMILY. The law of the outputs, as every step keeps it (R159, R160, R199). -/

namespace Sys2Proof.Machine

open Sys2Proof.Safety

/-! ## Commands and the law of the outputs -/

section
variable {s : State}

/-- A request is taken only by a part that runs, and keeps the law when its owner does (R176). -/
theorem State.serve_lawful {α : Type} (self : Instr) (l : Link) (tag : Half) (k : Kind) (b : Sent α)
    {owner : α → State → Answer × State} (h : ∀ a s, OutputsKept s (owner a s).2) (hlaw : OutputsLaw s) :
    OutputsLaw (s.serve self l tag k b owner) := by
  rcases s.serve_cases self l tag k b owner with ⟨-, e⟩ | ⟨-, r, -, e⟩ | ⟨-, -, -, e⟩ | ⟨htaken, -, a, -, e⟩ <;> rw [e]
  · exact hlaw
  · exact outputsLaw_of_wiring (s.answer_wiring _ _ _ _) hlaw
  · exact outputsLaw_of_wiring (s.answer_wiring _ _ _ _) hlaw
  · obtain ⟨hrun, -⟩ := Bool.and_eq_true_iff.mp htaken
    exact outputsLaw_of_wiring (State.answer_wiring _ _ _ _ _) (h a s hrun hlaw)

/-- A request keeps the law when its owner leaves the wiring as it is. -/
theorem State.serve_sameWiring {α : Type} (self : Instr) (l : Link) (tag : Half) (k : Kind) (b : Sent α)
    {owner : α → State → Answer × State} (h : ∀ a s, (owner a s).2.wiring = s.wiring) (hlaw : OutputsLaw s) :
    OutputsLaw (s.serve self l tag k b owner) := State.serve_lawful self l tag k b (fun a s => .same (h a s)) hlaw

/-- An event keeps the law when what a running part does with it does. -/
theorem State.whileRunning_lawful {f : State → State} (h : OutputsKept s (f s)) (hlaw : OutputsLaw s) :
    OutputsLaw (s.whileRunning f) := by
  rcases s.whileRunning_cases f with ⟨hrun, e⟩ | ⟨-, e⟩ <;> rw [e]
  · exact h hrun hlaw
  · exact hlaw

/-- A change of an input other than the external reset keeps the law when its block does, which takes it as an event or is at that
level already (R75). -/
theorem State.input_lawful {p : Pins → Pins} (hp : (p s.pins).reset = s.pins.reset) {f : State → State}
    (h : ∀ s, OutputsKept s (f s)) (hlaw : OutputsLaw s) : OutputsLaw ((s.modPins p).whileRunning f) :=
  State.whileRunning_lawful (h _) (outputsLaw_of_wiring (s.modPins_wiring p hp) hlaw)

/-- A report that is taken is no longer on its way (R151). -/
theorem State.takenReport_outputsKept (s : State) (r : Report) :
    OutputsKept s (State.applyReport { s with reports := s.reports.erase r } r) :=
  .afterSame (t := { s with reports := s.reports.erase r }) rfl (State.applyReport_outputsKept _ r)

/-- Every command keeps the law of the outputs. -/
theorem exec_lawful (c : Instr) (hlaw : OutputsLaw s) : ∃ t, exec c s = .next t ∧ OutputsLaw t := by
  cases c with
  | orderRead l tag b | islandRead l tag b | tankRead l tag b | hoseRead l tag b | shutdownRead l tag b | warnRead l tag b
  | journalRead l tag b | journalStatus l tag b | accountRead l tag b | accountNext l tag b | clockRead l tag b
  | supplyRead l tag b | identify l tag b | linkStatus l tag b =>
    exact ⟨_, rfl, State.serve_sameWiring _ l tag _ b (owner := reading _) (fun _ _ => rfl) hlaw⟩
  | orderAdmit l tag b => exact ⟨_, rfl, State.serve_lawful _ l tag _ b orderAdmit_outputsKept hlaw⟩
  | orderHold l tag b => exact ⟨_, rfl, State.serve_lawful _ l tag _ b orderHold_outputsKept hlaw⟩
  | orderContinue l tag b => exact ⟨_, rfl, State.serve_lawful _ l tag _ b orderContinue_outputsKept hlaw⟩
  | orderCancel l tag b => exact ⟨_, rfl, State.serve_lawful _ l tag _ b orderCancel_outputsKept hlaw⟩
  | stepStop l tag b => exact ⟨_, rfl, State.serve_lawful _ l tag _ b stepStop_outputsKept hlaw⟩
  | hoseSet l tag b => exact ⟨_, rfl, State.serve_sameWiring _ l tag _ b hoseSet_wiring hlaw⟩
  | islandSet l tag b => exact ⟨_, rfl, State.serve_sameWiring _ l tag _ b islandSetRequest_wiring hlaw⟩
  | tankSet l tag b => exact ⟨_, rfl, State.serve_sameWiring _ l tag _ b tankSet_wiring hlaw⟩
  | fluidSet l tag b => exact ⟨_, rfl, State.serve_sameWiring _ l tag _ b fluidSet_wiring hlaw⟩
  | strapLoad l tag b => exact ⟨_, rfl, State.serve_sameWiring _ l tag _ b strapLoad_wiring hlaw⟩
  | causeSet l tag b => exact ⟨_, rfl, State.serve_sameWiring _ l tag _ b causeSet_wiring hlaw⟩
  | accountLimitsSet l tag b => exact ⟨_, rfl, State.serve_sameWiring _ l tag _ b accountLimitsSet_wiring hlaw⟩
  | linkSet l tag b => exact ⟨_, rfl, State.serve_sameWiring _ l tag _ b linkSet_wiring hlaw⟩
  | clockSet l tag b => exact ⟨_, rfl, State.serve_sameWiring _ l tag _ b clockSet_wiring hlaw⟩
  | settingsSave l tag b => exact ⟨_, rfl, State.serve_sameWiring _ l tag _ b settingsSave_wiring hlaw⟩
  | receiptOpen l tag b => exact ⟨_, rfl, State.serve_sameWiring _ l tag _ b receiptOpen_wiring hlaw⟩
  | receiptClose l tag b => exact ⟨_, rfl, State.serve_sameWiring _ l tag _ b receiptClose_wiring hlaw⟩
  | receiptCancel l tag b => exact ⟨_, rfl, State.serve_sameWiring _ l tag _ b receiptCancel_wiring hlaw⟩
  | stockSet l tag b => exact ⟨_, rfl, State.serve_sameWiring _ l tag _ b stockSet_wiring hlaw⟩
  | accountCreate l tag b => exact ⟨_, rfl, State.serve_sameWiring _ l tag _ b accountCreate_wiring hlaw⟩
  | accountEdit l tag b => exact ⟨_, rfl, State.serve_sameWiring _ l tag _ b accountEdit_wiring hlaw⟩
  | accountBlock l tag b => exact ⟨_, rfl, State.serve_sameWiring _ l tag _ b accountBlock_wiring hlaw⟩
  | accountUnblock l tag b => exact ⟨_, rfl, State.serve_sameWiring _ l tag _ b accountUnblock_wiring hlaw⟩
  | accountDelete l tag b => exact ⟨_, rfl, State.serve_sameWiring _ l tag _ b accountDelete_wiring hlaw⟩
  | hoursConfirm l tag b => exact ⟨_, rfl, State.serve_sameWiring _ l tag _ b hoursConfirm_wiring hlaw⟩
  | hoursRebase l tag b => exact ⟨_, rfl, State.serve_sameWiring _ l tag _ b hoursRebase_wiring hlaw⟩
  | lubeSet l tag b => exact ⟨_, rfl, State.serve_sameWiring _ l tag _ b lubeSet_wiring hlaw⟩
  | journalRelease l tag b => exact ⟨_, rfl, State.serve_sameWiring _ l tag _ b journalRelease_wiring hlaw⟩
  | shutdownClear l tag b => exact ⟨_, rfl, State.serve_lawful _ l tag _ b shutdownClear_outputsKept hlaw⟩
  | tripBay l tag b => exact ⟨_, rfl, State.serve_lawful _ l tag _ b (fun _ => tripRequest_outputsKept _) hlaw⟩
  | tripIsland l tag b => exact ⟨_, rfl, State.serve_lawful _ l tag _ b (tripIsland_outputsKept l) hlaw⟩
  | tripTank l tag b => exact ⟨_, rfl, State.serve_lawful _ l tag _ b (tripTank_outputsKept l) hlaw⟩
  | tripHose l tag b => exact ⟨_, rfl, State.serve_lawful _ l tag _ b (tripHose_outputsKept l) hlaw⟩
  | noticeFetch l tag b => exact ⟨_, rfl, State.serve_sameWiring _ l tag _ b (fun _ s => s.modPort_wiring l _) hlaw⟩
  | noticeMaskSet l tag b => exact ⟨_, rfl, State.serve_sameWiring _ l tag _ b (noticeMaskSet_wiring l) hlaw⟩
  | linkReset l tag b => exact ⟨_, rfl, State.whileRunning_lawful (.same (s.arriveReset_wiring l tag b)) hlaw⟩
  | unknownKindRequest l tag kind => exact ⟨_, rfl, outputsLaw_of_wiring (by simp) hlaw⟩
  | linkByteReceived l b => exact ⟨_, rfl, State.whileRunning_lawful (.same (s.receive_wiring l b)) hlaw⟩
  | frameTimerExpiry l => exact ⟨_, rfl, State.whileRunning_lawful (.same (s.frameExpiry_wiring l)) hlaw⟩
  | replySent l => exact ⟨_, rfl, State.whileRunning_lawful (.same (s.modPort_wiring l _)) hlaw⟩
  | meterPulse h => exact ⟨_, rfl, State.whileRunning_lawful (s.pulse_work h).settled hlaw⟩
  | probeReading h r => exact ⟨_, rfl, State.whileRunning_lawful (.same (s.probe_wiring h r)) hlaw⟩
  | hoseCoupled h =>
    exact ⟨_, rfl, State.input_lawful rfl (fun s => (OutputsKept.refl s).ite (s.couple_work h).settled) hlaw⟩
  | hoseUncoupled h => exact ⟨_, rfl, State.input_lawful rfl (fun s => (s.uncouple_work h).settled.iteAfter) hlaw⟩
  | detectorAsserted i =>
    exact ⟨_, rfl, State.input_lawful rfl (fun s => (OutputsKept.refl s).ite (s.detectorOn_work i).settled) hlaw⟩
  | detectorNegated i => exact ⟨_, rfl, State.input_lawful rfl (fun s => (s.detectorOff_work i).settled.iteAfter) hlaw⟩
  | arrivalDebounceExpiry i => exact ⟨_, rfl, State.whileRunning_lawful (s.arrivalExpiry_work i).settled hlaw⟩
  | leavingDebounceExpiry i => exact ⟨_, rfl, State.whileRunning_lawful (s.leavingExpiry_work i).settled hlaw⟩
  | sumpFloatChange i level =>
    exact ⟨_, rfl, State.input_lawful rfl (fun s => (OutputsKept.refl s).ite (.same (s.floatLevel_wiring i level))) hlaw⟩
  | gaugeReadingValid k level tenths =>
    exact ⟨_, rfl, State.whileRunning_lawful (.same (s.gaugeValid_wiring k level tenths)) hlaw⟩
  | gaugeReadingFaulty k => exact ⟨_, rfl, State.whileRunning_lawful (.same (s.gaugeFaulty_wiring k)) hlaw⟩
  | gaugeStaleExpiry k => exact ⟨_, rfl, State.whileRunning_lawful (.same (s.gaugeStale_wiring k)) hlaw⟩
  | overfillProbeChange k level =>
    exact ⟨_, rfl, State.input_lawful rfl (fun s => (OutputsKept.refl s).ite (.same (s.probeLevel_wiring k level))) hlaw⟩
  | leakQuietExpiry k => exact ⟨_, rfl, State.whileRunning_lawful (.same (s.leakQuiet_wiring k)) hlaw⟩
  | emergencyStopChange level =>
    exact ⟨_, rfl, State.input_lawful rfl (fun s => (OutputsKept.refl s).ite (s.stopLevel_outputsKept level)) hlaw⟩
  | coupleWaitExpiry h => exact ⟨_, rfl, State.whileRunning_lawful (s.coupleWait_work h).settled hlaw⟩
  | stallTimerExpiry h => exact ⟨_, rfl, State.whileRunning_lawful (s.stall_work h).settled hlaw⟩
  | rateWindowExpiry h => exact ⟨_, rfl, State.whileRunning_lawful (.same (s.rateWindow_wiring h)) hlaw⟩
  | settleTimerExpiry h => exact ⟨_, rfl, State.whileRunning_lawful (s.settleEnd_work h).settled hlaw⟩
  | strayQuietExpiry h => exact ⟨_, rfl, State.whileRunning_lawful (.same (s.strayQuiet_wiring h)) hlaw⟩
  | shutdownReport r => exact ⟨_, rfl, State.whileRunning_lawful (s.takenReport_outputsKept r) hlaw⟩
  | saveCompletion e => exact ⟨_, rfl, State.whileRunning_lawful (.same (s.endSave_wiring e)) hlaw⟩
  | powerFailWarningAsserted =>
    exact ⟨_, rfl, State.input_lawful rfl (fun s => (OutputsKept.refl s).ite s.warnOn_outputsKept) hlaw⟩
  | powerFailWarningNegated =>
    exact ⟨_, rfl, State.input_lawful rfl (fun s => (OutputsKept.same s.warnOff_wiring).iteAfter) hlaw⟩
  | supplyLoss cut => exact ⟨_, rfl, s.lose_lawful cut hlaw⟩
  | powerOn r run => exact ⟨_, rfl, s.power_lawful r run.answers run.reach⟩
  | externalResetAsserted cut => exact ⟨_, rfl, s.resetOn_lawful cut hlaw⟩
  | externalResetNegated run => exact ⟨_, rfl, s.resetOff_lawful run.answers run.reach hlaw⟩
  | bayClockTick => exact ⟨_, rfl, outputsLaw_of_wiring (s.modSupply_wiring _ rfl) hlaw⟩

end

/-- Settles O58: the queue is no part of the wiring, and neither a tenth of a second (`State.idle_wiring`) nor a command
(`exec_lawful`) breaks the law of the outputs; a command brings them into line whether or not an end report was on its way. -/
theorem outputsLawIsKept : Obligations.OutputsLawIsKept := by
  intro s t hlaw _ h
  unfold step at h
  split at h
  · cases h
    exact outputsLaw_of_wiring s.idle_wiring hlaw
  · next c rest _ =>
    have hqueue : OutputsLaw { s with pending := rest } := outputsLaw_of_wiring rfl hlaw
    obtain ⟨u, hu, hkept⟩ := exec_lawful c hqueue
    cases hu.symm.trans h
    exact hkept

end Sys2Proof.Machine
end

section
/-! FAMILY. What the reads and the clears of the shutdown unit answer (R149, R165, R166, R168). -/

namespace Sys2Proof.Machine

open Sys2Proof.Safety

/-! ## The condition of a cause (R149) -/

theorem State.conditionPresent_iff (s : State) (c : Cause) (o : Scope) : s.conditionPresent c o = true ↔ ConditionHolds s c o := by
  cases c with
  | bayStop | sumpHigh | overfill | gaugeFault => cases o <;> simp [State.conditionPresent, ConditionHolds]
  | strayFlow => cases o <;> simp [State.conditionPresent, ConditionHolds, Option.isSome_iff_ne_none]
  | storeLost | driveAway | leak | hoseBreak | runOn | linkTrip => simp [State.conditionPresent, ConditionHolds]

/-! ## SHUTDOWN_READ (R168) -/

/-- The latched objects at or after an object, in scope order. -/
def State.latchedFrom (s : State) (o : Scope) : List Scope :=
  Scope.codes.filter fun x => decide (o.code ≤ x.code) && (s.entryAt x).isSome

/-- An entry listed is that of its object, with the condition by the table of R149. -/
theorem entryView_holds {s : State} {o : Scope} {w : EntryView} (h : entryView s o = some w) :
    s.entryAt w.object = some w.entry ∧ (w.conditionPresent = true ↔ ConditionHolds s w.entry.firstCause w.object) := by
  obtain ⟨e, he, rfl⟩ := Option.map_eq_some_iff.mp h
  exact ⟨he, s.conditionPresent_iff _ _⟩

/-- The objects of the entries listed are those that are latched. -/
theorem entryViews_objects (s : State) (l : List Scope) :
    (l.filterMap (entryView s)).map (·.object) = l.filter fun x => (s.entryAt x).isSome := by
  rw [List.map_filterMap, ← List.filterMap_eq_filter]
  congr 1
  funext x
  unfold entryView
  cases he : s.entryAt x <;> simp [Option.guard, he]

/-- Scope order is the order of the codes. -/
theorem Scope.codes_ascending : Scope.codes.Pairwise fun x y => x.code < y.code := by decide

theorem scopesFrom_eq (o : Scope) : scopesFrom o = Scope.codes.filter fun x => decide (o.code ≤ x.code) := by
  cases o with
  | bay => decide
  | island i => revert i; decide
  | tank k => revert k; decide
  | hose h => revert h; decide

theorem shutdownRead_objects (s : State) (o : Scope) :
    ((scopesFrom o).filterMap (entryView s)).map (·.object) = s.latchedFrom o := by
  rw [entryViews_objects, scopesFrom_eq, List.filter_filter, State.latchedFrom]
  exact List.filter_congr fun x _ => Bool.and_comm _ _

/-- The object after one that another follows in scope order exists (R168). -/
theorem scopeAfter_ne_none {x y : Scope} (h : x.code < y.code) : scopeAfter x ≠ none := by
  have hlt : x.code.val + 1 < Scope.codes.length := Nat.lt_of_le_of_lt h y.code.isLt
  rw [scopeAfter, List.getElem?_eq_getElem hlt]
  nofun

/-- Where more than `n + 1` entries are found, the last of the first `n + 1` has an object after it. -/
theorem listed_next {s : State} {o : Scope} {n : Nat} (hlen : n + 1 < ((scopesFrom o).filterMap (entryView s)).length) :
    ((((scopesFrom o).filterMap (entryView s)).take (n + 1)).getLast?.bind fun v => scopeAfter v.object) ≠ none := by
  have hobj := shutdownRead_objects s o
  generalize (scopesFrom o).filterMap (entryView s) = found at hlen hobj
  have hasc : (found.map (·.object)).Pairwise fun x y => x.code < y.code := by
    rw [hobj]
    exact Scope.codes_ascending.filter _
  have hlast : (found.take (n + 1)).getLast? = some found[n] := by
    rw [List.getLast?_take, if_neg (Nat.succ_ne_zero n), Nat.add_sub_cancel, List.getElem?_eq_getElem (Nat.lt_of_succ_lt hlen)]
    rfl
  rw [hlast, Option.bind_some]
  exact scopeAfter_ne_none (List.pairwise_iff_getElem.mp (List.pairwise_map.mp hasc) n (n + 1) _ hlen (Nat.lt_succ_self n))

/-- Settles O28: the entries listed are views of latched objects (`entryView_holds`), those that `State.latchedFrom` lists
(`shutdownRead_objects`), and where there are more than twelve another object follows the last one listed (`listed_next`). -/
theorem shutdownReadListsTheMap : Obligations.ShutdownReadListsTheMap := by
  intro l tag sel s hA
  cases sel with
  | one o =>
    refine ⟨_, State.replies_of_owner hA (reading shutdownRead) rfl rfl, rfl, rfl, rfl, fun w hw => ?_, ?_, nofun⟩
    · exact entryView_holds (Option.mem_toList.mp hw)
    · rintro o' ⟨⟩
      dsimp only
      unfold entryView
      cases s.entryAt o <;> rfl
  | all o =>
    refine ⟨_, State.replies_of_owner hA (reading shutdownRead) rfl rfl, rfl, rfl, rfl, fun w hw => ?_, nofun, ?_⟩
    · obtain ⟨x, -, hx⟩ := List.mem_filterMap.mp (List.mem_of_mem_take hw)
      exact entryView_holds hx
    · rintro o' ⟨⟩
      have hobjects := shutdownRead_objects s o
      have hlength := congrArg List.length hobjects
      rw [List.length_map] at hlength
      refine ⟨(List.map_take ..).trans (congrArg (List.take 12) hobjects), ?_⟩
      change _ ↔ (s.latchedFrom o).length ≤ 12
      rw [← hlength]
      by_cases hfew : ((scopesFrom o).filterMap (entryView s)).length ≤ 12
      · exact iff_of_true (if_pos hfew) hfew
      · exact iff_of_false (fun hnone => listed_next (Nat.lt_of_not_le hfew) ((if_neg hfew).symm.trans hnone)) hfew

/-! ## SHUTDOWN_CLEAR (R165, R166) -/

theorem State.clearBarred_iff (s : State) (o : Scope) (e : Entry) :
    s.clearBarred o e = true ↔ ConditionHolds s e.firstCause o ∨ (o = .bay ∧ s.shut.stop = true) := by
  rw [State.clearBarred, Bool.or_eq_true, Bool.and_eq_true, State.conditionPresent_iff, decide_eq_true_iff]

section
variable {s : State} {o : Scope} {e : Entry}

theorem shutdownClear_notLatched (h : s.entryAt o = none) : shutdownClear o s = (refuse .notLatched, s) := by
  rw [shutdownClear, h]

theorem shutdownClear_latched (h : s.entryAt o = some e) : shutdownClear o s =
    if s.clearBarred o e then (refuse .conditionPresent, s)
    else ((.ok, .cleared e.firstCause e.capture e.repeats), (s.setEntry o none).alignOutputs) := by
  rw [shutdownClear, h]

/-- The map with an entry written, read at each object. -/
theorem State.setEntry_entryAt (s : State) (o : Scope) (e : Option Entry) (x : Scope) :
    (s.setEntry o e).entryAt x = if x = o then e else s.entryAt x := by
  refine (Table.put_get s.shut.map o.code x.code e).trans ?_
  rw [if_congr Scope.code_injective.eq_iff rfl rfl]
  rfl

end

/-- Settles O29: the checks of R165 in order (`State.clearBarred_iff`), and the removal of the entry with the outputs brought into
line. -/
theorem shutdownClearRemovesTheEntry : Obligations.ShutdownClearRemovesTheEntry := by
  intro l tag o s hA c
  have hrep {code : Code} {res : Results} {u : State} (h : shutdownClear o s = ((code, res), u)) :
      Replies c s u l tag .shutdownClear code res := State.replies_of_owner hA shutdownClear rfl h
  refine ⟨fun hn => hrep (shutdownClear_notLatched hn), fun e he => ⟨fun hbar => ?_, fun hc ho => ?_⟩⟩
  · exact hrep ((shutdownClear_latched he).trans (if_pos ((s.clearBarred_iff o e).mpr hbar)))
  · have hfree : ¬ s.clearBarred o e = true := by
      rw [State.clearBarred_iff]
      rintro (h | ⟨hbay, hstop⟩)
      · exact hc h
      · rcases ho with h | h
        · exact h hbay
        · exact absurd (h.symm.trans hstop) nofun
    refine ⟨_, hrep ((shutdownClear_latched he).trans (if_neg hfree)), rfl, ?_, fun x hx => ?_, State.alignOutputs_follow rfl⟩
    · exact (s.setEntry_entryAt o none o).trans (if_pos rfl)
    · exact (s.setEntry_entryAt o none x).trans (if_neg hx)

end Sys2Proof.Machine
end

section
/-! FAMILY. What the reads of the other blocks carry (R169, R184, R200, R201). -/

namespace Sys2Proof.Machine

open Sys2Proof.Safety

theorem mem_noticeKind_codes (k : NoticeKind) : k ∈ NoticeKind.codes := by cases k <;> decide

/-- The kinds that a LINK_STATUS lists are those with a pending entry (R184). -/
theorem mem_pendingKinds {n : Table (Option NoticeEntry) 13} {k : NoticeKind} :
    k ∈ (pendingEntries n).map (·.1) ↔ n.get k.index ≠ none := by
  simp only [pendingEntries, List.mem_map, List.mem_filterMap, Option.map_eq_some_iff]
  constructor
  · rintro ⟨-, ⟨k', -, e, he, rfl⟩, rfl⟩
    rw [he]
    nofun
  · intro h
    obtain ⟨e, he⟩ := Option.ne_none_iff_exists'.mp h
    exact ⟨(k, e), ⟨k, mem_noticeKind_codes k, e, he, rfl⟩, rfl⟩

/-- Settles O9: each of the four reads carries the fields of its block (`State.serve_reads`); the orders held for power are some of
the four islands' orders, and the kinds listed are those of `mem_pendingKinds`. -/
theorem blockReadsCarryTheBlock : Obligations.BlockReadsCarryTheBlock := by
  intro l tag s
  refine ⟨fun hA => ?_, fun hA => ?_, fun hA => ?_, fun hA => ?_⟩
  · exact ⟨_, rfl, State.serve_reads hA tag () fun _ => clockRead⟩
  · exact ⟨_, rfl, State.serve_reads hA tag () fun _ => warnRead⟩
  · have hislands : allIslands.length = 4 := List.length_finRange
    exact ⟨_, _, rfl, State.serve_reads hA tag () fun _ => supplyRead, rfl, rfl, rfl, rfl, rfl, rfl,
      Option.isSome_iff_ne_none, rfl, rfl, (List.length_filter_le _ _).trans_eq hislands⟩
  · exact ⟨_, _, rfl, State.serve_reads hA tag () fun _ => linkStatus l, rfl, rfl, rfl, rfl, rfl, rfl, rfl,
      fun _ => mem_pendingKinds⟩

end Sys2Proof.Machine
end
